-- ==== Sys2Proof/Word.lean ====
section
/-! DEFINITION. The plain word types of the part: bytes as they cross a link, and the numbered things of the part
(ports, channels, hold groups, read slots, catalogue slots), each as the finite range its rule gives. -/

namespace Sys2Proof

/-- One byte of a message, of a record image or of block data. -/
abbrev Byte := BitVec 8

/-- A station port, 0 to 15 (R154, R156). -/
abbrev PortId := Fin 16

/-- A delivery channel, 0 to 7 (R70). -/
abbrev ChannelId := Fin 8

/-- A hold group and its hold line, 0 to 3 (R120). -/
abbrev GroupId := Fin 4

/-- A read slot of the store reader, which is its tag on the store link, 0 to 7 (R107). -/
abbrev ReadTag := Fin 8

/-- A block buffer of a channel, 0 to 3 (R70, R79). -/
abbrev BufferId := Fin 4

/-- A catalogue slot, 0 to 65,535 (R1). -/
abbrev Slot := Fin 65536

/-- A set of hold groups: bit g stands for group g (R171). -/
abbrev Groups := BitVec 4

/-- A set of attention causes: bits 0 to 7 in the order of the cause table of R166 (R171). -/
abbrev CauseSet := BitVec 8

/-- The reason a BLOCK_FAIL carries (R106). -/
inductive FailReason where
  | unreadable
  | absent
  deriving DecidableEq, Repr

end Sys2Proof
end

