-- ==== Sys2Proof/Syntax.lean ====
section
/-! DEFINITION. The commands of the part: one constructor for each row of spec/opcode_table.json, in the table's order.
A command is one whole and indivisible step of the part: an arrival on a link, an event on a pin or of the time base, a
grant of the catalogue engine, or the service of the request that a port has in service. -/

namespace Sys2Proof

/-- The steps of the part. A request row names the port whose request in service is served: the request's own fields
arrived as bytes with REQUEST_ARRIVAL and stand in the port. A channel job names its channel. -/
inductive Instr where
  /-- RESET: power-on or the RESET line; `lines` is the level of each hold line when reset ends (R120, R147). -/
  | reset (lines : Groups)
  /-- WALK_HEADER_READ (R147). -/
  | walkHeaderRead
  /-- WALK_SLOT: the walk places its next slot (R148). -/
  | walkSlot
  /-- WALK_END (R149). -/
  | walkEnd
  /-- MESSAGE_DISCARD: the delivered unit `bytes`, header, body and check, is not in the form of R155. -/
  | messageDiscard (port : PortId) (bytes : List Byte)
  /-- REQUEST_ARRIVAL: a REQUEST whose framing holds arrives with this body (R157). -/
  | requestArrival (port : PortId) (body : List Byte)
  /-- REQUEST_DISPATCH: the port dispatches the head of its intake (R158). -/
  | requestDispatch (port : PortId)
  /-- CREDIT: a CREDIT message arrives (R161). -/
  | credit (port : PortId) (channel : Byte) (amount : BitVec 16)
  /-- ENTER_ITEM (R17). -/
  | enterItem (port : PortId)
  /-- FIND_ITEM (R19). -/
  | findItem (port : PortId)
  /-- DESCRIBE_ITEM (R20). -/
  | describeItem (port : PortId)
  /-- RELEASE_ITEM (R52). -/
  | releaseItem (port : PortId)
  /-- REOPEN_ITEM (R53). -/
  | reopenItem (port : PortId)
  /-- SPLICE (R45). -/
  | splice (port : PortId)
  /-- OPEN_PASS (R27). -/
  | openPass (port : PortId)
  /-- ADD_EXTENT (R28). -/
  | addExtent (port : PortId)
  /-- CLOSE_PASS (R30). -/
  | closePass (port : PortId)
  /-- WITHDRAW_PASS (R32). -/
  | withdrawPass (port : PortId)
  /-- HOLD_ITEM (R124). -/
  | holdItem (port : PortId)
  /-- LIFT_ITEM (R124). -/
  | liftItem (port : PortId)
  /-- SET_GROUPS (R125). -/
  | setGroups (port : PortId)
  /-- RETIRE_ITEM (R137). -/
  | retireItem (port : PortId)
  /-- RESTORE_ITEM (R151). -/
  | restoreItem (port : PortId)
  /-- DISCARD_ITEM (R152). -/
  | discardItem (port : PortId)
  /-- FORMAT_CATALOGUE: the grant of the format and its steps 1 to 3 (R153). -/
  | formatCatalogue (port : PortId)
  /-- FORMAT_COMPLETE: the format's steps 4 to 7 (R153). -/
  | formatComplete
  /-- PIN_ITEM (R132). -/
  | pinItem (port : PortId)
  /-- UNPIN_ITEM (R134). -/
  | unpinItem (port : PortId)
  /-- PIN_COUNTDOWN: the thousandth millisecond tick (R135). -/
  | pinCountdown
  /-- BIND_CHANNEL (R73). -/
  | bindChannel (port : PortId)
  /-- QUEUE_CUE (R75). -/
  | queueCue (port : PortId)
  /-- STOP_CHANNEL (R85). -/
  | stopChannel (port : PortId)
  /-- HALT_CHANNEL (R89). -/
  | haltChannel (port : PortId)
  /-- RESUME_CHANNEL (R90). -/
  | resumeChannel (port : PortId)
  /-- CLEAR_CUT (R91). -/
  | clearCut (port : PortId)
  /-- FLUSH_CHANNEL (R92). -/
  | flushChannel (port : PortId)
  /-- SET_LANES (R98). -/
  | setLanes (port : PortId)
  /-- SET_CUTOFF (R93). -/
  | setCutoff (port : PortId)
  /-- CHANNEL_STATUS (R93). -/
  | channelStatus (port : PortId)
  /-- HOLD_GROUP (R123). -/
  | holdGroup (port : PortId)
  /-- LIFT_GROUP (R123). -/
  | liftGroup (port : PortId)
  /-- STORE_RESET (R119). -/
  | storeReset (port : PortId)
  /-- ACK_ATTENTION (R167). -/
  | ackAttention (port : PortId)
  /-- SET_ATTENTION_MASK (R167). -/
  | setAttentionMask (port : PortId)
  /-- ATTENTION_SUMMARY (R167). -/
  | attentionSummary (port : PortId)
  /-- REARM_ALARM (R168). -/
  | rearmAlarm (port : PortId)
  /-- READ_FAULT_RECORD (R169). -/
  | readFaultRecord (port : PortId)
  /-- CLEAR_FAULT_RECORD (R169). -/
  | clearFaultRecord (port : PortId)
  /-- ASSIGN_ROLE (R160). -/
  | assignRole (port : PortId)
  /-- SET_TIMING (R163). -/
  | setTiming (port : PortId)
  /-- START_RESOLUTION: the engine serves the channel's start resolution (R76). -/
  | startResolution (channel : ChannelId)
  /-- SEGMENT_RESOLUTION: the engine serves the channel's segment resolution (R48). -/
  | segmentResolution (channel : ChannelId)
  /-- DISENGAGE: the engine serves the channel's disengage (R15). -/
  | disengage (channel : ChannelId)
  /-- MIRROR_WRITE: the engine serves the hold unit's job (R122). -/
  | mirrorWrite
  /-- BLOCK_DATA: an answer with data arrives on the store link (R111). -/
  | blockData (tag : Byte) (data : List Byte)
  /-- BLOCK_FAIL: a failure answer arrives on the store link (R112). -/
  | blockFail (tag : Byte) (reason : FailReason)
  /-- READ_TIMEOUT: the timer of an active slot expires (R113). -/
  | readTimeout (tag : ReadTag)
  /-- STORE_MESSAGE_DISCARD: a store link message in bad form arrives (R106). -/
  | storeMessageDiscard (bytes : List Byte)
  /-- COLLECTION_TIMEOUT: a channel's collection wait expires (R94). -/
  | collectionTimeout (channel : ChannelId)
  /-- OUTGOING_ARBITRATION: the port's outgoing link is free (R162). -/
  | outgoingArbitration (port : PortId)
  /-- AUDIO_PIECE: the link is free for the next piece of the message in sending (R162). -/
  | audioPiece (port : PortId)
  /-- HOLD_LINE_RISE (R121). -/
  | holdLineRise (group : GroupId)
  /-- HOLD_LINE_FALL (R121). -/
  | holdLineFall (group : GroupId)
  /-- MILLISECOND_TICK (R135). -/
  | millisecondTick
  deriving DecidableEq, Repr

end Sys2Proof
end

