-- ==== Sys2Proof/Decode.lean ====
section
/-! DEFINITION. The command a table word spells. No row of spec/opcode_table.json gives bits (its "fields" are all empty and
it has no "fixed"), so no word spells a command. The byte layouts that the manual does give, those of requests, replies,
notices, audio pieces and the record image (chapter 13), are in Machine/Operands.lean and Machine/Layouts.lean. -/

namespace Sys2Proof

/-- The command that the `nbits` bits of `w` spell by the table: none, since no row of the table gives bits. -/
def decodeTableWord (_nbits _w : Nat) : Option Instr := none

end Sys2Proof
end

