-- ==== Sys2Proof/Config.lean ====
section
/-! DEFINITION. What the manual fixes as numbers, and the free values: what the manual leaves open. -/

namespace Sys2Proof.Config

/-- Bytes of a store block (R56). -/
abbrev blockBytes : Nat := 65536

/-- Slots of catalogue memory (R1, R143). -/
abbrev slotCount : Nat := 65536

/-- The most requests waiting in a port's intake (R157). -/
abbrev intakeLimit : Nat := 4

/-- The most notices in a port's notice queue (R165). -/
abbrev noticeLimit : Nat := 16

/-- The most pending cues of a channel (R75). -/
abbrev queueLimit : Nat := 16

/-- Frames of a whole audio message (R81). -/
abbrev messageFrames : Nat := 256

/-- The most pins in the pin table (R131). -/
abbrev pinLimit : Nat := 128

/-- The most segments of a rendition (R36). -/
abbrev segmentLimit : Nat := 32

/-- The most extents of a pass (R24). -/
abbrev extentLimit : Nat := 16

/-- The most credit a channel can hold (R161). -/
abbrev creditLimit : Nat := 65535

/-- The greatest value of a 4-byte field. -/
abbrev maxU32 : Nat := 4294967295

/-- FREE VALUE. Where several things come about at one moment and the manual gives no order among them (pins that lapse at
one boundary, channels cut by one latch, channels unbound by one ASSIGN_ROLE, attempts cancelled by one STORE_RESET), they
are taken in the order of these ranks: `orderRank n x` ranks `x` at the `n`-th such moment. Nothing constrains it (log 6). -/
opaque orderRank : Nat → Nat → Nat

end Sys2Proof.Config
end

