-- ==== Sys2Proof/Machine/State.lean ====
section
/-! DEFINITION. The state of the part, block by block, as plain data, and the state right after reset. -/

namespace Sys2Proof.Machine

/-! ### Names shared by several blocks -/

/-- The key of an item (R1). Every value that fits the two fields is a legal key. -/
structure Key where
  accession : BitVec 40
  part : BitVec 8
  deriving DecidableEq, Repr

/-- The role of a port (R156, R159). -/
inductive Role where
  | none
  | production
  | transfer
  | catalogue
  | control
  deriving DecidableEq, Repr

/-- The eight attention causes, in the order of the table of R166. -/
inductive Cause where
  | recordFault
  | recordRepaired
  | storeStalled
  | catalogueOffline
  | linkFault
  | noticeOverflow
  | holdLine
  | walkDone
  deriving DecidableEq, Repr

/-- The part of an item record in which a damaged word lay (R146). -/
inductive RecordPart where
  | key
  | fixedFields
  | passTable
  | rendition
  deriving DecidableEq, Repr

/-- The requester of a catalogue job: a port or a channel (R146). -/
inductive Requester where
  | port (p : PortId)
  | channel (c : ChannelId)
  deriving DecidableEq, Repr

/-! ### Catalogue memory -/

/-- The state field of an item record (R3). A stored state word may also hold a value that is none of the four (R148). -/
inductive ItemState where
  | free
  | review
  | released
  | retiring
  | other (code : Byte)
  deriving DecidableEq, Repr

/-- The state of a pass entry (R21); `other` is a code that an image may carry and that is not sound. -/
inductive PassState where
  | empty
  | opened
  | complete
  | other (code : Byte)
  deriving DecidableEq, Repr

/-- A run of consecutive store blocks (R21). -/
structure Extent where
  start : Nat
  count : Nat
  deriving DecidableEq, Repr

/-- One entry of the pass table (R21). -/
structure PassEntry where
  state : PassState
  owner : Nat
  length : Nat
  extents : List Extent
  deriving DecidableEq, Repr

/-- An EMPTY pass entry (R21). -/
def PassEntry.empty : PassEntry := { state := .empty, owner := 0, length := 0, extents := [] }

/-- The source of a segment (R36); `other` is a source kind code that an image may carry and that is not sound. -/
inductive Source where
  | gap
  | pass (index offset : Nat)
  | other (code : Byte)
  deriving DecidableEq, Repr

/-- One segment of a rendition (R36). -/
structure Segment where
  start : Nat
  length : Nat
  source : Source
  deriving DecidableEq, Repr

/-- The stored words of a record, grouped as the jobs read them (R143; log 7). -/
inductive RecordWord where
  /-- the key -/
  | key
  /-- the state word -/
  | state
  /-- rate, channels, sample bytes, frame bytes and length -/
  | format
  /-- hold groups and item hold -/
  | holds
  /-- the retiring port -/
  | retiring
  /-- one pass entry -/
  | pass (i : Fin 4)
  /-- the segment list -/
  | rendition
  deriving DecidableEq, Repr

/-- What the check codes of a group of stored words say when it is read (R144): how many of its words have exactly one damaged bit,
which a read corrects, and whether some word of it is uncorrectable, so that the group is lost to the job that reads it. -/
structure WordCondition where
  damaged : Nat
  lost : Bool
  deriving DecidableEq, Repr

/-- Every word of a group agrees with its check code (R144). -/
def WordCondition.clean : WordCondition := { damaged := 0, lost := false }

/-- A group of words after a read: its corrected words have been written back, and one that was lost stays lost (R144). -/
def WordCondition.afterRead (k : WordCondition) : WordCondition := { k with damaged := 0 }

/-- An item record as a read of catalogue memory yields it (R2, R21, R36, R139), with the condition of its stored words. -/
structure Record where
  key : Key
  state : ItemState
  rate : Nat
  channels : Nat
  sampleBytes : Nat
  frameBytes : Nat
  length : Nat
  groups : Byte
  itemHold : Byte
  retiringPort : Nat
  passes : Vector PassEntry 4
  rendition : List Segment
  words : Vector WordCondition 10
  deriving DecidableEq, Repr

/-- The FREE record that DISCARD_ITEM and FORMAT_CATALOGUE write whole (R22): its other fields, which carry no meaning (R2), are zeros, and
its words are sound (log 2). -/
def Record.freed : Record :=
  { key := { accession := 0, part := 0 }, state := .free, rate := 0, channels := 0, sampleBytes := 0, frameBytes := 0,
    length := 0, groups := 0, itemHold := 0, retiringPort := 0, passes := Vector.replicate 4 PassEntry.empty,
    rendition := [], words := Vector.replicate 10 .clean }

/-- The catalogue header (R145): whether the format marker reads VALID, the latch mirror, and the condition of the two. -/
structure Header where
  valid : Bool
  mirror : Groups
  markerWords : WordCondition
  mirrorWords : WordCondition
  deriving DecidableEq, Repr

/-- Catalogue memory (R143): the header, and the records of the slots that are not in the form `Record.freed`, as pairs of
slot number and record in rising slot order. Every unlisted slot reads as `Record.freed`. -/
structure Memory where
  header : Header
  records : List (Nat × Record)
  deriving DecidableEq, Repr

/-! ### The catalogue engine -/

/-- The condition of the catalogue (R16, R147, R153): the walk before its header read, the walk at its next slot (65,536
when every slot is placed), a format asked for by a port, OFFLINE, or ready. -/
inductive Condition where
  | walkHeader
  | walking (next : Nat)
  | formatting (port : PortId)
  | offline
  | ready
  deriving DecidableEq, Repr

/-- The counts of the walk, as WALK_DONE carries them (R149). -/
structure WalkCounts where
  linked : Nat
  faultedUnlinked : Nat
  duplicates : Nat
  faultedLinked : Nat
  retirements : Nat
  repaired : Nat
  deriving DecidableEq, Repr

/-- The counts as a walk begins with them. -/
def WalkCounts.zero : WalkCounts :=
  { linked := 0, faultedUnlinked := 0, duplicates := 0, faultedLinked := 0, retirements := 0, repaired := 0 }

/-- The catalogue engine's on-chip state. The directory lists the buckets whose chain is not empty, in rising bucket order,
each with its chain newest first (R7). The faulted flags are held as the set of the slots whose flag is set, rising (R5). -/
structure Engine where
  condition : Condition
  directory : List (Nat × List Slot)
  freeStack : List Slot
  faulted : List Slot
  engagement : Vector (Option Slot) 8
  walk : WalkCounts
  deriving DecidableEq, Repr

/-- The engine's round-robin arbiter (R14): the requester position whose job has been granted and is being served, if the engine is
busy with one, and the last position granted. -/
structure Arbiter where
  serving : Option Nat
  lastGranted : Nat
  deriving DecidableEq, Repr

/-! ### Hold unit and pin table -/

/-- The hold unit (R120): the group latches, the level of the hold lines, and whether a mirror write is presented (R15). -/
structure HoldUnit where
  latches : Groups
  lines : Groups
  mirrorWaiting : Bool
  deriving DecidableEq, Repr

/-- A pin (R131). -/
structure Pin where
  port : PortId
  slot : Slot
  remaining : Nat
  deriving DecidableEq, Repr

/-- The pin table and its seconds prescaler (R131). The pins are held in rising order of port and slot: the table itself
keeps no order. -/
structure PinTable where
  pins : List Pin
  prescaler : Nat
  deriving DecidableEq, Repr

/-! ### Attention unit -/

/-- What an alarm-class event says of itself (R168, R169). -/
inductive FaultDetail where
  | recordFault (slot : Slot) (requester : Requester) (part : RecordPart)
  | storeStalled (block : Nat)
  | catalogueOffline
  deriving DecidableEq, Repr

/-- The first-fault record (R169). -/
structure FirstFault where
  time : Nat
  detail : FaultDetail
  deriving DecidableEq, Repr

/-- The attention unit (R166 to R169): cause flags and enables, the conditions of the two level causes, the ATTENTION and
ALARM outputs, the suppress latch, the first-fault record, the further-kinds set and the fault time. -/
structure Attention where
  flags : CauseSet
  enables : CauseSet
  stalled : Bool
  offline : Bool
  attention : Bool
  alarm : Bool
  suppress : Bool
  record : Option FirstFault
  further : CauseSet
  faultTime : Nat
  deriving DecidableEq, Repr

/-! ### Store reader -/

/-- The cause of a failed attempt (R108). -/
inductive Failure where
  | unreadable
  | absent
  | timeout
  | cancelled
  deriving DecidableEq, Repr

/-- A read slot (R107). An active slot names the request it serves by its channel and buffer, and holds the store block, the
attempt number and the milliseconds left on its timer; a stale slot keeps the block it last asked for. -/
inductive ReadSlot where
  | free
  | active (channel : ChannelId) (buffer : BufferId) (block attempt remaining : Nat)
  | stale (block : Nat)
  deriving DecidableEq, Repr

/-- A block request (R108). Its timeline place is its run, by the run's start, and its pass block. -/
structure BlockRequest where
  channel : ChannelId
  buffer : BufferId
  block : Nat
  runStart : Nat
  passBlock : Nat
  failed : Nat
  lastFailure : Option Failure
  abandoned : Bool
  active : Bool
  deriving DecidableEq, Repr

/-- The store reader (R107 to R109), and the messages it has sent on the store link since reset. -/
structure StoreReader where
  slots : Vector ReadSlot 8
  requests : List BlockRequest
  lastChannel : ChannelId
  sent : List (List Byte)
  deriving DecidableEq, Repr

/-- The three timing settings (R163). -/
structure Timing where
  collection : Nat
  read : Nat
  retry : Nat
  deriving DecidableEq, Repr

/-! ### Delivery channels -/

/-- The states of a channel (R70, R71). -/
inductive ChannelState where
  | unbound
  | idle
  | running
  | stopping
  | halting
  | stopped
  | halted
  | cut
  deriving DecidableEq, Repr

/-- The cutoff behaviours (R93). -/
inductive Cutoff where
  | stop
  | mute
  | skip
  | ignore
  deriving DecidableEq, Repr

/-- A cue as a station queues it (R74). -/
structure Cue where
  tag : BitVec 16
  key : Key
  start : BitVec 32
  duration : BitVec 32
  deriving DecidableEq, Repr

/-- The current cue of a channel (R76, R100), with the cutoff mark (R126), whether its CONCEALED notice has been sent (R115),
and the crossing at which a FAULTED answer was found (R78). `next` is the next frame, which is the remainder when the channel
is stopped (R60). -/
structure CurrentCue where
  tag : BitVec 16
  key : Key
  slot : Slot
  groups : Byte
  itemHold : Byte
  f0 : Nat
  f1 : Nat
  shortened : Bool
  next : Nat
  delivered : Nat
  gap : Nat
  concealed : Nat
  channels : Nat
  sampleBytes : Nat
  frameBytes : Nat
  muted : Bool
  concealNoticed : Bool
  crossing : Option Nat
  deriving DecidableEq, Repr

/-- The source of a resolved run (R48): silence, or a pass with the pass frame of the run start and the pass's extents. -/
inductive RunSource where
  | gap
  | pass (index frame : Nat) (extents : List Extent)
  deriving DecidableEq, Repr

/-- A resolved run (R48) held by a channel (R77); `issued` is how many of its blocks have been requested (R79). -/
structure Run where
  start : Nat
  stop : Nat
  source : RunSource
  issued : Nat
  deriving DecidableEq, Repr

/-- What a block buffer is for: a pass block of a run, and the last programme frame of the run that takes bytes from it. -/
structure BlockPlace where
  runStart : Nat
  passBlock : Nat
  lastFrame : Nat
  deriving DecidableEq, Repr

/-- A block buffer (R79). `draining` is a buffer discarded while its read is in flight (R80). -/
inductive Buffer where
  | free
  | inFlight (place : BlockPlace)
  | draining
  | filled (place : BlockPlace) (data : List Byte)
  | concealed (place : BlockPlace)
  deriving DecidableEq, Repr

/-- An assembled audio message (R81). The samples stand in the order of R97: frame by frame, lane 0 first. -/
structure Message where
  tag : BitVec 16
  first : Nat
  count : Nat
  lanes : Nat
  word : Nat
  lastOfCue : Bool
  hasGap : Bool
  hasConcealment : Bool
  hasCutoff : Bool
  gapFrames : Nat
  concealedFrames : Nat
  samples : List Int
  deriving DecidableEq, Repr

/-- The engine job a channel has presented (R15, R70). `discard` says that a resolution's answer is to be discarded. -/
inductive ChannelJob where
  | start (cue : Cue) (role : Role) (ignore : Bool) (discard : Bool)
  | segment (frame stop : Nat) (discard : Bool)
  | disengage
  deriving DecidableEq, Repr

/-- One entry of a lane table (R96). -/
structure Lane where
  enabled : Bool
  source : Fin 8
  invert : Bool
  deriving DecidableEq, Repr

/-- A complete lane setting (R96). -/
structure LaneSetting where
  count : Nat
  word : Nat
  lanes : Vector Lane 8
  deriving DecidableEq, Repr

/-- A delivery channel (R70). `disengageDue` says that a disengage is to be presented as soon as the channel has no other
job at the engine (R15); `wait` is the milliseconds left of a running collection wait (R94). -/
structure Channel where
  state : ChannelState
  port : Option PortId
  queue : List Cue
  current : Option CurrentCue
  runs : List Run
  buffers : Vector Buffer 4
  message : Option Message
  job : Option ChannelJob
  disengageDue : Bool
  lanes : LaneSetting
  pendingLanes : Option LaneSetting
  cutoff : Cutoff
  pendingCutoff : Option Cutoff
  wait : Option Nat
  deriving DecidableEq, Repr

/-! ### Ports -/

/-- A request as its fields stand in its body (R171). -/
inductive Request where
  | enterItem (key : Key) (rate : BitVec 32) (channels sampleBytes : Byte) (length : BitVec 32)
  | findItem (key : Key)
  | describeItem (key : Key)
  | releaseItem (key : Key)
  | reopenItem (key : Key)
  | splice (key : Key) (a b : BitVec 32) (kind pass : Byte) (offset : BitVec 32)
  | openPass (key : Key)
  | addExtent (key : Key) (pass : Byte) (start : BitVec 32) (count : BitVec 16)
  | closePass (key : Key) (pass : Byte) (length : BitVec 32)
  | withdrawPass (key : Key) (pass : Byte)
  | holdItem (key : Key)
  | liftItem (key : Key)
  | setGroups (key : Key) (set : Byte)
  | retireItem (key : Key)
  | restoreItem (slot : BitVec 16) (image : List Byte)
  | discardItem (slot : BitVec 16)
  | formatCatalogue
  | pinItem (key : Key) (seconds : BitVec 32)
  | unpinItem (slot : BitVec 16) (port : Byte)
  | bindChannel (channel port : Byte)
  | queueCue (channel : Byte) (cue : Cue)
  | stopChannel (channel : Byte)
  | haltChannel (channel : Byte)
  | resumeChannel (channel : Byte)
  | clearCut (channel : Byte)
  | flushChannel (channel : Byte)
  | setLanes (channel count word : Byte) (entries : List Byte)
  | setCutoff (channel behaviour : Byte)
  | channelStatus (channel : Byte)
  | holdGroup (group : Byte)
  | liftGroup (group : Byte)
  | storeReset
  | ackAttention (causes : CauseSet)
  | setAttentionMask (enables : CauseSet)
  | attentionSummary
  | rearmAlarm
  | readFaultRecord
  | clearFaultRecord
  | assignRole (port role : Byte)
  | setTiming (collection read retry : Byte)
  deriving DecidableEq, Repr

/-- The reply codes (R171). -/
inductive ReplyCode where
  | ok
  | deferred
  | busy
  | role
  | badRequest
  | badField
  | starting
  | offline
  | noItem
  | duplicate
  | catalogueFull
  | faulted
  | wrongState
  | itemInUse
  | pinned
  | notPinned
  | pinTableFull
  | listFull
  | overlap
  | notOwner
  | shortPass
  | passInUse
  | passOpen
  | outOfRange
  | queueFull
  | notBound
  | notCut
  | notHeld
  | lineAsserted
  | portBusy
  | notFaulted
  deriving DecidableEq, Repr

/-- A field of a reply or notice, by its width on the link (R171). -/
inductive Field where
  | u8 (n : Nat)
  | u16 (n : Nat)
  | u32 (n : Nat)
  | key (k : Key)
  | bytes (b : List Byte)
  deriving DecidableEq, Repr

/-- A reply: the request kind and tag echoed, the reply code and the reply fields (R154, R170). -/
structure Reply where
  kind : Byte
  tag : Byte
  code : ReplyCode
  fields : List Field
  deriving DecidableEq, Repr

/-- How a cue ended (R83). -/
inductive CueStatus where
  | played
  | shortened
  | muted
  | cut
  | faulted
  | flushed
  deriving DecidableEq, Repr

/-- Why a start resolution skipped its cue (R76). -/
inductive SkipReason where
  | offline
  | noItem
  | faulted
  | retiring
  | wrongState
  | held
  | outOfRange
  deriving DecidableEq, Repr

/-- What changed a group latch (R121). -/
inductive HoldSource where
  | line
  | holdGroup
  | liftGroup
  deriving DecidableEq, Repr

/-- Why a pin was removed with a notice (R135, R136). -/
inductive LapseCause where
  | expired
  | discarded
  deriving DecidableEq, Repr

/-- What ended, as WALK_DONE says (R149). -/
inductive WalkCause where
  | walk
  | format
  deriving DecidableEq, Repr

/-- The notices (R164). -/
inductive Notice where
  | cueEnded (tag : BitVec 16) (status : CueStatus) (delivered gap concealed : Nat)
  | cueSkipped (tag : BitVec 16) (key : Key) (reason : SkipReason)
  | channelStopped (remainder : Option (BitVec 16 × Nat))
  | channelHalted
  | channelCut (tag : BitVec 16) (groups itemHold : Byte) (byItem : Bool) (byGroups : Groups)
  | collectionTimeout (tag : BitVec 16) (remainder : Nat)
  | concealed (channel : ChannelId) (tag : BitVec 16) (block : Nat) (failure : Failure)
  | retired (key : Key) (slot : Slot) (passes extents blocks : Nat)
  | pinLapsed (slot : Slot) (cause : LapseCause)
  | holdChanged (group : GroupId) (latch : Bool) (source : HoldSource) (port : Option PortId)
  | recordFault (slot : Slot) (requester : Requester) (part : RecordPart)
  | walkDone (cause : WalkCause) (offline : Bool) (free : Nat) (counts : WalkCounts) (latches : Groups)
  deriving DecidableEq, Repr

/-- The request in service (R158): its kind and tag as received, the port's role at dispatch, and its fields. -/
structure Service where
  kind : Byte
  tag : Byte
  role : Role
  request : Request
  deriving DecidableEq, Repr

/-- A port (R156). The intake holds request bodies as received; `sending` holds the pieces still to be sent of the audio
message in sending (R162); `sent` is what the port has put on its outgoing link since reset, oldest first. -/
structure Port where
  role : Role
  intake : List (List Byte)
  service : Option Service
  replies : List Reply
  notices : List Notice
  noticesLost : Bool
  credit : Vector Nat 8
  audioPointer : ChannelId
  linkFault : Bool
  sending : List (List Byte)
  sent : List (List Byte)
  deriving DecidableEq, Repr

/-! ### The part -/

/-- The state of the part. `moments` counts the moments at which the free order of `Config.orderRank` was used (log 6), and
`pending` is the queue of waiting commands, first in, first out. -/
structure State where
  memory : Memory
  engine : Engine
  arbiter : Arbiter
  hold : HoldUnit
  pinTable : PinTable
  attention : Attention
  store : StoreReader
  timing : Timing
  ports : Vector Port 16
  channels : Vector Channel 8
  moments : Nat
  pending : List Instr
  deriving DecidableEq, Repr

/-- The faults of a step: there is none. No command of this part stops it. -/
inductive Fault where
  deriving DecidableEq, Repr

/-- The refusals of a step. No arm of `exec` answers with one. -/
inductive Refusal where
  /-- A row of the table that has no meaning yet: raised by `exec` alone, and safe, since the run ends there. -/
  | notModelled (mnemonic : String)
  deriving DecidableEq, Repr

/-! ### Reset -/

/-- The lane setting after reset (R96). -/
def LaneSetting.reset : LaneSetting :=
  { count := 2, word := 3, lanes := Vector.ofFn fun i => { enabled := true, source := i, invert := false } }

/-- A channel after reset (R70). -/
def Channel.reset : Channel :=
  { state := .unbound, port := none, queue := [], current := none, runs := [], buffers := Vector.replicate 4 .free,
    message := none, job := none, disengageDue := false, lanes := LaneSetting.reset, pendingLanes := none,
    cutoff := .stop, pendingCutoff := none, wait := none }

/-- A port after reset (R156). -/
def Port.reset (p : PortId) : Port :=
  { role := if p = 0 then .control else .none, intake := [], service := none, replies := [], notices := [],
    noticesLost := false, credit := Vector.replicate 8 0, audioPointer := 7, linkFault := false, sending := [],
    sent := [] }

/-- The catalogue engine when reset begins (R5, R7, R10, R12, R147). -/
def Engine.reset : Engine :=
  { condition := .walkHeader, directory := [], freeStack := [], faulted := [], engagement := Vector.replicate 8 none,
    walk := WalkCounts.zero }

/-- The engine's arbiter when reset begins: the first grant searches from port 0 (R14). -/
def Arbiter.reset : Arbiter := { serving := none, lastGranted := 24 }

/-- The attention unit after reset (R166, R168, R169): the enables as the table of R166 gives them. The fault time starts when a walk
ends; its 0 until then is the model's choice (log 10). -/
def Attention.reset : Attention :=
  { flags := 0, enables := 0b11111101, stalled := false, offline := false, attention := false, alarm := false,
    suppress := true, record := none, further := 0, faultTime := 0 }

/-- The store reader after reset (R107). -/
def StoreReader.reset : StoreReader :=
  { slots := Vector.replicate 8 .free, requests := [], lastChannel := 7, sent := [] }

/-- The timing settings after reset (R163). -/
def Timing.reset : Timing := { collection := 20, read := 50, retry := 2 }

/-- Catalogue memory that no format has yet been through: the marker does not read VALID (R145). The mirror of no group, the clean words
and the slots' contents are the model's choice (log 2). -/
def Memory.unformatted : Memory :=
  { header := { valid := false, mirror := 0, markerWords := .clean, mirrorWords := .clean }, records := [] }

/-- The part when reset has ended, on the catalogue memory given and with the hold lines at the levels given: every block at
its reset values, and the start-up walk about to read the header (R70, R107, R120, R131, R147, R156, R163, R166). -/
def State.afterReset (memory : Memory) (lines : Groups) (moments : Nat) (pending : List Instr) : State :=
  { memory := memory, engine := Engine.reset, arbiter := Arbiter.reset, hold := { latches := 0, lines := lines, mirrorWaiting := false },
    pinTable := { pins := [], prescaler := 0 }, attention := Attention.reset, store := StoreReader.reset,
    timing := Timing.reset, ports := Vector.ofFn Port.reset, channels := Vector.replicate 8 Channel.reset,
    moments := moments, pending := pending }

/-- The part right after its first reset: on unformatted memory, with every hold line low (log 2, log 3). -/
def State.reset : State := State.afterReset Memory.unformatted 0 0 []

end Sys2Proof.Machine
end

