-- ==== Sys2Proof/Machine/Bytes.lean ====
section
/-! DEFINITION. Byte order, checks and framing on the two links (R154, R155, R170), and the widths of fields (R171). -/

namespace Sys2Proof.Machine

/-- `n` as `width` bytes, least significant first (R154). -/
def leBytes : Nat → Nat → List Byte
  | 0, _ => []
  | width + 1, n => BitVec.ofNat 8 n :: leBytes width (n / 256)

/-- The number that bytes spell, least significant first (R154). -/
def leNat : List Byte → Nat
  | [] => 0
  | b :: bs => b.toNat + 256 * leNat bs

/-- The number that `width` bytes from `offset` on spell; bytes beyond the end count as absent. -/
def readAt (bytes : List Byte) (offset width : Nat) : Nat := leNat ((bytes.drop offset).take width)

/-- The check of a message: the sum of the bytes before it, modulo 65,536 (R154). -/
def checkSum (bytes : List Byte) : Nat := (bytes.map BitVec.toNat).sum % 65536

/-- A station link message of the kind and body given: kind, body length, body, check (R170). -/
def frameMessage (kind : Byte) (body : List Byte) : List Byte :=
  let head := kind :: (leBytes 2 body.length ++ body)
  head ++ leBytes 2 (checkSum head)

/-- The kind and body of a delivered unit whose length field and check hold; none where the check does not match, the length
field exceeds 1,040 or the length field disagrees with the byte count of the unit (R155). -/
def openMessage (bytes : List Byte) : Option (Byte × List Byte) :=
  let n := readAt bytes 1 2
  if n ≤ 1040 ∧ bytes.length = n + 5 ∧ readAt bytes (3 + n) 2 = checkSum (bytes.take (3 + n)) then
    some (bytes.headD 0, (bytes.drop 3).take n)
  else none

/-- Whether a port discards a unit arriving from its station (R155). -/
def discardsUnit (bytes : List Byte) : Bool :=
  match openMessage bytes with
  | none => true
  | some (kind, body) =>
    if kind = 0x01 then body.length < 2
    else if kind = 0x05 then body.length ≠ 3
    else true

/-- Whether the store reader discards a unit arriving on the store link: a bad check, a length other than that of its kind or
an unknown kind (R106, R170). -/
def discardsStoreUnit (bytes : List Byte) : Bool :=
  let kind := bytes.headD 0
  let n := bytes.length
  let sound := readAt bytes (n - 2) 2 = checkSum (bytes.take (n - 2))
  !((kind = 0x11 ∧ n = 65540 ∨ kind = 0x12 ∧ n = 5) ∧ sound)

/-- A key on the link: accession number, then part number (R171). -/
def Key.bytes (k : Key) : List Byte := leBytes 5 k.accession.toNat ++ leBytes 1 k.part.toNat

/-- The key that the six bytes from `offset` on spell (R171). -/
def keyAt (bytes : List Byte) (offset : Nat) : Key :=
  { accession := BitVec.ofNat 40 (readAt bytes offset 5), part := BitVec.ofNat 8 (readAt bytes (offset + 5) 1) }

/-- A field on the link, at its width (R171). -/
def Field.encode : Field → List Byte
  | .u8 n => leBytes 1 n
  | .u16 n => leBytes 2 n
  | .u32 n => leBytes 4 n
  | .key k => k.bytes
  | .bytes b => b

/-- Yes or no, or set or clear, as a field (R171). R171 gives the two codes and not which is which: that 01h is yes or set, and 00h no or
clear, is the model's choice (log 27). -/
def Field.flag (b : Bool) : Field := .u8 (if b then 1 else 0)

/-- Fields present only in some cases: a presence byte, and the fields where they are present (R171). -/
def presence (fields : Option (List Field)) : List Field :=
  match fields with
  | none => [.u8 0]
  | some fs => .u8 1 :: fs

/-- A list of extents as fields: its count, then the start and count of each (R171). -/
def extentFields (extents : List Extent) : List Field :=
  .u8 extents.length :: extents.flatMap fun e => [.u32 e.start, .u16 e.count]

end Sys2Proof.Machine
end

