-- ==== Sys2Proof/Machine/Operands.lean ====
section
/-! DEFINITION. The operands of the requests: how a request's fields stand in its body (R171), how a record image stands in a
RESTORE_ITEM body and a DESCRIBE_ITEM reply (R172), and the codes of the enumerated fields. -/

namespace Sys2Proof.Machine

/-! ### Codes -/

/-- The code of an item state (R171). -/
def ItemState.code : ItemState → Byte
  | .free => 0
  | .review => 1
  | .released => 2
  | .retiring => 3
  | .other c => c

/-- The item state a code stands for (R171). -/
def ItemState.ofCode (c : Byte) : ItemState :=
  if c = 0 then .free else if c = 1 then .review else if c = 2 then .released else if c = 3 then .retiring else .other c

/-- The code of a pass state (R171). -/
def PassState.code : PassState → Byte
  | .empty => 0
  | .opened => 1
  | .complete => 2
  | .other c => c

/-- The pass state a code stands for (R171). -/
def PassState.ofCode (c : Byte) : PassState :=
  if c = 0 then .empty else if c = 1 then .opened else if c = 2 then .complete else .other c

/-- The code of a source kind (R171). -/
def Source.code : Source → Byte
  | .gap => 0
  | .pass _ _ => 1
  | .other c => c

/-- The role a code stands for (R171). -/
def roleOfCode (c : Byte) : Option Role :=
  match c.toNat with
  | 0 => some .none
  | 1 => some .production
  | 2 => some .transfer
  | 3 => some .catalogue
  | 4 => some .control
  | _ => none

/-- The code of a role (R171). -/
def Role.code : Role → Nat
  | .none => 0
  | .production => 1
  | .transfer => 2
  | .catalogue => 3
  | .control => 4

/-- The cutoff behaviour a code stands for (R171). -/
def cutoffOfCode (c : Byte) : Option Cutoff :=
  match c.toNat with
  | 0 => some .stop
  | 1 => some .mute
  | 2 => some .skip
  | 3 => some .ignore
  | _ => none

/-- The code of a cutoff behaviour (R171). -/
def Cutoff.code : Cutoff → Nat
  | .stop => 0
  | .mute => 1
  | .skip => 2
  | .ignore => 3

/-- The code of a channel state (R171). -/
def ChannelState.code : ChannelState → Nat
  | .unbound => 0
  | .idle => 1
  | .running => 2
  | .stopping => 3
  | .halting => 4
  | .stopped => 5
  | .halted => 6
  | .cut => 7

/-- Whether a group set code names a subset of the four groups: none of bits 4 to 7 is set (R125, R171). -/
def groupSetLegal (set : Byte) : Bool := set.toNat < 16

/-- The groups that a group set code names (R171). -/
def groupsOf (set : Byte) : Groups := set.setWidth 4

/-! ### Requests -/

/-- The byte of a body at an offset. -/
def byteAt (body : List Byte) (offset : Nat) : Byte := body.getD offset 0

/-- The 2-byte field of a body at an offset. -/
def wordAt (body : List Byte) (offset : Nat) : BitVec 16 := BitVec.ofNat 16 (readAt body offset 2)

/-- The 4-byte field of a body at an offset. -/
def longAt (body : List Byte) (offset : Nat) : BitVec 32 := BitVec.ofNat 32 (readAt body offset 4)

/-- The request that a REQUEST body spells; none where the request kind is unknown or the body length differs from the one
R171 gives the kind. Of SET_LANES the port checks only that the body reaches the lane count (R158). -/
def parseRequest (body : List Byte) : Option Request :=
  match (byteAt body 0).toNat, body.length with
  | 0x10, 18 => some (.enterItem (keyAt body 2) (longAt body 8) (byteAt body 12) (byteAt body 13) (longAt body 14))
  | 0x11, 8 => some (.findItem (keyAt body 2))
  | 0x12, 8 => some (.describeItem (keyAt body 2))
  | 0x13, 8 => some (.releaseItem (keyAt body 2))
  | 0x14, 8 => some (.reopenItem (keyAt body 2))
  | 0x15, 22 =>
    some (.splice (keyAt body 2) (longAt body 8) (longAt body 12) (byteAt body 16) (byteAt body 17) (longAt body 18))
  | 0x16, 8 => some (.openPass (keyAt body 2))
  | 0x17, 15 => some (.addExtent (keyAt body 2) (byteAt body 8) (longAt body 9) (wordAt body 13))
  | 0x18, 13 => some (.closePass (keyAt body 2) (byteAt body 8) (longAt body 9))
  | 0x19, 9 => some (.withdrawPass (keyAt body 2) (byteAt body 8))
  | 0x1A, 8 => some (.holdItem (keyAt body 2))
  | 0x1B, 8 => some (.liftItem (keyAt body 2))
  | 0x1C, 9 => some (.setGroups (keyAt body 2) (byteAt body 8))
  | 0x1D, 8 => some (.retireItem (keyAt body 2))
  | 0x1E, 886 => some (.restoreItem (wordAt body 2) (body.drop 4))
  | 0x1F, 4 => some (.discardItem (wordAt body 2))
  | 0x20, 2 => some .formatCatalogue
  | 0x28, 12 => some (.pinItem (keyAt body 2) (longAt body 8))
  | 0x29, 5 => some (.unpinItem (wordAt body 2) (byteAt body 4))
  | 0x30, 4 => some (.bindChannel (byteAt body 2) (byteAt body 3))
  | 0x31, 19 =>
    some (.queueCue (byteAt body 2)
      { tag := wordAt body 3, key := keyAt body 5, start := longAt body 11, duration := longAt body 15 })
  | 0x32, 3 => some (.stopChannel (byteAt body 2))
  | 0x33, 3 => some (.haltChannel (byteAt body 2))
  | 0x34, 3 => some (.resumeChannel (byteAt body 2))
  | 0x35, 3 => some (.clearCut (byteAt body 2))
  | 0x36, 3 => some (.flushChannel (byteAt body 2))
  | 0x37, n =>
    if 5 ≤ n then some (.setLanes (byteAt body 2) (byteAt body 3) (byteAt body 4) (body.drop 5)) else none
  | 0x38, 4 => some (.setCutoff (byteAt body 2) (byteAt body 3))
  | 0x39, 3 => some (.channelStatus (byteAt body 2))
  | 0x40, 3 => some (.holdGroup (byteAt body 2))
  | 0x41, 3 => some (.liftGroup (byteAt body 2))
  | 0x48, 2 => some .storeReset
  | 0x50, 3 => some (.ackAttention (byteAt body 2))
  | 0x51, 3 => some (.setAttentionMask (byteAt body 2))
  | 0x52, 2 => some .attentionSummary
  | 0x53, 2 => some .rearmAlarm
  | 0x54, 2 => some .readFaultRecord
  | 0x55, 2 => some .clearFaultRecord
  | 0x58, 4 => some (.assignRole (byteAt body 2) (byteAt body 3))
  | 0x59, 5 => some (.setTiming (byteAt body 2) (byteAt body 3) (byteAt body 4))
  | _, _ => none

/-- The request kind code of a request (R171). -/
def Request.kindCode : Request → Byte
  | .enterItem .. => 0x10
  | .findItem .. => 0x11
  | .describeItem .. => 0x12
  | .releaseItem .. => 0x13
  | .reopenItem .. => 0x14
  | .splice .. => 0x15
  | .openPass .. => 0x16
  | .addExtent .. => 0x17
  | .closePass .. => 0x18
  | .withdrawPass .. => 0x19
  | .holdItem .. => 0x1A
  | .liftItem .. => 0x1B
  | .setGroups .. => 0x1C
  | .retireItem .. => 0x1D
  | .restoreItem .. => 0x1E
  | .discardItem .. => 0x1F
  | .formatCatalogue => 0x20
  | .pinItem .. => 0x28
  | .unpinItem .. => 0x29
  | .bindChannel .. => 0x30
  | .queueCue .. => 0x31
  | .stopChannel .. => 0x32
  | .haltChannel .. => 0x33
  | .resumeChannel .. => 0x34
  | .clearCut .. => 0x35
  | .flushChannel .. => 0x36
  | .setLanes .. => 0x37
  | .setCutoff .. => 0x38
  | .channelStatus .. => 0x39
  | .holdGroup .. => 0x40
  | .liftGroup .. => 0x41
  | .storeReset => 0x48
  | .ackAttention .. => 0x50
  | .setAttentionMask .. => 0x51
  | .attentionSummary => 0x52
  | .rearmAlarm => 0x53
  | .readFaultRecord => 0x54
  | .clearFaultRecord => 0x55
  | .assignRole .. => 0x58
  | .setTiming .. => 0x59

/-- The fields of a request in the order and at the widths of R171. -/
def Request.fields : Request → List Field
  | .enterItem k rate ch sb len => [.key k, .u32 rate.toNat, .u8 ch.toNat, .u8 sb.toNat, .u32 len.toNat]
  | .findItem k | .describeItem k | .releaseItem k | .reopenItem k | .openPass k | .holdItem k | .liftItem k
  | .retireItem k => [.key k]
  | .splice k a b kind pass offset =>
    [.key k, .u32 a.toNat, .u32 b.toNat, .u8 kind.toNat, .u8 pass.toNat, .u32 offset.toNat]
  | .addExtent k pass start count => [.key k, .u8 pass.toNat, .u32 start.toNat, .u16 count.toNat]
  | .closePass k pass len => [.key k, .u8 pass.toNat, .u32 len.toNat]
  | .withdrawPass k pass => [.key k, .u8 pass.toNat]
  | .setGroups k set => [.key k, .u8 set.toNat]
  | .restoreItem slot image => [.u16 slot.toNat, .bytes image]
  | .discardItem slot => [.u16 slot.toNat]
  | .formatCatalogue | .storeReset | .attentionSummary | .rearmAlarm | .readFaultRecord | .clearFaultRecord => []
  | .pinItem k seconds => [.key k, .u32 seconds.toNat]
  | .unpinItem slot port => [.u16 slot.toNat, .u8 port.toNat]
  | .bindChannel c port => [.u8 c.toNat, .u8 port.toNat]
  | .queueCue c cue =>
    [.u8 c.toNat, .u16 cue.tag.toNat, .key cue.key, .u32 cue.start.toNat, .u32 cue.duration.toNat]
  | .stopChannel c | .haltChannel c | .resumeChannel c | .clearCut c | .flushChannel c | .channelStatus c => [.u8 c.toNat]
  | .setLanes c count word entries => [.u8 c.toNat, .u8 count.toNat, .u8 word.toNat, .bytes entries]
  | .setCutoff c behaviour => [.u8 c.toNat, .u8 behaviour.toNat]
  | .holdGroup g | .liftGroup g => [.u8 g.toNat]
  | .ackAttention set | .setAttentionMask set => [.u8 set.toNat]
  | .assignRole port role => [.u8 port.toNat, .u8 role.toNat]
  | .setTiming collection read retry => [.u8 collection.toNat, .u8 read.toNat, .u8 retry.toNat]

/-- The body of a request, with its tag (R154, R171). -/
def Request.body (tag : Byte) (r : Request) : List Byte :=
  r.kindCode :: tag :: r.fields.flatMap Field.encode

/-- Whether a request's body has the length its kind asks for (R171): the image of a RESTORE_ITEM is 882 bytes. -/
def Request.fits : Request → Bool
  | .restoreItem _ image => image.length = 882
  | _ => true

/-! ### The record image -/

/-- The extent that stands in place `j` of the pass entry whose image begins at `offset` (R172). -/
def extentAt (image : List Byte) (offset j : Nat) : Extent :=
  { start := readAt image (offset + 7 + 6 * j) 4, count := readAt image (offset + 11 + 6 * j) 2 }

/-- The pass entry whose image begins at `offset`. Only the places within the extent count are read (R172). -/
def passAt (image : List Byte) (offset : Nat) : PassEntry :=
  { state := PassState.ofCode (byteAt image offset), owner := readAt image (offset + 1) 1,
    length := readAt image (offset + 3) 4,
    extents := (List.range (readAt image (offset + 2) 1)).map (extentAt image offset) }

/-- The segment whose image begins at `offset`. The pass index and offset of a GAP segment are not read (R172). -/
def segmentAt (image : List Byte) (offset : Nat) : Segment :=
  let kind := byteAt image (offset + 8)
  { start := readAt image offset 4, length := readAt image (offset + 4) 4,
    source :=
      if kind = 0 then .gap
      else if kind = 1 then .pass (readAt image (offset + 9) 1) (readAt image (offset + 10) 4)
      else .other kind }

/-- The record that an image of 882 bytes spells (R172). The retiring port is read in RETIRING alone, and every word is
fresh. -/
def parseImage (image : List Byte) : Record :=
  let state := ItemState.ofCode (byteAt image 6)
  { key := keyAt image 0, state := state, rate := readAt image 7 4, channels := readAt image 11 1,
    sampleBytes := readAt image 12 1, frameBytes := readAt image 13 1, length := readAt image 14 4,
    groups := byteAt image 18, itemHold := byteAt image 19,
    retiringPort := if state = .retiring then readAt image 20 1 else 0,
    passes := Vector.ofFn fun i : Fin 4 => passAt image (21 + 103 * i.val),
    rendition := (List.range (readAt image 433 1)).map fun j => segmentAt image (434 + 14 * j),
    words := Vector.replicate 10 .clean }

/-- `bytes` followed by zeros up to `n` bytes. -/
def padded (n : Nat) (bytes : List Byte) : List Byte := bytes ++ List.replicate (n - bytes.length) 0

/-- The 103 bytes of a pass entry (R172). -/
def PassEntry.image (e : PassEntry) : List Byte :=
  e.state.code :: (leBytes 1 e.owner ++ leBytes 1 e.extents.length ++ leBytes 4 e.length ++
    padded 96 (e.extents.flatMap fun x => leBytes 4 x.start ++ leBytes 2 x.count))

/-- The 14 bytes of a segment; the pass index and offset of a GAP segment are written as 0 (R172). -/
def Segment.image (g : Segment) : List Byte :=
  leBytes 4 g.start ++ leBytes 4 g.length ++ g.source.code ::
    (match g.source with
      | .pass i o => leBytes 1 i ++ leBytes 4 o
      | _ => List.replicate 5 0)

/-- The 882 bytes of a record image (R172). The retiring port of a record that is not RETIRING is written as 0. -/
def Record.image (r : Record) : List Byte :=
  r.key.bytes ++ r.state.code :: (leBytes 4 r.rate ++ leBytes 1 r.channels ++ leBytes 1 r.sampleBytes ++
    leBytes 1 r.frameBytes ++ leBytes 4 r.length ++ r.groups :: r.itemHold ::
      (leBytes 1 (if r.state = .retiring then r.retiringPort else 0) ++ r.passes.toList.flatMap PassEntry.image ++
        leBytes 1 r.rendition.length ++ padded 448 (r.rendition.flatMap Segment.image)))

end Sys2Proof.Machine
end

