-- ==== Sys2Proof/Machine/Layouts.lean ====
section
/-! DEFINITION. What the part sends: replies, notices, audio pieces and block reads, down to their bytes (R154, R162, R170,
R171). -/

namespace Sys2Proof.Machine

/-- The code of a reply (R171). -/
def ReplyCode.code : ReplyCode → Byte
  | .ok => 0x00
  | .deferred => 0x01
  | .busy => 0x02
  | .role => 0x03
  | .badRequest => 0x04
  | .badField => 0x05
  | .starting => 0x06
  | .offline => 0x07
  | .noItem => 0x08
  | .duplicate => 0x09
  | .catalogueFull => 0x0A
  | .faulted => 0x0B
  | .wrongState => 0x0C
  | .itemInUse => 0x0D
  | .pinned => 0x0E
  | .notPinned => 0x0F
  | .pinTableFull => 0x10
  | .listFull => 0x11
  | .overlap => 0x12
  | .notOwner => 0x13
  | .shortPass => 0x14
  | .passInUse => 0x15
  | .passOpen => 0x16
  | .outOfRange => 0x17
  | .queueFull => 0x18
  | .notBound => 0x19
  | .notCut => 0x1A
  | .notHeld => 0x1B
  | .lineAsserted => 0x1C
  | .portBusy => 0x1D
  | .notFaulted => 0x1E

/-- The message of a reply (R154, R170). -/
def Reply.message (r : Reply) : List Byte :=
  frameMessage 0x02 (r.kind :: r.tag :: r.code.code :: r.fields.flatMap Field.encode)

/-- The code of a cue end status (R171). -/
def CueStatus.code : CueStatus → Nat
  | .played => 0
  | .shortened => 1
  | .muted => 2
  | .cut => 3
  | .faulted => 4
  | .flushed => 5

/-- The code of a skip reason (R171). -/
def SkipReason.code : SkipReason → Nat
  | .offline => 0
  | .noItem => 1
  | .faulted => 2
  | .retiring => 3
  | .wrongState => 4
  | .held => 5
  | .outOfRange => 6

/-- The code of a last failure (R171). -/
def Failure.code : Failure → Nat
  | .unreadable => 0
  | .absent => 1
  | .timeout => 2
  | .cancelled => 3

/-- The code of a record part (R171). -/
def RecordPart.code : RecordPart → Nat
  | .key => 0
  | .fixedFields => 1
  | .passTable => 2
  | .rendition => 3

/-- The code of a requester (R171). -/
def Requester.code : Requester → Nat
  | .port p => p.val
  | .channel c => 16 + c.val

/-- The code of a PIN_LAPSED cause (R171). -/
def LapseCause.code : LapseCause → Nat
  | .expired => 0
  | .discarded => 1

/-- The code of a HOLD_CHANGED source (R171). -/
def HoldSource.code : HoldSource → Nat
  | .line => 0
  | .holdGroup => 1
  | .liftGroup => 2

/-- The code of a WALK_DONE cause (R171). -/
def WalkCause.code : WalkCause → Nat
  | .walk => 0
  | .format => 1

/-- The position of a cause in the table of R166, which is its bit in a cause set (R171). -/
def Cause.index : Cause → Nat
  | .recordFault => 0
  | .recordRepaired => 1
  | .storeStalled => 2
  | .catalogueOffline => 3
  | .linkFault => 4
  | .noticeOverflow => 5
  | .holdLine => 6
  | .walkDone => 7

/-- The cause set that holds one cause. -/
def Cause.bit (c : Cause) : CauseSet := 1 <<< c.index

/-- The cause of an alarm-class event (R168). -/
def FaultDetail.cause : FaultDetail → Cause
  | .recordFault .. => .recordFault
  | .storeStalled _ => .storeStalled
  | .catalogueOffline => .catalogueOffline

/-- The fields of a first-fault record: kind, fault time, then what its kind gives (R169, R171; log 9). -/
def FirstFault.fields (f : FirstFault) : List Field :=
  [.u8 f.detail.cause.index, .u32 f.time] ++
  (match f.detail with
    | .recordFault slot who part => presence (some [.u16 slot.val, .u8 who.code, .u8 part.code]) ++ presence none
    | .storeStalled block => presence none ++ presence (some [.u32 block])
    | .catalogueOffline => presence none ++ presence none)

/-- The kind code of a notice (R171). -/
def Notice.kindCode : Notice → Byte
  | .cueEnded .. => 0x01
  | .cueSkipped .. => 0x02
  | .channelStopped .. => 0x03
  | .channelHalted => 0x04
  | .channelCut .. => 0x05
  | .collectionTimeout .. => 0x06
  | .concealed .. => 0x07
  | .retired .. => 0x08
  | .pinLapsed .. => 0x09
  | .holdChanged .. => 0x0A
  | .recordFault .. => 0x0B
  | .walkDone .. => 0x0C

/-- The fields of a notice, in the order of the rule that gives them (R164). The latch byte of HOLD_CHANGED is 01h for a latch that is set,
and the item hold of CHANNEL_CUT 01h for one that is set: the model's choice (log 27). The header byte of WALK_DONE is 01h for OFFLINE
(R171). -/
def Notice.fields : Notice → List Field
  | .cueEnded tag status delivered gapFrames concealedFrames =>
    [.u16 tag.toNat, .u8 status.code, .u32 delivered, .u32 gapFrames, .u32 concealedFrames]
  | .cueSkipped tag key reason => [.u16 tag.toNat, .key key, .u8 reason.code]
  | .channelStopped remainder => presence (remainder.map fun r => [.u16 r.1.toNat, .u32 r.2])
  | .channelHalted => []
  | .channelCut tag groups itemHold byItem byGroups =>
    [.u16 tag.toNat, .u8 groups.toNat, .u8 itemHold.toNat, Field.flag byItem, .u8 byGroups.toNat]
  | .collectionTimeout tag remainder => [.u16 tag.toNat, .u32 remainder]
  | .concealed channel tag block failure => [.u8 channel.val, .u16 tag.toNat, .u32 block, .u8 failure.code]
  | .retired key slot passes extents blocks => [.key key, .u16 slot.val, .u8 passes, .u8 extents, .u32 blocks]
  | .pinLapsed slot cause => [.u16 slot.val, .u8 cause.code]
  | .holdChanged group latch source port =>
    [.u8 group.val, Field.flag latch, .u8 source.code] ++ presence (port.map fun p => [.u8 p.val])
  | .recordFault slot who part => [.u16 slot.val, .u8 who.code, .u8 part.code]
  | .walkDone cause offline free n latches =>
    [.u8 cause.code, Field.flag offline, .u32 n.linked, .u32 free, .u32 n.faultedUnlinked, .u32 n.duplicates,
      .u32 n.faultedLinked, .u32 n.retirements, .u32 n.repaired, .u8 latches.toNat]

/-- The message of a notice, with its notices-lost mark (R165, R170). That 01h is the mark that says that notices were lost is the
model's choice (log 27). -/
def Notice.message (n : Notice) (lost : Bool) : List Byte :=
  frameMessage 0x03 (n.kindCode :: (if lost then 0x01 else 0x00) :: n.fields.flatMap Field.encode)

/-- The message that asks the store for a block (R106, R170). -/
def blockReadMessage (tag : ReadTag) (block : Nat) : List Byte :=
  let head := 0x10 :: (leBytes 1 tag.val ++ leBytes 4 block)
  head ++ leBytes 2 (checkSum head)

/-- Frames of a whole audio piece: floor(1,024 / (lane count × word size)) (R162). -/
def pieceFrames (lanes word : Nat) : Nat := 1024 / (lanes * word)

/-- The pieces an audio message is cut into (R162). -/
def Message.pieceCount (m : Message) : Nat := (m.count + pieceFrames m.lanes m.word - 1) / pieceFrames m.lanes m.word

/-- A sample as two's complement little-endian bytes (R97). -/
def sampleBytes (word : Nat) (v : Int) : List Byte := leBytes word (v % 2 ^ (8 * word)).toNat

/-- The flags byte of an AUDIO piece (R170). -/
def Message.flags (m : Message) (lastPiece : Bool) : Nat :=
  (if m.lastOfCue then 1 else 0) + (if m.hasGap then 2 else 0) + (if m.hasConcealment then 4 else 0) +
    (if m.hasCutoff then 8 else 0) + (if lastPiece then 16 else 0)

/-- Piece `i` of an audio message (R162, R170). -/
def Message.piece (m : Message) (channel : ChannelId) (i : Nat) : List Byte :=
  let size := pieceFrames m.lanes m.word
  let frames := min size (m.count - i * size)
  frameMessage 0x04
    (leBytes 1 channel.val ++ leBytes 1 (m.flags (i + 1 = m.pieceCount)) ++ leBytes 1 m.lanes ++ leBytes 1 m.word ++
      leBytes 2 m.tag.toNat ++ leBytes 2 frames ++ leBytes 4 (m.first + i * size) ++ leBytes 2 m.count ++ leBytes 1 i ++
      leBytes 1 m.pieceCount ++ ((m.samples.drop (i * size * m.lanes)).take (frames * m.lanes)).flatMap (sampleBytes m.word))

/-- The pieces of an audio message in the order they are sent (R162). -/
def Message.pieces (m : Message) (channel : ChannelId) : List (List Byte) :=
  (List.range m.pieceCount).map (m.piece channel)

end Sys2Proof.Machine
end

