-- ==== Sys2Proof/Machine/Flags.lean ====
section
/-! DEFINITION. The attention unit's flags: cause flags and the ATTENTION line (R166), the ALARM line and its suppress latch
(R168), the first-fault record and the fault time (R169). -/

namespace Sys2Proof.Machine

/-- Whether the start-up walk is in progress: from the start of reset to the walk's end (R16). -/
def State.inWalk (s : State) : Bool :=
  match s.engine.condition with
  | .walkHeader | .walking _ => true
  | _ => false

/-- Whether a format is in progress (R16). -/
def State.inFormat (s : State) : Bool :=
  match s.engine.condition with
  | .formatting _ => true
  | _ => false

/-- Whether the engine does not arbitrate: a walk or a format is in progress (R16). -/
def State.starting (s : State) : Bool := s.inWalk || s.inFormat

/-- Whether the catalogue is OFFLINE (R16). -/
def State.isOffline (s : State) : Bool := s.engine.condition = .offline

/-- Whether a cause set names a cause. -/
def hasCause (set : CauseSet) (c : Cause) : Bool := set.getLsbD c.index

/-- ATTENTION follows the flags and the enables: it is asserted exactly when some enabled flag is set (R166). -/
def Attention.follow (a : Attention) : Attention :=
  { a with attention := decide (a.flags &&& a.enables ≠ 0) }

/-- A cause's event sets its flag (R166). From reset until the walk ends the unit records no event. -/
def raiseCause (c : Cause) (s : State) : State :=
  if s.inWalk then s
  else { s with attention := ({ s.attention with flags := s.attention.flags ||| c.bit } : Attention).follow }

/-- What an alarm-class event does to the ALARM line and the suppress latch (R168). -/
def Attention.alarmed (a : Attention) : Attention :=
  if a.suppress then a else { a with alarm := true, suppress := true }

/-- What an alarm-class event does to the first-fault record and the further-kinds set (R169). -/
def Attention.recorded (d : FaultDetail) (a : Attention) : Attention :=
  match a.record with
  | none => { a with record := some { time := a.faultTime, detail := d } }
  | some _ => { a with further := a.further ||| d.cause.bit }

/-- An alarm-class event: its cause's flag, the ALARM line and the first-fault record (R166, R168, R169). From reset until the
walk ends the unit records no event. -/
def alarmEvent (d : FaultDetail) (s : State) : State :=
  if s.inWalk then s
  else
    let t := raiseCause d.cause s
    { t with attention := t.attention.alarmed.recorded d }

/-- The fault time advances by one millisecond, and stops at 4,294,967,295 (R169). It has not started while the walk runs. -/
def advanceFaultTime (s : State) : State :=
  if s.inWalk then s
  else { s with attention := { s.attention with faultTime := min (s.attention.faultTime + 1) Config.maxU32 } }

/-- ACK_ATTENTION clears the named flags, except those of a level cause whose condition still holds (R167). -/
def Attention.acknowledge (causes : CauseSet) (a : Attention) : Attention :=
  let held : CauseSet :=
    (if a.stalled then Cause.storeStalled.bit else 0) ||| (if a.offline then Cause.catalogueOffline.bit else 0)
  ({ a with flags := a.flags &&& ~~~(causes &&& ~~~held) } : Attention).follow

end Sys2Proof.Machine
end

