-- ==== Sys2Proof/Machine/Ops.lean ====
section
/-! DEFINITION. The shared operations: sparse tables, the blocks' registers, notices and replies, reads and writes of
catalogue memory with their check codes, the directory and its lookup, and the engine's arbiter. -/

namespace Sys2Proof.Machine

/-- What a command answers. -/
abbrev Result := Host.Outcome State Fault Refusal

/-! ### Sparse tables -/

/-- The value of a sparse table at a key: `d` where it lists none. -/
def sparseGet {α : Type} (d : α) : List (Nat × α) → Nat → α
  | [], _ => d
  | (k, v) :: rest, n => if n = k then v else sparseGet d rest n

/-- A sparse table with a key listed at a value, in rising key order. -/
def sparseInsert {α : Type} (n : Nat) (x : α) : List (Nat × α) → List (Nat × α)
  | [] => [(n, x)]
  | (k, v) :: rest =>
    if n < k then (n, x) :: (k, v) :: rest
    else if n = k then (n, x) :: rest
    else (k, v) :: sparseInsert n x rest

/-- A sparse table with a key set to a value, in canonical form: the default value is not listed. -/
def sparseSet {α : Type} [DecidableEq α] (d : α) (table : List (Nat × α)) (n : Nat) (x : α) : List (Nat × α) :=
  if x = d then table.filter (fun e => e.1 ≠ n) else sparseInsert n x table

/-- The canonical form of a sparse table: keys strictly rising, and no entry at the default value. -/
abbrev SparseWf {α : Type} (d : α) (table : List (Nat × α)) : Prop :=
  table.Pairwise (fun a b => a.1 < b.1) ∧ ∀ e ∈ table, e.2 ≠ d

/-- The canonical form of catalogue memory: its records in canonical form, at slots that exist. -/
abbrev Memory.wf (m : Memory) : Prop :=
  SparseWf Record.freed m.records ∧ ∀ e ∈ m.records, e.1 < Config.slotCount

/-! ### Registers of the blocks -/

/-- An element of a fixed row of things. -/
def rowGet {α : Type} {n : Nat} (v : Vector α n) (i : Fin n) : α := v[i.val]

/-- A fixed row of things with one of them replaced. -/
def rowSet {α : Type} {n : Nat} (v : Vector α n) (i : Fin n) (x : α) : Vector α n := v.set i.val x

/-- A port's state. -/
def State.port (s : State) (p : PortId) : Port := rowGet s.ports p

/-- The part with a port's state replaced. -/
def State.setPort (s : State) (p : PortId) (q : Port) : State := { s with ports := rowSet s.ports p q }

/-- A channel's state. -/
def State.channel (s : State) (c : ChannelId) : Channel := rowGet s.channels c

/-- The part with a channel's state replaced. -/
def State.setChannel (s : State) (c : ChannelId) (ch : Channel) : State := { s with channels := rowSet s.channels c ch }

/-- The credit a port holds for a channel (R156). -/
def Port.creditFor (q : Port) (c : ChannelId) : Nat := rowGet q.credit c

/-- A port with its credit for a channel replaced. -/
def Port.withCredit (q : Port) (c : ChannelId) (n : Nat) : Port := { q with credit := rowSet q.credit c n }

/-- Things that come about at one moment, in the order of the free ranks `Config.orderRank`, each ranked by `rank`. A moment
with fewer than two things to order uses no rank (log 6). -/
def freeOrder {α : Type} (rank : α → Nat) (things : List α) (s : State) : List α × State :=
  if things.length < 2 then (things, s)
  else
    (things.insertionSort fun a b => Config.orderRank s.moments (rank a) ≤ Config.orderRank s.moments (rank b),
      { s with moments := s.moments + 1 })

/-! ### Notices and replies -/

/-- A notice reaches a port's notice queue: it is appended, or dropped with NOTICE_OVERFLOW where the queue holds 16 (R165). -/
def notify (p : PortId) (n : Notice) (s : State) : State :=
  let q := s.port p
  if q.notices.length < Config.noticeLimit then s.setPort p { q with notices := q.notices ++ [n] }
  else raiseCause .noticeOverflow (s.setPort p { q with noticesLost := true })

/-- A system notice reaches every port whose role is CONTROL (R164). -/
def notifyControl (n : Notice) (s : State) : State :=
  (List.finRange 16).foldl (fun t p => if (t.port p).role = .control then notify p n t else t) s

/-- A notice of a channel reaches its bound port (R164). -/
def notifyBound (c : ChannelId) (n : Notice) (s : State) : State :=
  match (s.channel c).port with
  | some p => notify p n s
  | none => s

/-- A reply joins a port's reply queue (R157, R158). -/
def Port.queueReply (q : Port) (r : Reply) : Port := { q with replies := q.replies ++ [r] }

/-- The serving block hands back the reply of the request in service, and the service ends (R158). -/
def reply (p : PortId) (code : ReplyCode) (fields : List Field) (s : State) : State :=
  let q := s.port p
  match q.service with
  | none => s
  | some v =>
    s.setPort p
      (({ q with service := none } : Port).queueReply { kind := v.kind, tag := v.tag, code := code, fields := fields })

/-- A port sets its link-fault flag and reports a LINK_FAULT event (R155, R157). -/
def linkFault (p : PortId) (s : State) : State :=
  raiseCause .linkFault (s.setPort p { s.port p with linkFault := true })

/-! ### Catalogue memory -/

/-- The place of a group of words among the words of a record. -/
def RecordWord.index : RecordWord → Fin 10
  | .key => 0
  | .state => 1
  | .format => 2
  | .holds => 3
  | .retiring => 4
  | .pass 0 => 5
  | .pass 1 => 6
  | .pass 2 => 7
  | .pass 3 => 8
  | .rendition => 9

/-- The part of the record in which a word lies, as a record fault names it (R146). -/
def RecordWord.part : RecordWord → RecordPart
  | .key => .key
  | .state | .format | .holds | .retiring => .fixedFields
  | .pass _ => .passTable
  | .rendition => .rendition

/-- The words of the pass table, in index order. -/
def passWords : List RecordWord := [.pass 0, .pass 1, .pass 2, .pass 3]

/-- Every word of a record but its state word, in the order of the record. -/
def wordsBesideState : List RecordWord := [.key, .format, .holds, .retiring] ++ passWords ++ [.rendition]

/-- The condition of a word of a record. -/
def Record.condition (r : Record) (w : RecordWord) : WordCondition := rowGet r.words w.index

/-- A record with a word's condition replaced. -/
def Record.setCondition (r : Record) (w : RecordWord) (k : WordCondition) : Record :=
  { r with words := rowSet r.words w.index k }

/-- A record one of whose words has been written with a fresh check code (R143). -/
def Record.fresh (r : Record) (w : RecordWord) : Record := r.setCondition w .clean

/-- A record one of whose words has been read: what could be corrected has been written back (R144). -/
def Record.corrected (r : Record) (w : RecordWord) : Record := r.setCondition w (r.condition w).afterRead

/-- A pass entry of a record. -/
def Record.pass (r : Record) (i : Fin 4) : PassEntry := rowGet r.passes i

/-- A record with a pass entry written, and its word fresh (R21, R143). -/
def Record.writePass (r : Record) (i : Fin 4) (e : PassEntry) : Record :=
  ({ r with passes := rowSet r.passes i e } : Record).fresh (.pass i)

/-- A record with its state written (R3, R143). -/
def Record.writeState (r : Record) (st : ItemState) : Record := ({ r with state := st } : Record).fresh .state

/-- The record that a slot of catalogue memory holds. -/
def State.record (s : State) (slot : Slot) : Record := sparseGet Record.freed s.memory.records slot.val

/-- The part with a slot's record written (R143). -/
def State.writeRecord (s : State) (slot : Slot) (r : Record) : State :=
  { s with memory := { s.memory with records := sparseSet Record.freed s.memory.records slot.val r } }

/-- The part with the catalogue engine's on-chip state replaced. -/
def State.setEngine (s : State) (e : Engine) : State := { s with engine := e }

/-- `n` words have been corrected and written back: RECORD_REPAIRED, or the walk's count of repairs (R144). -/
def noteRepairs (n : Nat) (s : State) : State :=
  if s.inWalk then
    s.setEngine { s.engine with walk := { s.engine.walk with repaired := s.engine.walk.repaired + n } }
  else raiseCause .recordRepaired s

/-- A read of a group of words of a slot's record: whether it could be read, and the part after it. Its words that can be corrected are
written back, also beside one that is lost (R144). -/
def readWord (slot : Slot) (w : RecordWord) (s : State) : Bool × State :=
  let r := s.record slot
  let k := r.condition w
  (!k.lost, if k.damaged = 0 then s else noteRepairs k.damaged (s.writeRecord slot (r.corrected w)))

/-- A read of several words, every one of them, in the order given: the first that is uncorrectable, if any, and the part after the
reads, in which every word that could be corrected has been written back (R144, R146, R148; log 8). -/
def readWords (slot : Slot) : List RecordWord → State → Option RecordWord × State
  | [], s => (none, s)
  | w :: rest, s =>
    match readWord slot w s with
    | (true, t) => readWords slot rest t
    | (false, t) => (some w, (readWords slot rest t).2)

/-! ### Faulted flags -/

/-- A slot put into a rising list of slots. -/
def slotInsert (x : Slot) : List Slot → List Slot
  | [] => [x]
  | y :: rest => if x < y then x :: y :: rest else if x = y then y :: rest else y :: slotInsert x rest

/-- Whether a slot's faulted flag is set (R5). -/
def State.isFaulted (s : State) (slot : Slot) : Bool := s.engine.faulted.contains slot

/-- The part with a slot's faulted flag set (R5). -/
def flagFaulted (slot : Slot) (s : State) : State :=
  s.setEngine { s.engine with faulted := slotInsert slot s.engine.faulted }

/-- The part with a slot's faulted flag cleared (R5). -/
def clearFaulted (slot : Slot) (s : State) : State :=
  s.setEngine { s.engine with faulted := s.engine.faulted.filter (fun x => x ≠ slot) }

/-- A record fault at run time: the slot is flagged and stays linked, and the fault is reported (R9, R146, R164). -/
def recordFault (who : Requester) (part : RecordPart) (slot : Slot) (s : State) : State :=
  notifyControl (.recordFault slot who part) (alarmEvent (.recordFault slot who part) (flagFaulted slot s))

/-- A linked slot flagged by a lookup of the walk: it is counted among the linked slots found faulted, and nothing is
reported (R148). -/
def walkLinkedFault (slot : Slot) (s : State) : State :=
  let t := flagFaulted slot s
  t.setEngine { t.engine with
    walk := { t.engine.walk with linked := t.engine.walk.linked - 1, faultedLinked := t.engine.walk.faultedLinked + 1 } }

/-! ### The directory -/

/-- The bucket of a key (R6): the exclusive-or of the low, middle and top pieces of the accession number and of the part
number. -/
def Key.bucket (k : Key) : BitVec 14 :=
  k.accession.setWidth 14 ^^^ (k.accession >>> 14).setWidth 14 ^^^ (k.accession >>> 28).setWidth 14 ^^^ k.part.setWidth 14

/-- The chain of a bucket, newest first (R7). -/
def Engine.chain (e : Engine) (bucket : BitVec 14) : List Slot := sparseGet [] e.directory bucket.toNat

/-- The engine with a slot linked at the head of a bucket's chain (R7). -/
def Engine.link (e : Engine) (bucket : BitVec 14) (slot : Slot) : Engine :=
  { e with directory := sparseSet [] e.directory bucket.toNat (slot :: e.chain bucket) }

/-- Whether a slot stands in a chain. -/
def Engine.isLinked (e : Engine) (slot : Slot) : Bool := e.directory.any fun b => b.2.contains slot

/-- The engine with a slot unlinked from its chain: the slots before and after it keep their order (R7). -/
def Engine.unlink (e : Engine) (slot : Slot) : Engine :=
  { e with
    directory := (e.directory.map fun b => (b.1, b.2.filter fun x => x ≠ slot)).filter fun b => b.2 ≠ [] }

/-- The engine with a slot pushed on top of the free slot stack (R10). -/
def Engine.push (e : Engine) (slot : Slot) : Engine := { e with freeStack := slot :: e.freeStack }

/-- The outcome of a lookup (R8). -/
inductive Lookup where
  | found (slot : Slot)
  | notFound
  | notFoundFaulted
  deriving DecidableEq, Repr

/-- A lookup along a chain (R8, R9): `saw` says whether a faulted slot has been passed over or flagged; `onFault` is what a key
found uncorrectable brings about. -/
def lookupChain (onFault : Slot → State → State) (key : Key) : List Slot → Bool → State → Lookup × State
  | [], saw, s => (if saw then .notFoundFaulted else .notFound, s)
  | slot :: rest, saw, s =>
    if s.isFaulted slot then lookupChain onFault key rest true s
    else
      match readWord slot .key s with
      | (true, t) => if (t.record slot).key = key then (.found slot, t) else lookupChain onFault key rest saw t
      | (false, t) => lookupChain onFault key rest true (onFault slot t)

/-- A lookup of a key (R8). -/
def lookup (onFault : Slot → State → State) (key : Key) (s : State) : Lookup × State :=
  lookupChain onFault key (s.engine.chain key.bucket) false s

/-- The faulted slots of a key's bucket chain, newest first (R19). -/
def State.faultedInBucket (s : State) (key : Key) : List Slot :=
  (s.engine.chain key.bucket).filter fun x => s.isFaulted x

/-! ### Engagements -/

/-- The slot an engagement entry names (R12). -/
def State.engagedSlot (s : State) (c : ChannelId) : Option Slot := rowGet s.engine.engagement c

/-- The part with a channel's engagement entry replaced (R12). -/
def State.setEngagement (s : State) (c : ChannelId) (slot : Option Slot) : State :=
  s.setEngine { s.engine with engagement := rowSet s.engine.engagement c slot }

/-- How many engagement entries name a slot (R12). -/
def State.engagements (s : State) (slot : Slot) : Nat := s.engine.engagement.toList.count (some slot)

/-- How many pins name a slot (R131). -/
def State.pinsOn (s : State) (slot : Slot) : Nat := s.pinTable.pins.countP fun p => p.slot = slot

/-! ### Holds -/

/-- Whether an item with these hold groups and this item hold is held, against the group latches (R4). That an item hold of 01h is the
one that is set is the model's choice (log 27). -/
def heldBy (groups itemHold : Byte) (latches : Groups) : Bool :=
  decide (itemHold = 1) || decide (groupsOf groups &&& latches ≠ 0)

/-- Whether the item of a record is held (R4). -/
def Record.held (r : Record) (latches : Groups) : Bool := heldBy r.groups r.itemHold latches

/-! ### The engine's arbiter -/

/-- Whether a request is one whose service puts a job to the catalogue engine: a catalogue request, or a PIN_ITEM whose
seconds field passes (R13, R132). -/
def Request.presentsJob : Request → Bool
  | .enterItem .. | .findItem .. | .describeItem .. | .releaseItem .. | .reopenItem .. | .splice .. | .openPass ..
  | .addExtent .. | .closePass .. | .withdrawPass .. | .holdItem .. | .liftItem .. | .setGroups .. | .retireItem ..
  | .restoreItem .. | .discardItem .. | .formatCatalogue => true
  | .pinItem _ seconds => decide (1 ≤ seconds.toNat ∧ seconds.toNat ≤ 86400)
  | _ => false

/-- The requester position of a port (R14). -/
def portPosition (p : PortId) : Nat := p.val

/-- The requester position of a channel (R14). -/
def channelPosition (c : ChannelId) : Nat := 16 + c.val

/-- The requester position of the hold unit (R14). -/
def holdPosition : Nat := 24

/-- Whether a port has a job waiting at the engine (R13). -/
def State.portWaits (s : State) (p : PortId) : Bool :=
  match (s.port p).service with
  | some v => v.request.presentsJob
  | none => false

/-- Whether a job waits at a requester position (R14). -/
def State.waitsAt (s : State) (position : Nat) : Bool :=
  if h : position < 16 then s.portWaits ⟨position, h⟩
  else if h : position - 16 < 8 then (s.channel ⟨position - 16, h⟩).job.isSome
  else position = holdPosition && s.hold.mirrorWaiting

/-- The requester positions in the cycle that begins just after the last position granted and wraps from 24 to 0 (R14). -/
def arbiterCycle (last : Nat) : List Nat := (List.range 25).map fun k => (last + 1 + k) % 25

/-- The position of the waiting job that comes first in the arbiter's cycle (R14). -/
def State.firstWaiting (s : State) : Option Nat := (arbiterCycle s.arbiter.lastGranted).find? s.waitsAt

/-- The engine's arbiter: where the engine is free and a job waits, the first in the cycle is granted (R14). A job that arrives at a
free engine is thus granted at once. The engine does not arbitrate during the walk or a format (R16). -/
def grantJob (s : State) : State :=
  if s.starting || s.arbiter.serving.isSome then s
  else
    match s.firstWaiting with
    | some n => { s with arbiter := { serving := some n, lastGranted := n } }
    | none => s

/-- The job being served has ended: the engine is free, and the arbiter grants the next (R13, R14). -/
def finishJob (s : State) : State := grantJob { s with arbiter := { s.arbiter with serving := none } }

/-- Whether the job of a requester position has been granted and is being served (R14). -/
def State.isServing (s : State) (position : Nat) : Bool := decide (s.arbiter.serving = some position)

/-- Whether the job that the arbiter has granted is a FORMAT_CATALOGUE: from its grant on, the engine answers every other port job with
STARTING (R16, R153). -/
def State.formatGranted (s : State) : Bool :=
  match s.arbiter.serving with
  | none => false
  | some n =>
    if h : n < 16 then
      match (s.port ⟨n, h⟩).service with
      | some v => v.request = .formatCatalogue
      | none => false
    else false

/-- The service of a port's catalogue job, of every kind but FORMAT_CATALOGUE (R13, R14, R16): STARTING at once during the walk and from
the grant of a format to its end, OFFLINE at once while the catalogue is OFFLINE, nothing before the arbiter has granted the job, and
else the job. The end of a granted job frees the engine. -/
def catalogueJob (p : PortId) (job : State → State) (s : State) : State :=
  if s.starting then reply p .starting [] s
  else if s.isServing (portPosition p) then finishJob (if s.isOffline then reply p .offline [] s else job s)
  else if s.formatGranted then reply p .starting [] s
  else if s.isOffline then reply p .offline [] s
  else s

/-- A request's work on an existing item (R8, R26, R42): the lookup of the key, with NO_ITEM or FAULTED; the read of the words
the request needs, with FAULTED; and then the request's own checks and effect. `faulted` gives the fields of a FAULTED
reply. -/
def withItem (p : PortId) (key : Key) (words : List RecordWord) (faulted : State → List Field)
    (work : Slot → State → State) (s : State) : State :=
  match lookup (recordFault (.port p) .key) key s with
  | (.notFound, t) => reply p .noItem [] t
  | (.notFoundFaulted, t) => reply p .faulted (faulted t) t
  | (.found slot, t) =>
    match readWords slot words t with
    | (some w, u) =>
      let v := recordFault (.port p) w.part slot u
      reply p .faulted (faulted v) v
    | (none, u) => work slot u

/-- The fields of a FAULTED reply that carries nothing further. -/
def noFields (_ : State) : List Field := []

end Sys2Proof.Machine
end

