-- ==== Sys2Proof/Machine/Position.lean ====
section
/-! DEFINITION. Position translation (chapter 4), the arithmetic of extents and passes (chapter 2), and renditions: their laws,
the segment of a frame, and the splice (chapter 3). -/

namespace Sys2Proof.Machine

/-! ### From milliseconds to frames -/

/-- The frame that contains an instant of `ms` milliseconds, at a rate: floor(ms × R / 1000) (R57). -/
def frameAt (ms rate : Nat) : Nat := ms * rate / 1000

/-- The end frame F1 of a cue and its SHORTENED mark, from its start S, its duration D, the rate and the length (R58). -/
def cueEnd (start duration rate length : Nat) : Nat × Bool :=
  if duration = 0 then (length, false)
  else
    let e := frameAt (start + duration) rate
    if e ≤ length then (e, false) else (length, true)

/-! ### Extents and passes -/

/-- The block total of a pass: the sum of the counts of its extents (R25). -/
def blockTotal (extents : List Extent) : Nat := (extents.map Extent.count).sum

/-- Whether two extents overlap: some block lies in both (R24, R28). -/
def Extent.overlaps (x y : Extent) : Bool := decide (x.start < y.start + y.count ∧ y.start < x.start + x.count)

/-- The blocks that a pass of `length` frames needs: ceiling(length × B / 65,536) (R31). -/
def blocksNeeded (length frameBytes : Nat) : Nat :=
  (length * frameBytes + (Config.blockBytes - 1)) / Config.blockBytes

/-- Whether extents cover a length: the block total × 65,536 is at least the length × B (R25, R30). -/
def covers (extents : List Extent) (length frameBytes : Nat) : Bool :=
  decide (length * frameBytes ≤ blockTotal extents * Config.blockBytes)

/-- The store block of pass block `n`, by the walk along the extents in declaration order; none beyond the block total
(R63). -/
def storeBlock : List Extent → Nat → Option Nat
  | [], _ => none
  | x :: rest, n => if n < x.count then some (x.start + n) else storeBlock rest (n - x.count)

/-- The first pass block of `count` frames from pass frame `frame` (R64). -/
def firstBlock (frame frameBytes : Nat) : Nat := frame * frameBytes / Config.blockBytes

/-- The last pass block of `count` frames from pass frame `frame` (R64). -/
def lastBlock (frame count frameBytes : Nat) : Nat := ((frame + count) * frameBytes - 1) / Config.blockBytes

/-- The last pass frame whose bytes touch pass block `n` (R66). -/
def lastFrameTouching (n frameBytes : Nat) : Nat := ((n + 1) * Config.blockBytes - 1) / frameBytes

/-! ### Renditions -/

/-- The frame after the last one a segment supplies. -/
def Segment.stop (g : Segment) : Nat := g.start + g.length

/-- Whether two neighbouring segments are mergeable (R38). -/
def Segment.mergeable (x y : Segment) : Bool :=
  match x.source, y.source with
  | .gap, .gap => true
  | .pass i o, .pass j q => decide (i = j ∧ q = o + x.length)
  | _, _ => false

/-- Whether a segment contains a frame (R41). -/
def Segment.contains (g : Segment) (frame : Nat) : Bool := decide (g.start ≤ frame ∧ frame < g.stop)

/-- The segment of a frame (R41). -/
def segmentOf (list : List Segment) (frame : Nat) : Option Segment := list.find? fun g => g.contains frame

/-- The source of a piece that begins `by` frames into a segment (R45). -/
def Source.advance : Source → Nat → Source
  | .pass i o, k => .pass i (o + k)
  | x, _ => x

/-- What of a segment lies before frame `a`: the whole segment, its left piece, or nothing (R45). -/
def Segment.before (g : Segment) (a : Nat) : List Segment :=
  if g.stop ≤ a then [g] else if g.start < a then [{ g with length := a - g.start }] else []

/-- What of a segment lies from frame `b` on: the whole segment, its right piece, or nothing (R45). -/
def Segment.after (g : Segment) (b : Nat) : List Segment :=
  if b ≤ g.start then [g]
  else if b < g.stop then [{ start := b, length := g.stop - b, source := g.source.advance (b - g.start) }]
  else []

/-- The cut list of a splice: what lies before the new segment, the new segment, and what lies after it (R45). -/
def cutList (list : List Segment) (n : Segment) : List Segment :=
  list.flatMap (fun g => g.before n.start) ++ n :: list.flatMap (fun g => g.after n.stop)

/-- A list of segments merged into canonical form: neighbours are merged while they are mergeable (R46). -/
def mergeSegments : List Segment → List Segment
  | [] => []
  | x :: rest =>
    match mergeSegments rest with
    | [] => [x]
    | y :: tail => if x.mergeable y then { x with length := x.length + y.length } :: tail else x :: y :: tail

/-- The list that a splice of a new segment leaves (R45, R46). -/
def splicedList (list : List Segment) (n : Segment) : List Segment := mergeSegments (cutList list n)

/-- Whether a segment is a PASS segment. -/
def Segment.isPass (g : Segment) : Bool :=
  match g.source with
  | .pass _ _ => true
  | _ => false

/-- Whether a segment names a pass (R32). -/
def Segment.names (g : Segment) (i : Nat) : Bool :=
  match g.source with
  | .pass j _ => decide (j = i)
  | _ => false

/-- The frames that the GAP segments of a rendition supply (R52). -/
def gapFrames (list : List Segment) : Nat := ((list.filter fun g => g.source = .gap).map Segment.length).sum

/-- The check that segments stand one after another from `at'` to `stop`, each of length at least 1, and that no two
neighbours are mergeable (R37, R150). -/
def contiguousTo (stop : Nat) : Nat → List Segment → Bool
  | at', [] => decide (at' = stop)
  | at', [g] => decide (g.start = at' ∧ 1 ≤ g.length ∧ g.stop = stop)
  | at', g :: h :: rest =>
    decide (g.start = at' ∧ 1 ≤ g.length) && !g.mergeable h && contiguousTo stop g.stop (h :: rest)

/-- Whether a rendition keeps the law of renditions for a length (R37). -/
def renditionSound (list : List Segment) (length : Nat) : Bool :=
  decide (1 ≤ list.length ∧ list.length ≤ Config.segmentLimit) && contiguousTo length 0 list

/-! ### The soundness of a record -/

/-- The part of an image at fault (R150, R171). -/
inductive FaultyPart where
  | fixedFields
  | pass (i : Nat)
  | rendition
  | segment (j : Nat)
  | release
  deriving DecidableEq, Repr

/-- The code of a part at fault (R171). -/
def FaultyPart.code : FaultyPart → Nat
  | .fixedFields => 0x00
  | .pass i => 0x10 + i
  | .rendition => 0x20
  | .segment j => 0x40 + j
  | .release => 0x60

/-- Whether a rate is one of the six (R2). -/
def rateLegal (rate : Nat) : Bool := [32000, 44100, 48000, 88200, 96000, 192000].contains rate

/-- Whether rate, channels, sample bytes and length lie in their ranges (R2, R17). -/
def formatLegal (rate channels sampleBytes length : Nat) : Bool :=
  rateLegal rate && decide (1 ≤ channels ∧ channels ≤ 8 ∧ 2 ≤ sampleBytes ∧ sampleBytes ≤ 4 ∧ 1 ≤ length ∧
    length ≤ Config.maxU32)

/-- The check of the fixed fields (R150). The key fits its fields by its type. -/
def Record.fixedSound (r : Record) : Bool :=
  (r.state = .review || r.state = .released) && formatLegal r.rate r.channels r.sampleBytes r.length &&
    decide (r.frameBytes = r.channels * r.sampleBytes) && groupSetLegal r.groups && (r.itemHold = 0 || r.itemHold = 1)

/-- Whether no two extents of a list overlap (R24). -/
def disjointExtents : List Extent → Bool
  | [] => true
  | x :: rest => rest.all (fun y => !x.overlaps y) && disjointExtents rest

/-- The check of a pass entry, for frame bytes B (R21, R24, R25, R150). -/
def PassEntry.sound (e : PassEntry) (frameBytes : Nat) : Bool :=
  decide (e.owner < 16) && decide (e.extents.length ≤ Config.extentLimit) &&
    e.extents.all (fun x => decide (1 ≤ x.count ∧ x.count ≤ 65535 ∧ x.start + x.count ≤ 4294967296)) &&
    disjointExtents e.extents &&
    (match e.state with
      | .empty => decide (e.owner = 0 ∧ e.length = 0 ∧ e.extents = [])
      | .opened => decide (e.length = 0)
      | .complete =>
        decide (1 ≤ e.length ∧ e.length ≤ Config.maxU32 ∧ 1 ≤ e.extents.length) && covers e.extents e.length frameBytes
      | .other _ => false)

/-- The check of one segment against the pass table: a PASS segment names a COMPLETE pass and lies within it (R39, R150). A source kind
that is neither GAP nor PASS is taken as a fault of its segment: the model's choice (log 27). -/
def Record.segmentSound (r : Record) (g : Segment) : Bool :=
  match g.source with
  | .gap => true
  | .pass i o =>
    if h : i < 4 then
      decide ((r.pass ⟨i, h⟩).state = .complete) && decide (o + g.length ≤ (r.pass ⟨i, h⟩).length)
    else false
  | .other _ => false

/-- The first part of a record at fault, in the order of the table of R150; none where the record is sound. -/
def Record.faultyPart (r : Record) : Option FaultyPart :=
  if !r.fixedSound then some .fixedFields
  else
    match (List.finRange 4).find? fun i => !(r.pass i).sound r.frameBytes with
    | some i => some (.pass i.val)
    | none =>
      if !renditionSound r.rendition r.length then some .rendition
      else
        match (List.range r.rendition.length).find? fun j =>
            !(r.rendition[j]?.map r.segmentSound).getD true with
        | some j => some (.segment j)
        | none =>
          if r.state = .released && !r.rendition.any Segment.isPass then some .release else none

/-! ### Resolved runs -/

/-- The run that a resolution hands over for a frame of a cue, from the record as it stands (R48, R61): none where the frame
has no segment or its segment names no pass entry. -/
def resolveRun (r : Record) (frame stop : Nat) : Option Run :=
  match segmentOf r.rendition frame with
  | none => none
  | some g =>
    match g.source with
    | .gap => some { start := frame, stop := min stop g.stop, source := .gap, issued := 0 }
    | .pass i o =>
      if h : i < 4 then
        some { start := frame, stop := min stop g.stop,
               source := .pass i (frame - g.start + o) (r.pass ⟨i, h⟩).extents, issued := 0 }
      else none
    | .other _ => none

/-- The pass entry that the run of a frame needs (R48). -/
def runPassWord (r : Record) (frame : Nat) : List RecordWord :=
  match segmentOf r.rendition frame with
  | some { source := .pass i _, .. } => if h : i < 4 then [.pass ⟨i, h⟩] else []
  | _ => []

/-- How many blocks a run has (R64); a GAP run has none (R61). -/
def Run.blockCount (run : Run) (frameBytes : Nat) : Nat :=
  match run.source with
  | .gap => 0
  | .pass _ frame _ => lastBlock frame (run.stop - run.start) frameBytes + 1 - firstBlock frame frameBytes

/-- Whether the read for a run's last block has been issued, or the run is GAP (R77). -/
def Run.allIssued (run : Run) (frameBytes : Nat) : Bool := decide (run.blockCount frameBytes ≤ run.issued)

end Sys2Proof.Machine
end

