-- ==== Sys2Proof/Machine/Lanes.lean ====
section
/-! DEFINITION. Lanes and sample conversion (chapter 6): the sample arithmetic, the lane settings and when they take
effect. -/

namespace Sys2Proof.Machine

/-- The two's complement value of `bits` bits that spell `n` (R101). -/
def signedValue (bits n : Nat) : Int := if n < 2 ^ (bits - 1) then n else (n : Int) - 2 ^ bits

/-- Polarity reversal of a value of `bits` bits, with saturation (R102). -/
def invertSample (bits : Nat) (v : Int) : Int := if v = -(2 ^ (bits - 1)) then 2 ^ (bits - 1) - 1 else -v

/-- The change of width from `s` to `w` bytes: widening (R103), narrowing toward minus infinity (R104), or neither. -/
def resizeSample (s w : Nat) (v : Int) : Int :=
  if s < w then v * 2 ^ (8 * (w - s)) else if w < s then v / 2 ^ (8 * (s - w)) else v

/-- The conversion of an input sample of `s` bytes for a lane, to `w` bytes: polarity, then width (R101). -/
def convertSample (s w : Nat) (invert : Bool) (v : Int) : Int :=
  resizeSample s w (if invert then invertSample (8 * s) v else v)

/-- A lane entry of a SET_LANES body, three bytes: enabled, source and invert (R98, R171). That 01h enables a lane and inverts it, and
00h does neither, is the model's choice (log 27). -/
def parseLane : List Byte → Option Lane
  | [enabled, source, invert] =>
    if h : source.toNat < 8 then
      if enabled.toNat ≤ 1 ∧ invert.toNat ≤ 1 then
        some { enabled := decide (enabled = 1), source := ⟨source.toNat, h⟩, invert := decide (invert = 1) }
      else none
    else none
  | _ => none

/-- Lane entry `i` of the entries that a SET_LANES body carries. -/
def carriedLane (entries : List Byte) (i : Nat) : Option Lane := parseLane ((entries.drop (3 * i)).take 3)

/-- The lane setting that a SET_LANES builds: the count, the word size and the entries carried, with the present entries for the
lanes not carried (R98). -/
def buildLanes (present : LaneSetting) (count word : Nat) (entries : List Byte) : LaneSetting :=
  { count := count, word := word,
    lanes := Vector.ofFn fun i : Fin 8 =>
      if i.val < count then (carriedLane entries i.val).getD (rowGet present.lanes i) else rowGet present.lanes i }

/-- The settings that wait for the message boundary take effect: lanes (R99) and cutoff behaviour (R93). -/
def Channel.boundary (ch : Channel) : Channel :=
  { ch with lanes := ch.pendingLanes.getD ch.lanes, pendingLanes := none,
            cutoff := ch.pendingCutoff.getD ch.cutoff, pendingCutoff := none }

/-- A channel's assembled message is discarded, if it holds one: its collection wait ends and the message boundary is passed
(R93, R94, R99). -/
def Channel.dropMessage (ch : Channel) : Channel :=
  match ch.message with
  | none => ch
  | some _ => ({ ch with message := none, wait := none } : Channel).boundary

end Sys2Proof.Machine
end

