-- ==== Sys2Proof/Machine/Reads.lean ====
section
/-! DEFINITION. Block requests and read slots: the grant of slots (R109, R110), the failure of an attempt (R112, R115), requests
that their channel no longer wants (R116), and the stall (R117). -/

namespace Sys2Proof.Machine

/-- What a buffer is for, if it holds a request that its channel still wants (R79). -/
def Buffer.place : Buffer → Option BlockPlace
  | .inFlight p | .filled p _ | .concealed p => some p
  | .free | .draining => none

/-- Whether the read of a buffer is in flight, wanted or not (R79, R80). -/
def Buffer.isInFlight : Buffer → Bool
  | .inFlight _ | .draining => true
  | _ => false

/-- A channel's buffer. -/
def Channel.buffer (ch : Channel) (b : BufferId) : Buffer := rowGet ch.buffers b

/-- A channel with a buffer replaced. -/
def Channel.withBuffer (ch : Channel) (b : BufferId) (x : Buffer) : Channel := { ch with buffers := rowSet ch.buffers b x }

/-- The buffer of a channel that holds pass block `n` of the run that begins at `runStart`. -/
def Channel.bufferFor (ch : Channel) (runStart n : Nat) : Option Buffer :=
  ch.buffers.toList.find? fun b => (b.place.map fun p => decide (p.runStart = runStart ∧ p.passBlock = n)).getD false

/-- A read slot of the store reader. -/
def State.readSlot (s : State) (t : ReadTag) : ReadSlot := rowGet s.store.slots t

/-- The part with the store reader replaced. -/
def State.setStore (s : State) (r : StoreReader) : State := { s with store := r }

/-- The part with a read slot replaced. -/
def State.setReadSlot (s : State) (t : ReadTag) (x : ReadSlot) : State :=
  s.setStore { s.store with slots := rowSet s.store.slots t x }

/-- Whether a block request is the one of a channel's buffer (R108). -/
def BlockRequest.isOf (r : BlockRequest) (c : ChannelId) (b : BufferId) : Bool := decide (r.channel = c ∧ r.buffer = b)

/-- The block request of a channel's buffer (R108). -/
def State.requestOf (s : State) (c : ChannelId) (b : BufferId) : Option BlockRequest :=
  s.store.requests.find? fun r => r.isOf c b

/-- The part with the block request of a channel's buffer changed. -/
def changeRequest (c : ChannelId) (b : BufferId) (f : BlockRequest → BlockRequest) (s : State) : State :=
  s.setStore { s.store with requests := s.store.requests.map fun r => if r.isOf c b then f r else r }

/-- The part with the block request of a channel's buffer forgotten (R108). -/
def forgetRequest (c : ChannelId) (b : BufferId) (s : State) : State :=
  s.setStore { s.store with requests := s.store.requests.filter fun r => !r.isOf c b }

/-! ### Granting slots -/

/-- Whether a request stands before another in timeline place (R108, R109). -/
def BlockRequest.earlier (x y : BlockRequest) : Bool :=
  decide (x.runStart < y.runStart ∨ x.runStart = y.runStart ∧ x.passBlock < y.passBlock)

/-- The request of a list that is earliest in timeline place (R109). -/
def earliest : List BlockRequest → Option BlockRequest
  | [] => none
  | x :: rest =>
    match earliest rest with
    | none => some x
    | some y => if y.earlier x then some y else some x

/-- A channel's waiting requests (R108). -/
def State.waitingOf (s : State) (c : ChannelId) : List BlockRequest :=
  s.store.requests.filter fun r => decide (r.channel = c) && !r.active

/-- The lowest-numbered free slot (R109). -/
def State.freeTag (s : State) : Option ReadTag := (List.finRange 8).find? fun t => s.readSlot t = .free

/-- The channels in the order that starts with the one after the channel last granted, wrapping from 7 to 0 (R109). -/
def channelCycle (last : ChannelId) : List ChannelId := (List.finRange 8).map fun k => last + 1 + k

/-- The request that is granted next (R109). -/
def State.nextRequest (s : State) : Option BlockRequest :=
  ((channelCycle s.store.lastChannel).find? fun c => !(s.waitingOf c).isEmpty).bind fun c => earliest (s.waitingOf c)

/-- One grant: the slot becomes active with its timer started, BLOCK_READ is sent, and the request becomes active (R109,
R110). -/
def grantTo (t : ReadTag) (r : BlockRequest) (s : State) : State :=
  let u := s.setReadSlot t (.active r.channel r.buffer r.block (r.failed + 1) (s.timing.read * 10))
  let v := changeRequest r.channel r.buffer (fun x => { x with active := true }) u
  v.setStore { v.store with lastChannel := r.channel, sent := v.store.sent ++ [blockReadMessage t r.block] }

/-- Grants, at most `n`, while slots are free and requests wait (R109). -/
def grantSlots : Nat → State → State
  | 0, s => s
  | n + 1, s =>
    match s.freeTag, s.nextRequest with
    | some t, some r => grantSlots n (grantTo t r s)
    | _, _ => s

/-- Every grant that can be made: there are eight slots (R109). -/
def grantAll (s : State) : State := grantSlots 8 s

/-! ### The end of an attempt -/

/-- A request ends *missing*: the store reader forgets it, and the channel releases its buffer (R108, R116). -/
def endMissing (c : ChannelId) (b : BufferId) (s : State) : State :=
  let t := forgetRequest c b s
  t.setChannel c ((t.channel c).withBuffer b .free)

/-- A request ends with *data*: the buffer becomes filled; an abandoned request ends *missing* (R111). -/
def endData (c : ChannelId) (b : BufferId) (data : List Byte) (s : State) : State :=
  match (s.channel c).buffer b with
  | .inFlight place =>
    let t := forgetRequest c b s
    t.setChannel c ((t.channel c).withBuffer b (.filled place data))
  | _ => endMissing c b s

/-- The current cue records that its CONCEALED notice has been sent (R115). -/
def Channel.noteConcealed (ch : Channel) : Channel :=
  { ch with current := ch.current.map fun cur => { cur with concealNoticed := true } }

/-- A request ends *concealed*: its buffer becomes concealed, and the first such block of a cue sends CONCEALED (R115). -/
def endConcealed (c : ChannelId) (b : BufferId) (block : Nat) (failure : Failure) (s : State) : State :=
  match (s.channel c).buffer b with
  | .inFlight place =>
    let t := forgetRequest c b s
    let u := t.setChannel c ((t.channel c).withBuffer b (.concealed place))
    match (u.channel c).current with
    | some cur =>
      if cur.concealNoticed then u
      else notifyBound c (.concealed c cur.tag block failure) (u.setChannel c (u.channel c).noteConcealed)
    | none => u
  | _ => endMissing c b s

/-- An active attempt of a request fails: the request ends *missing*, waits again for a slot, or ends *concealed* (R112). -/
def failAttempt (c : ChannelId) (b : BufferId) (failure : Failure) (s : State) : State :=
  match s.requestOf c b with
  | none => s
  | some r =>
    if r.abandoned || (s.channel c).state = .stopping then endMissing c b s
    else if r.failed + 1 ≤ s.timing.retry then
      changeRequest c b (fun x => { x with failed := x.failed + 1, lastFailure := some failure, active := false }) s
    else endConcealed c b r.block failure s

/-! ### Requests no longer wanted -/

/-- A channel discards its buffers: filled and concealed ones are free at once; a waiting request is withdrawn and its buffer
free; an active request is marked abandoned and its buffer drains (R80, R116). -/
def discardBuffers (c : ChannelId) (s : State) : State :=
  let kept := s.store.requests.filter fun r => !(decide (r.channel = c) && !r.active)
  let marked := kept.map fun r => if r.channel = c then { r with abandoned := true } else r
  let ch := s.channel c
  let buffers : Vector Buffer 4 := Vector.ofFn fun b =>
    match ch.buffer b with
    | .inFlight _ => if marked.any fun r => r.isOf c b then .draining else .free
    | .draining => .draining
    | _ => .free
  (s.setStore { s.store with requests := marked }).setChannel c { ch with buffers := buffers }

/-- A channel enters STOPPING: its requests that wait for a retry end *missing* at that moment (R116). -/
def endRetries (c : ChannelId) (s : State) : State :=
  (List.finRange 4).foldl
    (fun t b =>
      match t.requestOf c b with
      | some r => if !r.active && decide (0 < r.failed) then endMissing c b t else t
      | none => t)
    s

/-! ### The stall -/

/-- Whether all eight slots are stale (R117). -/
def State.allStale (s : State) : Bool :=
  s.store.slots.toList.all fun x =>
    match x with
    | .stale _ => true
    | _ => false

/-- The part with the STORE_STALLED condition as reported to the attention unit (R117, R166). -/
def setStalled (b : Bool) (s : State) : State := { s with attention := { s.attention with stalled := b } }

/-- The slot that has just become stale is the eighth: the stall begins, naming its block (R117). -/
def stallBegins (block : Nat) (s : State) : State :=
  if s.allStale && !s.attention.stalled then alarmEvent (.storeStalled block) (setStalled true s) else s

/-- A slot has left the stale condition: a stall ends (R117). -/
def stallEnds (s : State) : State := if s.allStale then s else setStalled false s

end Sys2Proof.Machine
end

