-- ==== Sys2Proof/Machine/Playback.lean ====
section
/-! DEFINITION. What a channel does of itself when an event has changed what it holds: presenting engine jobs (R76, R77),
issuing block requests (R79), assembling messages (R81), ending cues (R83, R84), ending STOPPING (R86), and meeting a cutoff
(R126 to R129). -/

namespace Sys2Proof.Machine

/-! ### Frames on hand -/

/-- What a frame on hand is delivered as (R81, R105, R127). -/
inductive FrameKind where
  | audio
  | gap
  | concealed
  | cutoff
  deriving DecidableEq, Repr

/-- Whether a frame is on hand, may still come to hand by a read in flight, or neither. -/
inductive Presence where
  | onHand (kind : FrameKind)
  | awaited
  | absent
  deriving DecidableEq, Repr

/-- Whether a channel is in RUNNING or HALTING, the states in which it issues reads and resolutions (R71). -/
def Channel.delivering (ch : Channel) : Bool := ch.state = .running || ch.state = .halting

/-- The frame after the cue's last frame: F1, or the crossing at which a FAULTED answer was found (R78, R81). -/
def CurrentCue.limit (cur : CurrentCue) : Nat := cur.crossing.getD cur.f1

/-- The runs that a channel delivers from: in STOPPING the delivery run alone, past whose end delivery cannot go, though a read-ahead run
is held until STOPPING ends (R77, R88; log 26). -/
def Channel.deliveryRuns (ch : Channel) : List Run := if ch.state = .stopping then ch.runs.take 1 else ch.runs

/-- The run, of those that a channel delivers from, that contains a frame. -/
def Channel.runOf (ch : Channel) (frame : Nat) : Option Run :=
  ch.deliveryRuns.find? fun r => decide (r.start ≤ frame ∧ frame < r.stop)

/-- The presence of a frame whose bytes touch the blocks of the two buffers given (R66, R81). -/
def blockPresence (x y : Option Buffer) : Presence :=
  match x, y with
  | some (.concealed _), _ => .onHand .concealed
  | _, some (.concealed _) => .onHand .concealed
  | some (.filled _ _), some (.filled _ _) => .onHand .audio
  | some _, some _ => .awaited
  | _, _ => .absent

/-- The presence of a frame of the current cue (R81, R86, R88, R127). -/
def framePresence (ch : Channel) (cur : CurrentCue) (frame : Nat) : Presence :=
  if cur.muted then (if ch.delivering then .onHand .cutoff else .absent)
  else
    match ch.runOf frame with
    | none => .absent
    | some run =>
      match run.source with
      | .gap => if ch.delivering then .onHand .gap else .absent
      | .pass _ p _ =>
        let q := p + (frame - run.start)
        blockPresence (ch.bufferFor run.start (firstBlock q cur.frameBytes))
          (ch.bufferFor run.start (lastBlock q 1 cur.frameBytes))

/-- The kinds of the frames on hand from `frame` onward without a break, at most `n` of them. -/
def kindsFrom (ch : Channel) (cur : CurrentCue) (frame : Nat) : Nat → List FrameKind
  | 0 => []
  | n + 1 =>
    match framePresence ch cur frame with
    | .onHand k => k :: kindsFrom ch cur (frame + 1) n
    | _ => []

/-! ### Assembling a message -/

/-- A byte of a run's pass, from the buffer that holds its block (R62). -/
def Channel.passByte (ch : Channel) (runStart position : Nat) : Byte :=
  match ch.bufferFor runStart (position / Config.blockBytes) with
  | some (.filled _ data) => data.getD (position % Config.blockBytes) 0
  | _ => 0

/-- The input sample of a source channel in a frame that carries audio (R62, R65, R101). -/
def inputSample (ch : Channel) (cur : CurrentCue) (frame source : Nat) : Int :=
  match ch.runOf frame with
  | some { start := start, source := .pass _ p _, .. } =>
    let at' := (p + (frame - start)) * cur.frameBytes + source * cur.sampleBytes
    signedValue (8 * cur.sampleBytes)
      (leNat ((List.range cur.sampleBytes).map fun i => ch.passByte start (at' + i)))
  | _ => 0

/-- The sample that a lane delivers in a frame of the kind given (R101 to R105). -/
def laneSample (ch : Channel) (cur : CurrentCue) (frame : Nat) (kind : FrameKind) (lane : Lane) : Int :=
  if kind = .audio && lane.enabled && decide (lane.source.val < cur.channels) then
    convertSample cur.sampleBytes ch.lanes.word lane.invert (inputSample ch cur frame lane.source.val)
  else 0

/-- The samples of frames from `frame` on, of the kinds given: frame by frame, lane 0 first (R97). -/
def messageSamples (ch : Channel) (cur : CurrentCue) (frame : Nat) : List FrameKind → List Int
  | [] => []
  | k :: rest =>
    (ch.lanes.lanes.toList.take ch.lanes.count).map (laneSample ch cur frame k) ++ messageSamples ch cur (frame + 1) rest

/-- The message of the frames on hand from the next frame on, of the kinds given (R81). -/
def buildMessage (ch : Channel) (cur : CurrentCue) (kinds : List FrameKind) : Message :=
  { tag := cur.tag, first := cur.next, count := kinds.length, lanes := ch.lanes.count, word := ch.lanes.word,
    lastOfCue := cur.next + kinds.length = cur.limit, hasGap := kinds.contains .gap,
    hasConcealment := kinds.contains .concealed, hasCutoff := kinds.contains .cutoff,
    gapFrames := kinds.count .gap, concealedFrames := kinds.count .concealed,
    samples := messageSamples ch cur cur.next kinds }

/-- The kinds of the frames of the message that a channel assembles now, if it does: 256 frames, or the cue's remaining ones;
and in STOPPING a shorter last message, when the frame after it is neither on hand nor awaited (R81, R86; log 15), as no
frame past the end of the delivery run is (R88). -/
def nextMessage (ch : Channel) (cur : CurrentCue) : Option (List FrameKind) :=
  let n := min Config.messageFrames (cur.limit - cur.next)
  let kinds := kindsFrom ch cur cur.next n
  if kinds = [] then none
  else if (ch.delivering || ch.state = .stopping) && decide (kinds.length = n) then some kinds
  else if ch.state = .stopping && decide (framePresence ch cur (cur.next + kinds.length) = .absent) then some kinds
  else none

/-- The collection wait that begins when a message is handed to the port: none where the credit is not 0 or the timeout is
off (R94). -/
def startWait (timing : Timing) (credit : Nat) : Option Nat :=
  if credit = 0 ∧ timing.collection ≠ 0 then some (timing.collection * 100) else none

/-- The credit of a channel at its bound port (R161). -/
def State.creditOf (s : State) (c : ChannelId) : Nat :=
  match (s.channel c).port with
  | some p => (s.port p).creditFor c
  | none => 0

/-- A channel assembles its next message, if it holds none and the frames are on hand (R81, R82). -/
def assemble (c : ChannelId) (s : State) : State :=
  let ch := s.channel c
  match ch.current, ch.message with
  | some cur, none =>
    match nextMessage ch cur with
    | some kinds =>
      s.setChannel c { ch with message := some (buildMessage ch cur kinds), wait := startWait s.timing (s.creditOf c) }
    | none => s
  | _, _ => s

/-! ### Issuing block requests -/

/-- The run whose block is requested next, in timeline order, as its place in the list of runs (R79). -/
def nextUnissued (frameBytes : Nat) : List Run → Nat → Option (Nat × Run)
  | [], _ => none
  | r :: rest, i => if r.allIssued frameBytes then nextUnissued frameBytes rest (i + 1) else some (i, r)

/-- The last programme frame of a run that takes bytes from pass block `n`. -/
def lastFrameOf (run : Run) (frame n frameBytes : Nat) : Nat :=
  min (run.start + (lastFrameTouching n frameBytes - frame)) (run.stop - 1)

/-- A channel issues its next block request into its lowest-numbered free buffer, where it may (R79). -/
def issueOne (c : ChannelId) (s : State) : State :=
  let ch := s.channel c
  match ch.current, (List.finRange 4).find? fun b => ch.buffer b = .free with
  | some cur, some b =>
    if !ch.delivering then s
    else
      match nextUnissued cur.frameBytes ch.runs 0 with
      | some (i, run) =>
        match run.source with
        | .gap => s
        | .pass _ frame extents =>
          let n := firstBlock frame cur.frameBytes + run.issued
          match storeBlock extents n with
          | none => s
          | some block =>
            let place : BlockPlace :=
              { runStart := run.start, passBlock := n, lastFrame := lastFrameOf run frame n cur.frameBytes }
            let request : BlockRequest :=
              { channel := c, buffer := b, block := block, runStart := run.start, passBlock := n, failed := 0,
                lastFailure := none, abandoned := false, active := false }
            (s.setStore { s.store with requests := s.store.requests ++ [request] }).setChannel c
              { ch.withBuffer b (.inFlight place) with runs := ch.runs.set i { run with issued := run.issued + 1 } }
      | none => s
  | _, _ => s

/-- A channel issues every request it may: it has four buffers (R79). -/
def issueAll (c : ChannelId) (s : State) : State := issueOne c (issueOne c (issueOne c (issueOne c s)))

/-! ### The end of a cue -/

/-- A job with its answer to be discarded when it arrives (R87, R88). -/
def ChannelJob.discarded : ChannelJob → ChannelJob
  | .start cue role ignore _ => .start cue role ignore true
  | .segment frame stop _ => .segment frame stop true
  | .disengage => .disengage

/-- Whether a job is a resolution that awaits an answer. -/
def ChannelJob.isResolution : ChannelJob → Bool
  | .disengage => false
  | _ => true

/-- A channel lets go of what it holds of its current cue but the cue itself: the assembled message, the buffers, the runs, and
the answer of a resolution in flight (R94, R127, R128). -/
def letGo (c : ChannelId) (s : State) : State :=
  let t := discardBuffers c s
  let ch := (t.channel c).dropMessage
  t.setChannel c { ch with runs := [], job := ch.job.map ChannelJob.discarded }

/-- A channel's current cue ends: CUE_ENDED is sent, the cue and what it holds is discarded, and a disengage is due (R83). -/
def endCue (c : ChannelId) (status : CueStatus) (s : State) : State :=
  match (s.channel c).current with
  | none => s
  | some cur =>
    let t := letGo c (notifyBound c (.cueEnded cur.tag status cur.delivered cur.gap cur.concealed) s)
    t.setChannel c { t.channel c with current := none, disengageDue := true }

/-- The part with a channel's state changed. -/
def enterState (c : ChannelId) (st : ChannelState) (s : State) : State :=
  s.setChannel c { s.channel c with state := st }

/-- After a cue has ended or been skipped, the channel goes on according to its state (R84). -/
def goOn (c : ChannelId) (s : State) : State :=
  match (s.channel c).state with
  | .running => if (s.channel c).queue = [] then enterState c .idle s else s
  | .halting => notifyBound c .channelHalted (enterState c .halted s)
  | .stopping => notifyBound c (.channelStopped none) (enterState c .stopped s)
  | _ => s

/-- The status of a cue all of whose frames due have been sent (R83, R127). -/
def CurrentCue.endStatus (cur : CurrentCue) : CueStatus :=
  if cur.crossing.isSome then .faulted else if cur.muted then .muted else if cur.shortened then .shortened else .played

/-- A playing channel whose last due frame has been sent ends its cue and goes on (R83, R84). In STOPPING the channel stays until no
read is in flight and no resolution awaits an answer (R86), as `stoppingEnd` judges. -/
def finishCue (c : ChannelId) (s : State) : State :=
  let ch := s.channel c
  match ch.current, ch.message with
  | some cur, none =>
    if cur.next < cur.limit then s
    else if ch.delivering then goOn c (endCue c cur.endStatus s)
    else if ch.state = .stopping then endCue c cur.endStatus s
    else s
  | _, _ => s

/-! ### The end of STOPPING -/

/-- A channel becomes STOPPED with its current cue as remainder: buffers and runs are discarded (R86, R94). -/
def keepRemainder (c : ChannelId) (s : State) : State :=
  let t := letGo c s
  let ch := t.channel c
  t.setChannel c { ch with state := .stopped, current := ch.current.map fun cur => { cur with crossing := none } }

/-- STOPPING ends when no read is in flight, no resolution awaits an answer and no message is held: with a remainder, without
one, or with a muted cue ended CUT (R86, R127). -/
def stoppingEnd (c : ChannelId) (s : State) : State :=
  let ch := s.channel c
  if ch.state = .stopping && ch.message.isNone && !(ch.job.any ChannelJob.isResolution) &&
      !(ch.buffers.toList.any Buffer.isInFlight) then
    match ch.current with
    | none => goOn c s
    | some cur =>
      if cur.muted then goOn c (endCue c .cut s)
      else notifyBound c (.channelStopped (some (cur.tag, cur.next))) (keepRemainder c s)
  else s

/-! ### Presenting engine jobs -/

/-- The role of a channel's bound port. -/
def State.boundRole (s : State) (c : ChannelId) : Role :=
  match (s.channel c).port with
  | some p => (s.port p).role
  | none => .none

/-- The resolution that a channel with a current cue presents, if any (R77, R90): for the next frame where it holds no run, and
else for the frame at the end of its one run when that run's last block has been requested. A channel may come to hold no run otherwise
than by resuming a remainder: its run is delivered and dropped before the run's last block has been requested, as when block n is concealed,
the frame that straddles it is the run's last, and no buffer is free. That the next frame is then asked for is the model's choice
(log 29). -/
def segmentDue (cur : CurrentCue) (runs : List Run) : Option ChannelJob :=
  if cur.muted || cur.crossing.isSome then none
  else
    match runs with
    | [] => some (.segment cur.next cur.f1 false)
    | [run] =>
      if run.stop < cur.f1 && run.allIssued cur.frameBytes then some (.segment run.stop cur.f1 false) else none
    | _ => none

/-- The job a channel with none at the engine presents now, if any: a disengage that is due, the start resolution of its head
cue, or a segment resolution (R15, R76, R77). -/
def jobDue (s : State) (c : ChannelId) : Option ChannelJob :=
  let ch := s.channel c
  if ch.disengageDue then some .disengage
  else
    match ch.current, ch.queue with
    | none, cue :: _ =>
      if ch.state = .running then some (.start cue (s.boundRole c) (ch.cutoff = .ignore) false) else none
    | none, [] => none
    | some cur, _ => if ch.delivering then segmentDue cur ch.runs else none

/-- A channel presents its next engine job, if it has none and one is due; a free engine takes it at once (R14, R15). -/
def presentJob (c : ChannelId) (s : State) : State :=
  let ch := s.channel c
  match ch.job, jobDue s c with
  | none, some j => grantJob (s.setChannel c { ch with job := some j, disengageDue := false })
  | _, _ => s

/-! ### Settling -/

/-- The buffers whose last frame has been sent are released (R79). -/
def releaseBuffers (c : ChannelId) (s : State) : State :=
  let ch := s.channel c
  match ch.current with
  | none => s
  | some cur =>
    s.setChannel c
      { ch with
        buffers := ch.buffers.map fun b =>
          match b with
          | .filled p _ | .concealed p => if p.lastFrame < cur.next then .free else b
          | _ => b }

/-- Everything a channel does of itself after an event: releases, the end of the cue, requests, assembly, the end of STOPPING
and the next engine job. -/
def settleChannel (c : ChannelId) (s : State) : State :=
  presentJob c (stoppingEnd c (assemble c (issueAll c (finishCue c (releaseBuffers c s)))))

/-- A channel settles, and the store reader grants the slots it can. -/
def settle (c : ChannelId) (s : State) : State := grantAll (settleChannel c s)

/-! ### Cutoff -/

/-- Whether the hold unit finds the item of a current cue held, by the channel's copy (R126). -/
def CurrentCue.held (cur : CurrentCue) (latches : Groups) : Bool := heldBy cur.groups cur.itemHold latches

/-- Whether a judgement of a channel finds a cutoff event (R126). -/
def State.cutoffDue (s : State) (c : ChannelId) : Bool :=
  match (s.channel c).current with
  | none => false
  | some cur => cur.held s.hold.latches && decide ((s.channel c).cutoff ≠ .ignore) && !cur.muted

/-- A cutoff under MUTE: the cue takes the cutoff mark, and what the channel holds of it is discarded (R127). -/
def muteCue (c : ChannelId) (s : State) : State :=
  let t := s.setChannel c
    { s.channel c with current := (s.channel c).current.map fun cur => { cur with muted := true } }
  letGo c t

/-- A cutoff under STOP: the cue ends CUT and the channel becomes CUT and sends CHANNEL_CUT (R128, R129). -/
def stopCue (c : ChannelId) (s : State) : State :=
  match (s.channel c).current with
  | none => s
  | some cur =>
    notifyBound c
      (.channelCut cur.tag cur.groups cur.itemHold (decide (cur.itemHold = 1)) (groupsOf cur.groups &&& s.hold.latches))
      (enterState c .cut (endCue c .cut s))

/-- What a cutoff event does to a channel, by the behaviour in effect and the channel's state (R127, R128, R129). -/
def cutoffEvent (c : ChannelId) (s : State) : State :=
  let ch := s.channel c
  match ch.cutoff with
  | .ignore => s
  | .stop => stopCue c s
  | .skip => if ch.state = .stopped then endCue c .cut s else goOn c (endCue c .cut s)
  | .mute => if ch.state = .stopped then endCue c .cut s else muteCue c s

/-- The hold unit judges a channel (R126). -/
def judge (c : ChannelId) (s : State) : State := if s.cutoffDue c then cutoffEvent c s else s

/-- Channels are judged, in the free order among those that meet a cutoff event; each then settles, and the store reader grants
the slots it can (R126, log 6). -/
def judgeChannels (channels : List ChannelId) (s : State) : State :=
  let (order, t) := freeOrder Fin.val (channels.filter fun c => s.cutoffDue c) s
  grantAll (order.foldl (fun u c => settleChannel c (judge c u)) t)

end Sys2Proof.Machine
end

