-- ==== Sys2Proof/Machine/Items.lean ====
section
/-! DEFINITION. ENTER_ITEM, FIND_ITEM and DESCRIBE_ITEM (chapter 1). -/

namespace Sys2Proof.Machine

/-- The record that ENTER_ITEM writes (R18). It is written whole: that the retiring port, which neither R18's table nor R21 lists,
is written too, as 0 and with a sound word, is the model's choice (log 2). -/
def newRecord (key : Key) (rate channels sampleBytes length : Nat) : Record :=
  { Record.freed with
    key := key, state := .review, rate := rate, channels := channels, sampleBytes := sampleBytes,
    frameBytes := channels * sampleBytes, length := length,
    rendition := [{ start := 0, length := length, source := .gap }] }

/-- The job of ENTER_ITEM (R17, R18). -/
def enterItemJob (p : PortId) (key : Key) (rate channels sampleBytes length : Nat) (s : State) : State :=
  if !formatLegal rate channels sampleBytes length then reply p .badField [] s
  else
    match lookup (recordFault (.port p) .key) key s with
    | (.found _, t) => reply p .duplicate [] t
    | (.notFoundFaulted, t) => reply p .faulted [] t
    | (.notFound, t) =>
      match t.engine.freeStack with
      | [] => reply p .catalogueFull [] t
      | slot :: rest =>
        let u := t.writeRecord slot (newRecord key rate channels sampleBytes length)
        let v := u.setEngine (({ u.engine with freeStack := rest } : Engine).link key.bucket slot)
        reply p .ok [.u16 slot.val] v

/-- ENTER_ITEM is served for a port (R17). -/
def serveEnterItem (p : PortId) (s : State) : State :=
  match (s.port p).service with
  | some { request := .enterItem key rate ch sb len, .. } =>
    catalogueJob p (enterItemJob p key rate.toNat ch.toNat sb.toNat len.toNat) s
  | _ => s

/-- ENTER_ITEM (R17, R18). -/
def execEnterItem (p : PortId) (s : State) : Result := .next (serveEnterItem p s)

/-- The fields of a FAULTED reply of FIND_ITEM and DESCRIBE_ITEM: the count of faulted slots in the key's bucket, and the
first eight of them (R19, R20). -/
def bucketFields (key : Key) (s : State) : List Field :=
  let slots := s.faultedInBucket key
  .u32 slots.length :: .u8 (min 8 slots.length) :: (slots.take 8).map fun x => .u16 x.val

/-- What FIND_ITEM reports of a slot (R19). -/
def findFields (key : Key) (slot : Slot) (s : State) : List Field :=
  let r := s.record slot
  [.u16 slot.val, .u8 r.state.code.toNat, Field.flag (r.held s.hold.latches), .u8 (s.engagements slot),
    .u8 (s.pinsOn slot), .u32 (s.faultedInBucket key).length]

/-- The job of FIND_ITEM (R19). -/
def findItemJob (p : PortId) (key : Key) (s : State) : State :=
  withItem p key [.state, .holds] (bucketFields key) (fun slot t => reply p .ok (findFields key slot t) t) s

/-- FIND_ITEM is served for a port (R19). -/
def serveFindItem (p : PortId) (s : State) : State :=
  match (s.port p).service with
  | some { request := .findItem key, .. } => catalogueJob p (findItemJob p key) s
  | _ => s

/-- FIND_ITEM (R19). -/
def execFindItem (p : PortId) (s : State) : Result := .next (serveFindItem p s)

/-- The job of DESCRIBE_ITEM (R20). -/
def describeItemJob (p : PortId) (key : Key) (s : State) : State :=
  withItem p key (.state :: wordsBesideState) (bucketFields key)
    (fun slot t => reply p .ok [.u16 slot.val, .bytes (t.record slot).image] t) s

/-- DESCRIBE_ITEM is served for a port (R20). -/
def serveDescribeItem (p : PortId) (s : State) : State :=
  match (s.port p).service with
  | some { request := .describeItem key, .. } => catalogueJob p (describeItemJob p key) s
  | _ => s

/-- DESCRIBE_ITEM (R20). -/
def execDescribeItem (p : PortId) (s : State) : Result := .next (serveDescribeItem p s)

end Sys2Proof.Machine
end

