-- ==== Sys2Proof/Machine/Passes.lean ====
section
/-! DEFINITION. OPEN_PASS, ADD_EXTENT, CLOSE_PASS and WITHDRAW_PASS (chapter 2). -/

namespace Sys2Proof.Machine

/-- The lowest-indexed pass entry of a record that is in a state (R27, R137). -/
def Record.firstPass (r : Record) (st : PassState) : Option (Fin 4) :=
  (List.finRange 4).find? fun i => (r.pass i).state = st

/-- OPEN_PASS on the found slot (R27). -/
def openPassOn (p : PortId) (slot : Slot) (s : State) : State :=
  let r := s.record slot
  if !(r.state = .review || r.state = .released) then reply p .wrongState [] s
  else
    match r.firstPass .empty with
    | none => reply p .listFull [] s
    | some i =>
      reply p .ok [.u8 i.val]
        (s.writeRecord slot (r.writePass i { state := .opened, owner := p.val, length := 0, extents := [] }))

/-- OPEN_PASS is served for a port (R27). It reads the state and all four pass entries: that the entries above the lowest EMPTY one are
among the words it needs is the model's choice (log 8). -/
def serveOpenPass (p : PortId) (s : State) : State :=
  match (s.port p).service with
  | some { request := .openPass key, .. } =>
    catalogueJob p (withItem p key (.state :: passWords) noFields (openPassOn p)) s
  | _ => s

/-- OPEN_PASS (R27). -/
def execOpenPass (p : PortId) (s : State) : Result := .next (serveOpenPass p s)

/-- ADD_EXTENT on the found slot (R28, R29). -/
def addExtentOn (p : PortId) (i : Fin 4) (x : Extent) (slot : Slot) (s : State) : State :=
  let r := s.record slot
  let e := r.pass i
  if e.state ≠ .opened then reply p .wrongState [] s
  else if e.owner ≠ p.val then reply p .notOwner [] s
  else if Config.extentLimit ≤ e.extents.length then reply p .listFull [] s
  else if e.extents.any fun y => x.overlaps y then reply p .overlap [] s
  else
    let list := e.extents ++ [x]
    reply p .ok [.u8 i.val, .u8 list.length, .u32 (blockTotal list)]
      (s.writeRecord slot (r.writePass i { e with extents := list }))

/-- The job of ADD_EXTENT, its field checks first (R28). -/
def addExtentJob (p : PortId) (key : Key) (pass start count : Nat) (s : State) : State :=
  if h : pass < 4 then
    if 1 ≤ count ∧ count ≤ 65535 ∧ start + count ≤ 4294967296 then
      withItem p key [.pass ⟨pass, h⟩] noFields (addExtentOn p ⟨pass, h⟩ { start := start, count := count }) s
    else reply p .badField [] s
  else reply p .badField [] s

/-- ADD_EXTENT is served for a port (R28). -/
def serveAddExtent (p : PortId) (s : State) : State :=
  match (s.port p).service with
  | some { request := .addExtent key pass start count, .. } =>
    catalogueJob p (addExtentJob p key pass.toNat start.toNat count.toNat) s
  | _ => s

/-- ADD_EXTENT (R28, R29). -/
def execAddExtent (p : PortId) (s : State) : Result := .next (serveAddExtent p s)

/-- CLOSE_PASS on the found slot (R30, R31). -/
def closePassOn (p : PortId) (i : Fin 4) (length : Nat) (slot : Slot) (s : State) : State :=
  let r := s.record slot
  let e := r.pass i
  if e.state ≠ .opened then reply p .wrongState [] s
  else if e.owner ≠ p.val then reply p .notOwner [] s
  else if !covers e.extents length r.frameBytes then reply p .shortPass [] s
  else
    reply p .ok [.u8 i.val, .u32 length, .u32 (blockTotal e.extents), .u32 (blocksNeeded length r.frameBytes)]
      (s.writeRecord slot (r.writePass i { e with state := .complete, length := length }))

/-- The job of CLOSE_PASS, its field checks first (R30). -/
def closePassJob (p : PortId) (key : Key) (pass length : Nat) (s : State) : State :=
  if h : pass < 4 then
    if 1 ≤ length then withItem p key [.format, .pass ⟨pass, h⟩] noFields (closePassOn p ⟨pass, h⟩ length) s
    else reply p .badField [] s
  else reply p .badField [] s

/-- CLOSE_PASS is served for a port (R30). -/
def serveClosePass (p : PortId) (s : State) : State :=
  match (s.port p).service with
  | some { request := .closePass key pass length, .. } => catalogueJob p (closePassJob p key pass.toNat length.toNat) s
  | _ => s

/-- CLOSE_PASS (R30, R31). -/
def execClosePass (p : PortId) (s : State) : Result := .next (serveClosePass p s)

/-- WITHDRAW_PASS on the found slot (R32, R33). -/
def withdrawPassOn (p : PortId) (role : Role) (i : Fin 4) (slot : Slot) (s : State) : State :=
  let r := s.record slot
  let e := r.pass i
  if !(e.state = .opened || e.state = .complete) then reply p .wrongState [] s
  else if !(e.owner = p.val || role = .catalogue || role = .control) then reply p .notOwner [] s
  else if r.rendition.any fun g => g.names i.val then reply p .passInUse [] s
  else if s.engagements slot ≠ 0 then reply p .itemInUse [] s
  else
    reply p .ok ([.u8 i.val, .u8 e.extents.length, .u32 (blockTotal e.extents)] ++ extentFields e.extents)
      (s.writeRecord slot (r.writePass i PassEntry.empty))

/-- The job of WITHDRAW_PASS, its field check first (R32). -/
def withdrawPassJob (p : PortId) (role : Role) (key : Key) (pass : Nat) (s : State) : State :=
  if h : pass < 4 then
    withItem p key [.pass ⟨pass, h⟩, .rendition] noFields (withdrawPassOn p role ⟨pass, h⟩) s
  else reply p .badField [] s

/-- WITHDRAW_PASS is served for a port (R32). -/
def serveWithdrawPass (p : PortId) (s : State) : State :=
  match (s.port p).service with
  | some { request := .withdrawPass key pass, role := role, .. } =>
    catalogueJob p (withdrawPassJob p role key pass.toNat) s
  | _ => s

/-- WITHDRAW_PASS (R32, R33). -/
def execWithdrawPass (p : PortId) (s : State) : Result := .next (serveWithdrawPass p s)

end Sys2Proof.Machine
end

