-- ==== Sys2Proof/Machine/Renditions.lean ====
section
/-! DEFINITION. SPLICE, RELEASE_ITEM and REOPEN_ITEM (chapter 3). -/

namespace Sys2Proof.Machine

/-- The source that a SPLICE names, or none where a field is at fault (R43). -/
def spliceSource (kind pass offset : Nat) : Option Source :=
  if kind = 0 then some .gap
  else if kind = 1 ∧ pass < 4 then some (.pass pass offset)
  else none

/-- The index in a list of the segment that contains a frame (R47). -/
def indexOfFrame (list : List Segment) (frame : Nat) : Nat := list.findIdx fun g => g.contains frame

/-- The refusal of a splice of a new segment by the found record, if any: the checks of R44 in their order. -/
def spliceRefusal (r : Record) (a b : Nat) (source : Source) : Option ReplyCode :=
  if r.state ≠ .review then some .wrongState
  else if !(decide (a < b ∧ b ≤ r.length)) then some .outOfRange
  else
    match source with
    | .pass i q =>
      if h : i < 4 then
        if (r.pass ⟨i, h⟩).state ≠ .complete then some .wrongState
        else if (r.pass ⟨i, h⟩).length < q + (b - a) then some .outOfRange
        else none
      else some .badField
    | _ => none

/-- SPLICE on the found slot (R44 to R47). -/
def spliceOn (p : PortId) (a b : Nat) (source : Source) (slot : Slot) (s : State) : State :=
  let r := s.record slot
  match spliceRefusal r a b source with
  | some code => reply p code [] s
  | none =>
    let list := splicedList r.rendition { start := a, length := b - a, source := source }
    if Config.segmentLimit < list.length then reply p .listFull [] s
    else
      reply p .ok [.u8 r.rendition.length, .u8 list.length, .u8 (indexOfFrame list a)]
        (s.writeRecord slot (({ r with rendition := list } : Record).fresh .rendition))

/-- The words that a SPLICE reads: the state, the length, the named pass entry and the rendition (R42). -/
def spliceWords (source : Source) : List RecordWord :=
  match source with
  | .pass i _ => if h : i < 4 then [.state, .format, .pass ⟨i, h⟩, .rendition] else [.state, .format, .rendition]
  | _ => [.state, .format, .rendition]

/-- The job of SPLICE, its field checks first (R43). -/
def spliceJob (p : PortId) (key : Key) (a b kind pass offset : Nat) (s : State) : State :=
  match spliceSource kind pass offset with
  | none => reply p .badField [] s
  | some source => withItem p key (spliceWords source) noFields (spliceOn p a b source) s

/-- SPLICE is served for a port (R43). -/
def serveSplice (p : PortId) (s : State) : State :=
  match (s.port p).service with
  | some { request := .splice key a b kind pass offset, .. } =>
    catalogueJob p (spliceJob p key a.toNat b.toNat kind.toNat pass.toNat offset.toNat) s
  | _ => s

/-- SPLICE (R43 to R47). -/
def execSplice (p : PortId) (s : State) : Result := .next (serveSplice p s)

/-- RELEASE_ITEM on the found slot (R52). -/
def releaseItemOn (p : PortId) (slot : Slot) (s : State) : State :=
  let r := s.record slot
  if r.state = .review && r.rendition.any Segment.isPass then
    reply p .ok [.u8 r.rendition.length, .u32 (gapFrames r.rendition)] (s.writeRecord slot (r.writeState .released))
  else reply p .wrongState [.u8 r.state.code.toNat] s

/-- RELEASE_ITEM is served for a port (R52). -/
def serveReleaseItem (p : PortId) (s : State) : State :=
  match (s.port p).service with
  | some { request := .releaseItem key, .. } =>
    catalogueJob p (withItem p key [.state, .rendition] noFields (releaseItemOn p)) s
  | _ => s

/-- RELEASE_ITEM (R52). -/
def execReleaseItem (p : PortId) (s : State) : Result := .next (serveReleaseItem p s)

/-- REOPEN_ITEM on the found slot (R53). -/
def reopenItemOn (p : PortId) (slot : Slot) (s : State) : State :=
  let r := s.record slot
  if r.state ≠ .released then reply p .wrongState [] s
  else if s.pinsOn slot ≠ 0 then reply p .pinned [.u8 (s.pinsOn slot)] s
  else if s.engagements slot ≠ 0 then reply p .itemInUse [.u8 (s.engagements slot)] s
  else reply p .ok [] (s.writeRecord slot (r.writeState .review))

/-- REOPEN_ITEM is served for a port (R53). -/
def serveReopenItem (p : PortId) (s : State) : State :=
  match (s.port p).service with
  | some { request := .reopenItem key, .. } => catalogueJob p (withItem p key [.state] noFields (reopenItemOn p)) s
  | _ => s

/-- REOPEN_ITEM (R53). -/
def execReopenItem (p : PortId) (s : State) : Result := .next (serveReopenItem p s)

end Sys2Proof.Machine
end

