-- ==== Sys2Proof/Machine/Holds.lean ====
section
/-! DEFINITION. Holds (chapter 8): HOLD_ITEM, LIFT_ITEM, SET_GROUPS, HOLD_GROUP, LIFT_GROUP, the edges of the hold lines and the
mirror write. -/

namespace Sys2Proof.Machine

/-! ### Item holds -/

/-- The channels whose engagement entry names a slot. -/
def State.engagedChannels (s : State) (slot : Slot) : List ChannelId :=
  (List.finRange 8).filter fun c => s.engagedSlot c = some slot

/-- The engine brings a channel's copy of its item's hold groups and item hold up to date (R15, R124). -/
def copyHolds (groups itemHold : Byte) (s : State) (c : ChannelId) : State :=
  let ch := s.channel c
  s.setChannel c { ch with current := ch.current.map fun cur => { cur with groups := groups, itemHold := itemHold } }

/-- The hold fields of a record are written, the copies in the engaged channels are brought up to date, and the hold unit judges
those channels (R124, R125, R126). -/
def writeHolds (slot : Slot) (groups itemHold : Byte) (s : State) : State :=
  let r := s.record slot
  let t := s.writeRecord slot (({ r with groups := groups, itemHold := itemHold } : Record).fresh .holds)
  let engaged := t.engagedChannels slot
  judgeChannels engaged (engaged.foldl (copyHolds groups itemHold) t)

/-- HOLD_ITEM on the found slot (R124). -/
def holdItemOn (p : PortId) (slot : Slot) (s : State) : State :=
  let r := s.record slot
  if r.itemHold = 1 then reply p .ok [Field.flag false, Field.flag true] s
  else reply p .ok [Field.flag true, Field.flag true] (writeHolds slot r.groups 1 s)

/-- HOLD_ITEM is served for a port (R124). Of the found record it reads the hold words alone, as LIFT_ITEM and SET_GROUPS do: that the
state, which no check of theirs asks for, is not among the words they need is the model's choice (log 8). -/
def serveHoldItem (p : PortId) (s : State) : State :=
  match (s.port p).service with
  | some { request := .holdItem key, .. } => catalogueJob p (withItem p key [.holds] noFields (holdItemOn p)) s
  | _ => s

/-- HOLD_ITEM (R124). -/
def execHoldItem (p : PortId) (s : State) : Result := .next (serveHoldItem p s)

/-- LIFT_ITEM on the found slot (R124). -/
def liftItemOn (p : PortId) (slot : Slot) (s : State) : State :=
  let r := s.record slot
  if r.itemHold = 1 then
    reply p .ok [Field.flag (heldBy r.groups 0 s.hold.latches)] (writeHolds slot r.groups 0 s)
  else reply p .notHeld [] s

/-- LIFT_ITEM is served for a port (R124). -/
def serveLiftItem (p : PortId) (s : State) : State :=
  match (s.port p).service with
  | some { request := .liftItem key, .. } => catalogueJob p (withItem p key [.holds] noFields (liftItemOn p)) s
  | _ => s

/-- LIFT_ITEM (R124). -/
def execLiftItem (p : PortId) (s : State) : Result := .next (serveLiftItem p s)

/-- SET_GROUPS on the found slot (R125). -/
def setGroupsOn (p : PortId) (set : Byte) (slot : Slot) (s : State) : State :=
  let r := s.record slot
  reply p .ok [.u8 r.groups.toNat, .u8 set.toNat, Field.flag (heldBy set r.itemHold s.hold.latches)]
    (writeHolds slot set r.itemHold s)

/-- The job of SET_GROUPS, its field check first (R125). -/
def setGroupsJob (p : PortId) (key : Key) (set : Byte) (s : State) : State :=
  if groupSetLegal set then withItem p key [.holds] noFields (setGroupsOn p set) s else reply p .badField [] s

/-- SET_GROUPS is served for a port (R125). -/
def serveSetGroups (p : PortId) (s : State) : State :=
  match (s.port p).service with
  | some { request := .setGroups key set, .. } => catalogueJob p (setGroupsJob p key set) s
  | _ => s

/-- SET_GROUPS (R125). -/
def execSetGroups (p : PortId) (s : State) : Result := .next (serveSetGroups p s)

/-! ### Group latches -/

/-- The set that holds one group. -/
def groupBit (g : GroupId) : Groups := 1 <<< g.val

/-- Whether a set of groups holds a group. -/
def hasGroup (set : Groups) (g : GroupId) : Bool := set.getLsbD g.val

/-- The part with the hold unit replaced. -/
def State.setHold (s : State) (h : HoldUnit) : State := { s with hold := h }

/-- The hold unit presents a mirror write, if none is waiting (R15, R122). -/
def presentMirror (s : State) : State := grantJob (s.setHold { s.hold with mirrorWaiting := true })

/-- A group latch is set where it was clear: HOLD_CHANGED is sent, every channel with a current cue is judged, and a mirror write
is presented (R121, R123, R126). That the channels so judged present their jobs before the mirror write is the model's choice
(log 27). -/
def setLatch (g : GroupId) (source : HoldSource) (port : Option PortId) (s : State) : State :=
  let t := s.setHold { s.hold with latches := s.hold.latches ||| groupBit g }
  presentMirror (judgeChannels (List.finRange 8) (notifyControl (.holdChanged g true source port) t))

/-- A request that names a group: BAD_FIELD outside 0 to 3 (R123). -/
def groupRequest (p : PortId) (group : Byte) (work : GroupId → State) (s : State) : State :=
  if h : group.toNat < 4 then work ⟨group.toNat, h⟩ else reply p .badField [] s

/-- HOLD_GROUP on a group (R123). Its reply's byte reads yes where the latch changed: the model's choice (log 27). -/
def holdGroupOn (p : PortId) (s : State) (g : GroupId) : State :=
  if hasGroup s.hold.latches g then reply p .ok [Field.flag false] s
  else reply p .ok [Field.flag true] (setLatch g .holdGroup (some p) s)

/-- HOLD_GROUP is served for a port (R123). -/
def serveHoldGroup (p : PortId) (s : State) : State :=
  match (s.port p).service with
  | some { request := .holdGroup group, .. } => groupRequest p group (holdGroupOn p s) s
  | _ => s

/-- HOLD_GROUP (R123). -/
def execHoldGroup (p : PortId) (s : State) : Result := .next (serveHoldGroup p s)

/-- LIFT_GROUP on a group (R123). -/
def liftGroupOn (p : PortId) (s : State) (g : GroupId) : State :=
  if !hasGroup s.hold.latches g then reply p .notHeld [] s
  else if hasGroup s.hold.lines g then reply p .lineAsserted [] s
  else
    let t := s.setHold { s.hold with latches := s.hold.latches &&& ~~~groupBit g }
    reply p .ok [] (presentMirror (notifyControl (.holdChanged g false .liftGroup (some p)) t))

/-- LIFT_GROUP is served for a port (R123). -/
def serveLiftGroup (p : PortId) (s : State) : State :=
  match (s.port p).service with
  | some { request := .liftGroup group, .. } => groupRequest p group (liftGroupOn p s) s
  | _ => s

/-- LIFT_GROUP (R123). -/
def execLiftGroup (p : PortId) (s : State) : Result := .next (serveLiftGroup p s)

/-! ### The hold lines -/

/-- A rising edge of a hold line (R121). A line that is already high gives no rising edge (R120). -/
def lineRise (g : GroupId) (s : State) : State :=
  if hasGroup s.hold.lines g then s
  else
    let t := raiseCause .holdLine (s.setHold { s.hold with lines := s.hold.lines ||| groupBit g })
    if hasGroup t.hold.latches g then t else setLatch g .line none t

/-- HOLD_LINE_RISE (R121). -/
def execHoldLineRise (g : GroupId) (s : State) : Result := .next (lineRise g s)

/-- A falling edge of a hold line (R121). A line that is already low gives no falling edge. -/
def lineFall (g : GroupId) (s : State) : State :=
  if hasGroup s.hold.lines g then
    raiseCause .holdLine (s.setHold { s.hold with lines := s.hold.lines &&& ~~~groupBit g })
  else s

/-- HOLD_LINE_FALL (R121). -/
def execHoldLineFall (g : GroupId) (s : State) : Result := .next (lineFall g s)

/-! ### The mirror write -/

/-- The mirror write is served: the header takes the latches as they stand, and its word is fresh; while the catalogue is
OFFLINE the job ends without writing (R15, R16, R122, R145). -/
def serveMirrorWrite (s : State) : State :=
  if s.isServing holdPosition then
    let t := s.setHold { s.hold with mirrorWaiting := false }
    finishJob
      (if t.isOffline then t
        else
          { t with
            memory := { t.memory with
              header := { t.memory.header with mirror := t.hold.latches, mirrorWords := .clean } } })
  else s

/-- MIRROR_WRITE (R122). -/
def execMirrorWrite (s : State) : Result := .next (serveMirrorWrite s)

end Sys2Proof.Machine
end

