-- ==== Sys2Proof/Machine/Pins.lean ====
section
/-! DEFINITION. Pins (chapter 9): PIN_ITEM, UNPIN_ITEM and the countdown of the pin table. -/

namespace Sys2Proof.Machine

/-! ### The pin table -/

/-- The part with the pins of the pin table replaced. -/
def State.setPins (s : State) (pins : List Pin) : State := { s with pinTable := { s.pinTable with pins := pins } }

/-- Whether a pin is the one of a port and slot (R131). -/
def Pin.isFor (x : Pin) (p : PortId) (slot : Slot) : Bool := decide (x.port = p ∧ x.slot = slot)

/-- A pin's place in the order in which the pins are listed: by port, then by slot. -/
def Pin.rank (x : Pin) : Nat := x.port.val * Config.slotCount + x.slot.val

/-- A pin put among the pins listed. -/
def pinInsert (x : Pin) : List Pin → List Pin
  | [] => [x]
  | y :: rest => if x.rank < y.rank then x :: y :: rest else y :: pinInsert x rest

/-- The pin of a port and slot. -/
def findPin (p : PortId) (slot : Slot) (pins : List Pin) : Option Pin := pins.find? fun x => x.isFor p slot

/-- The pins without the one of a port and slot. -/
def removePin (p : PortId) (slot : Slot) (pins : List Pin) : List Pin := pins.filter fun x => !x.isFor p slot

/-- The pin table deals with a port and slot handed to it: whether the pin is created, and the pins after it; none where the
table is full (R133). -/
def pinOrRefresh (p : PortId) (slot : Slot) (seconds : Nat) (pins : List Pin) : Option (Bool × List Pin) :=
  if (findPin p slot pins).isSome then
    some (false, pins.map fun x => if x.isFor p slot then { x with remaining := seconds } else x)
  else if pins.length < Config.pinLimit then
    some (true, pinInsert { port := p, slot := slot, remaining := seconds } pins)
  else none

/-! ### PIN_ITEM -/

/-- Whether a role may pin an item in a state (R132). -/
def pinStateLegal (role : Role) (st : ItemState) : Bool := st = .released || (st = .review && decide (role ≠ .production))

/-- PIN_ITEM on the found slot (R132, R133). -/
def pinItemOn (p : PortId) (role : Role) (seconds : Nat) (slot : Slot) (s : State) : State :=
  if !pinStateLegal role (s.record slot).state then reply p .wrongState [.u8 (s.record slot).state.code.toNat] s
  else
    match pinOrRefresh p slot seconds s.pinTable.pins with
    | none => reply p .pinTableFull [] s
    | some (created, pins) =>
      let t := s.setPins pins
      reply p .ok [.u16 slot.val, .u32 seconds, Field.flag created, .u8 (t.pinsOn slot)] t

/-- PIN_ITEM is served for a port: the pin table checks the seconds, and presents the rest as the port's job (R132). A request in service
is served under the role it was handed with (R158, R160), so that it pins for its port even where ASSIGN_ROLE has meanwhile given the
port the role NONE or TRANSFER (log 28). -/
def servePinItem (p : PortId) (s : State) : State :=
  match (s.port p).service with
  | some { request := .pinItem key seconds, role := role, .. } =>
    if 1 ≤ seconds.toNat ∧ seconds.toNat ≤ 86400 then
      catalogueJob p (withItem p key [.state] noFields (pinItemOn p role seconds.toNat)) s
    else reply p .badField [] s
  | _ => s

/-- PIN_ITEM (R132). -/
def execPinItem (p : PortId) (s : State) : Result := .next (servePinItem p s)

/-! ### UNPIN_ITEM -/

/-- UNPIN_ITEM on a port and slot: the checks in their order (R134). -/
def unpin (p : PortId) (role : Role) (slot : Slot) (port : Byte) (s : State) : State :=
  if h : port.toNat < 16 then
    let holder : PortId := ⟨port.toNat, h⟩
    if holder = p ∨ role = .control then
      match findPin holder slot s.pinTable.pins with
      | none => reply p .notPinned [] s
      | some pin =>
        let t := s.setPins (removePin holder slot s.pinTable.pins)
        reply p .ok [.u32 pin.remaining, .u8 (t.pinsOn slot)] t
    else reply p .role [] s
  else reply p .badField [] s

/-- UNPIN_ITEM is served for a port (R134). -/
def serveUnpinItem (p : PortId) (s : State) : State :=
  match (s.port p).service with
  | some { request := .unpinItem slot port, role := role, .. } => unpin p role slot.toFin port s
  | _ => s

/-- UNPIN_ITEM (R134). -/
def execUnpinItem (p : PortId) (s : State) : Result := .next (serveUnpinItem p s)

/-! ### Lapses -/

/-- Removed pins send PIN_LAPSED, each to its port (R135, R136). -/
def sendLapses (cause : LapseCause) (pins : List Pin) (s : State) : State :=
  pins.foldl (fun t x => notify x.port (.pinLapsed x.slot cause) t) s

/-- Every pin is counted down by one second, and the pins that reach 0 are removed, in the free order (R135, log 6). -/
def countPins (s : State) : State :=
  let kept := (s.pinTable.pins.filter fun x => 1 < x.remaining).map fun x => { x with remaining := x.remaining - 1 }
  let (lapsed, t) := freeOrder Pin.rank (s.pinTable.pins.filter fun x => x.remaining ≤ 1) (s.setPins kept)
  sendLapses .expired lapsed t

end Sys2Proof.Machine
end

