-- ==== Sys2Proof/Machine/Retirement.lean ====
section
/-! DEFINITION. Retirement (chapter 9): RETIRE_ITEM, and the freeing of a slot. -/

namespace Sys2Proof.Machine

/-- The number of passes that a record releases: its pass entries that are not EMPTY (R138). -/
def Record.passCount (r : Record) : Nat := r.passes.toList.countP fun e => e.state ≠ .empty

/-- The number of extents that a record releases (R138). -/
def Record.extentCount (r : Record) : Nat := (r.passes.toList.map fun e => e.extents.length).sum

/-- The blocks that a record releases: the sum of the extent counts of all its pass entries (R137). -/
def Record.blockCount (r : Record) : Nat := (r.passes.toList.map fun e => blockTotal e.extents).sum

/-- A retired item's record written FREE: the state and the rendition are written (R40, R138), and the other fields, the pass entries among
them (R21, R22), stand as they were, damage included (R143; log 2). -/
def Record.freeRetired (r : Record) : Record := ({ r.writeState .free with rendition := [] } : Record).fresh .rendition

/-- A slot is freed: its record is written as given, it is unlinked, and it is pushed on top of the free slot stack (R138, R152). -/
def freeSlot (slot : Slot) (r : Record) (s : State) : State :=
  let t := s.writeRecord slot r
  t.setEngine ((t.engine.unlink slot).push slot)

/-- A record set RETIRING, with the retiring port (R139). -/
def Record.retire (r : Record) (p : PortId) : Record :=
  ({ r.writeState .retiring with retiringPort := p.val } : Record).fresh .retiring

/-- RETIRE_ITEM on the found slot (R137 to R139). -/
def retireItemOn (p : PortId) (slot : Slot) (s : State) : State :=
  let r := s.record slot
  if !(r.state = .review || r.state = .released) then reply p .wrongState [.u8 r.state.code.toNat] s
  else if s.pinsOn slot ≠ 0 then reply p .pinned [.u8 (s.pinsOn slot)] s
  else
    match r.firstPass .opened with
    | some i => reply p .passOpen [.u8 i.val] s
    | none =>
      if s.engagements slot = 0 then
        reply p .ok [.u16 slot.val, .u8 r.passCount, .u8 r.extentCount, .u32 r.blockCount] (freeSlot slot r.freeRetired s)
      else reply p .deferred [.u16 slot.val, .u8 (s.engagements slot)] (s.writeRecord slot (r.retire p))

/-- RETIRE_ITEM is served for a port (R137). -/
def serveRetireItem (p : PortId) (s : State) : State :=
  match (s.port p).service with
  | some { request := .retireItem key, .. } =>
    catalogueJob p (withItem p key (.state :: passWords) noFields (retireItemOn p)) s
  | _ => s

/-- RETIRE_ITEM (R137 to R139). -/
def execRetireItem (p : PortId) (s : State) : Result := .next (serveRetireItem p s)

end Sys2Proof.Machine
end

