-- ==== Sys2Proof/Machine/Settlement.lean ====
section
/-! DEFINITION. Settling faulted slots and formatting (chapter 10): RESTORE_ITEM, DISCARD_ITEM, FORMAT_CATALOGUE and
FORMAT_COMPLETE. -/

namespace Sys2Proof.Machine

/-! ### RESTORE_ITEM and DISCARD_ITEM -/

/-- A sound image is restored into a faulted, unengaged slot whose key is not linked (R151). -/
def restoreInto (p : PortId) (slot : Slot) (r : Record) (s : State) : State :=
  let linked := s.engine.isLinked slot
  let t := s.writeRecord slot r
  let u := clearFaulted slot (t.setEngine ((t.engine.unlink slot).link r.key.bucket slot))
  reply p .ok [.u16 slot.val, .u16 r.key.bucket.toNat, Field.flag linked] u

/-- The job of RESTORE_ITEM: its checks in their order (R151). -/
def restoreItemJob (p : PortId) (slot : Slot) (image : List Byte) (s : State) : State :=
  let r := parseImage image
  match r.faultyPart with
  | some part => reply p .badField [.u8 part.code] s
  | none =>
    if !s.isFaulted slot then reply p .notFaulted [] s
    else if s.engagements slot ≠ 0 then reply p .itemInUse [.u8 (s.engagements slot)] s
    else
      match lookup (recordFault (.port p) .key) r.key s with
      | (.found other, t) => reply p .duplicate [.u16 other.val] t
      | (_, t) => restoreInto p slot r t

/-- RESTORE_ITEM is served for a port (R151). -/
def serveRestoreItem (p : PortId) (s : State) : State :=
  match (s.port p).service with
  | some { request := .restoreItem slot image, .. } => catalogueJob p (restoreItemJob p slot.toFin image) s
  | _ => s

/-- RESTORE_ITEM (R151). -/
def execRestoreItem (p : PortId) (s : State) : Result := .next (serveRestoreItem p s)

/-- The job of DISCARD_ITEM (R152). -/
def discardItemJob (p : PortId) (slot : Slot) (s : State) : State :=
  if !s.isFaulted slot then reply p .notFaulted [] s
  else if s.engagements slot ≠ 0 then reply p .itemInUse [.u8 (s.engagements slot)] s
  else
    let removed := s.pinTable.pins.filter fun x => x.slot = slot
    let t := sendLapses .discarded removed (s.setPins (s.pinTable.pins.filter fun x => x.slot ≠ slot))
    reply p .ok [.u16 slot.val, Field.flag (s.engine.isLinked slot), .u8 removed.length]
      (clearFaulted slot (freeSlot slot Record.freed t))

/-- DISCARD_ITEM is served for a port (R152). -/
def serveDiscardItem (p : PortId) (s : State) : State :=
  match (s.port p).service with
  | some { request := .discardItem slot, .. } => catalogueJob p (discardItemJob p slot.toFin) s
  | _ => s

/-- DISCARD_ITEM (R152). -/
def execDiscardItem (p : PortId) (s : State) : Result := .next (serveDiscardItem p s)

/-! ### Formatting -/

/-- How many engagement entries are filled (R12, R153). -/
def State.engagedCount (s : State) : Nat := s.engine.engagement.toList.countP Option.isSome

/-- The jobs of the other ports that still wait at the engine when a format begins are answered STARTING (R16, R153; log 12). -/
def answerStarting (format : PortId) (s : State) : State :=
  (List.finRange 16).foldl (fun t p => if p ≠ format && t.portWaits p then reply p .starting [] t else t) s

/-- A granted format begins, with its steps 1 to 3 (R153). The condition says that the engine is at the format, so that its arbiter, which
does not work until the format ends, holds no job. -/
def formatBegins (p : PortId) (s : State) : State :=
  answerStarting p
    { s with
      pinTable := { s.pinTable with pins := [] }
      hold := { s.hold with latches := 0 }
      memory := { header := { s.memory.header with valid := false, markerWords := .clean }, records := [] }
      arbiter := { s.arbiter with serving := none }
      engine := { s.engine with condition := .formatting p } }

/-- FORMAT_CATALOGUE is served for a port: STARTING during the walk and from the grant of another port's format to its end, nothing while
the port's own format is in progress or the job is not granted, and else ITEM_IN_USE or the format, while the catalogue is ready and
while it is OFFLINE (R16, R153). -/
def serveFormatCatalogue (p : PortId) (s : State) : State :=
  match (s.port p).service with
  | some { request := .formatCatalogue, .. } =>
    if s.engine.condition = .formatting p then s
    else if s.starting then reply p .starting [] s
    else if s.isServing (portPosition p) then
      if s.engagedCount ≠ 0 then finishJob (reply p .itemInUse [.u8 s.engagedCount] s) else formatBegins p s
    else if s.formatGranted then reply p .starting [] s
    else s
  | _ => s

/-- FORMAT_CATALOGUE (R153, its grant and steps 1 to 3). -/
def execFormatCatalogue (p : PortId) (s : State) : Result := .next (serveFormatCatalogue p s)

/-- The free slot stack after a format: all slots, slot 0 on top (R10). -/
def allSlots : List Slot := List.finRange 65536

/-- The attention unit is told that a walk or a format has ended: WALK_DONE is raised, the fault time starts at 0, and the notice
goes to every CONTROL port (R149, R153, R169). `offline` tells it that the CATALOGUE_OFFLINE condition holds. -/
def walkDone (cause : WalkCause) (offline : Bool) (counts : WalkCounts) (s : State) : State :=
  let t := raiseCause .walkDone s
  let u : State := { t with attention := { t.attention with faultTime := 0, offline := offline } }
  let v := if offline then alarmEvent .catalogueOffline u else u
  notifyControl (.walkDone cause offline v.engine.freeStack.length counts v.hold.latches) v

/-- Steps 4 to 7 of a format (R153); the engine then serves the jobs held through it (R16). -/
def formatEnds (p : PortId) (s : State) : State :=
  let latches := s.hold.latches ||| s.hold.lines
  let t : State :=
    { s with
      hold := { s.hold with latches := latches, mirrorWaiting := s.hold.mirrorWaiting || decide (latches ≠ 0) }
      memory := { s.memory with header := { valid := true, mirror := 0, markerWords := .clean, mirrorWords := .clean } }
      engine := { s.engine with condition := .ready, directory := [], freeStack := allSlots, faulted := [] } }
  grantJob (reply p .ok [] (walkDone .format false WalkCounts.zero t))

/-- The format in progress, if any, completes (R153). -/
def completeFormat (s : State) : State :=
  match s.engine.condition with
  | .formatting p => formatEnds p s
  | _ => s

/-- FORMAT_COMPLETE (R153, its steps 4 to 7). -/
def execFormatComplete (s : State) : Result := .next (completeFormat s)

end Sys2Proof.Machine
end

