-- ==== Sys2Proof/Machine/Walk.lean ====
section
/-! DEFINITION. Reset and the start-up walk (chapter 10): RESET, WALK_HEADER_READ, WALK_SLOT and WALK_END. -/

namespace Sys2Proof.Machine

/-- RESET: every block takes its reset values, and the walk begins. Catalogue memory keeps its contents; what the outside world
has yet to send is untouched (R70, R107, R120, R131, R142, R147, R156, R163, R166; log 3). -/
def execReset (lines : Groups) (s : State) : Result := .next (State.afterReset s.memory lines s.moments s.pending)

/-! ### The end of the walk -/

/-- The walk ends, and the engine serves the jobs held through it, starting from port 0 (R14, R149). The stack is arranged with the
lowest-numbered slot on top; the pushes of a walk leave it in the reverse order. -/
def walkEnds (offline : Bool) (s : State) : State :=
  let latches := s.hold.latches ||| s.hold.lines
  let t : State :=
    { s with
      hold := { s.hold with
        latches := latches
        mirrorWaiting := s.hold.mirrorWaiting || (!offline && decide (latches ≠ s.memory.header.mirror)) }
      arbiter := Arbiter.reset
      engine := { s.engine with
        condition := if offline then .offline else .ready
        freeStack :=
          if offline then s.engine.freeStack else s.engine.freeStack.reverse.insertionSort fun x y => x ≤ y } }
  grantJob (walkDone .walk offline (if offline then WalkCounts.zero else s.engine.walk) t)

/-! ### The header -/

/-- The header is read whole: whether every word of it could be read, and the part after it. Corrected words are written back and
counted as repairs, also where the header is lost (R144, R147; log 8). -/
def readHeaderWords (s : State) : Bool × State :=
  let h := s.memory.header
  let header := { h with markerWords := h.markerWords.afterRead, mirrorWords := h.mirrorWords.afterRead }
  (!h.markerWords.lost && !h.mirrorWords.lost,
    noteRepairs (h.markerWords.damaged + h.mirrorWords.damaged) { s with memory := { s.memory with header := header } })

/-- The walk reads the header (R147). -/
def headerRead (s : State) : State :=
  if s.engine.condition = .walkHeader then
    let (sound, t) := readHeaderWords s
    if sound && t.memory.header.valid then
      { t with
        hold := { t.hold with latches := t.hold.latches ||| t.memory.header.mirror }
        engine := { t.engine with condition := .walking 0 } }
    else walkEnds true t
  else s

/-- WALK_HEADER_READ (R147). -/
def execWalkHeaderRead (s : State) : Result := .next (headerRead s)

/-! ### The slots -/

/-- The part with the walk's counts changed. -/
def countWalk (f : WalkCounts → WalkCounts) (s : State) : State :=
  s.setEngine { s.engine with walk := f s.engine.walk }

/-- A slot is flagged and left unlinked (R148). -/
def leaveUnlinked (slot : Slot) (s : State) : State :=
  countWalk (fun n => { n with faultedUnlinked := n.faultedUnlinked + 1 }) (flagFaulted slot s)

/-- A slot is put on the free slot stack (R148). -/
def stackSlot (slot : Slot) (s : State) : State := s.setEngine (s.engine.push slot)

/-- A sound record's key is looked up in the directory built so far: the slot is linked, or flagged as a duplicate (R148). -/
def placeSound (slot : Slot) (s : State) : State :=
  let key := (s.record slot).key
  match lookup walkLinkedFault key s with
  | (.found _, t) => leaveUnlinked slot (countWalk (fun n => { n with duplicates := n.duplicates + 1 }) t)
  | (_, t) =>
    countWalk (fun n => { n with linked := n.linked + 1 }) (t.setEngine (t.engine.link key.bucket slot))

/-- A retirement is completed by the walk: over the RETIRING record the FREE state is written and nothing else of it, and the slot is put on
the free slot stack (R148). -/
def completeRetirement (slot : Slot) (s : State) : State :=
  countWalk (fun n => { n with retirements := n.retirements + 1 })
    (stackSlot slot (s.writeRecord slot ((s.record slot).writeState .free)))

/-- A slot is placed by the first row of the table of R148 that applies. -/
def placeSlot (slot : Slot) (s : State) : State :=
  match readWord slot .state s with
  | (false, t) => leaveUnlinked slot t
  | (true, t) =>
    match (t.record slot).state with
    | .free => stackSlot slot t
    | .retiring => completeRetirement slot t
    | .other _ => leaveUnlinked slot t
    | .review | .released =>
      match readWords slot wordsBesideState t with
      | (some _, u) => leaveUnlinked slot u
      | (none, u) => if (u.record slot).faultyPart.isSome then leaveUnlinked slot u else placeSound slot u

/-- The walk places its next slot, if it has one (R148). -/
def walkOne (s : State) : State :=
  match s.engine.condition with
  | .walking n =>
    if h : n < 65536 then
      let t := placeSlot ⟨n, h⟩ s
      t.setEngine { t.engine with condition := .walking (n + 1) }
    else s
  | _ => s

/-- WALK_SLOT (R148). -/
def execWalkSlot (s : State) : Result := .next (walkOne s)

/-- The walk ends once its last slot has been placed (R149). -/
def walkLast (s : State) : State :=
  match s.engine.condition with
  | .walking n => if Config.slotCount ≤ n then walkEnds false s else s
  | _ => s

/-- WALK_END (R149). -/
def execWalkEnd (s : State) : Result := .next (walkLast s)

end Sys2Proof.Machine
end

