-- ==== Sys2Proof/Machine/Resolutions.lean ====
section
/-! DEFINITION. The channel jobs at the catalogue engine: START_RESOLUTION (R76), SEGMENT_RESOLUTION (R48, R77, R78) and
DISENGAGE (R15, R140). -/

namespace Sys2Proof.Machine

/-- The engine serves a channel's job once its arbiter has granted it (R14). -/
def channelGranted (c : ChannelId) (s : State) : Bool := s.isServing (channelPosition c)

/-- A channel's job has been answered. -/
def endJob (c : ChannelId) (s : State) : State := s.setChannel c { s.channel c with job := none }

/-! ### START_RESOLUTION -/

/-- The engine's judgement of a record for a cue, by the cases of R76 after the reads, in their order; none where it grants. -/
def startRefusal (r : Record) (cue : Cue) (role : Role) (ignore : Bool) (latches : Groups) : Option SkipReason :=
  if r.state = .retiring then some .retiring
  else if role = .production && decide (r.state ≠ .released) then some .wrongState
  else if r.held latches && !ignore then some .held
  else if r.length ≤ frameAt cue.start.toNat r.rate then some .outOfRange
  else none

/-- The current cue that a grant writes (R76, R100). -/
def startedCue (cue : Cue) (slot : Slot) (r : Record) : CurrentCue :=
  let f0 := frameAt cue.start.toNat r.rate
  let e := cueEnd cue.start.toNat cue.duration.toNat r.rate r.length
  { tag := cue.tag, key := cue.key, slot := slot, groups := r.groups, itemHold := r.itemHold, f0 := f0, f1 := e.1,
    shortened := e.2, next := f0, delivered := 0, gap := 0, concealed := 0, channels := r.channels,
    sampleBytes := r.sampleBytes, frameBytes := r.frameBytes, muted := false, concealNoticed := false, crossing := none }

/-- The answer to a start resolution: a skip reason, or the slot and the record as it was read. -/
abbrev StartAnswer := Except SkipReason (Slot × Record)

/-- The pass entry that the first run of a cue needs, where the format and the rendition tell it: where both can be read and the cue
starts within the item (R48, R76, R146; log 8). -/
def firstRunWord (r : Record) (start : Nat) : List RecordWord :=
  let f0 := frameAt start r.rate
  if (r.condition .format).lost || (r.condition .rendition).lost || decide (r.length ≤ f0) then [] else runPassWord r f0

/-- The words that a start resolution reads of the found record, every one before any check: the state, the holds, the format and the
rendition, and the pass entry that the first run needs (R48, R76, R146; log 8). -/
def readStart (slot : Slot) (start : Nat) (s : State) : Option RecordWord × State :=
  readWords slot ([.state, .holds, .format, .rendition] ++ firstRunWord (s.record slot) start) s

/-- The engine judges a start resolution (R76). -/
def judgeStart (c : ChannelId) (cue : Cue) (role : Role) (ignore : Bool) (s : State) : StartAnswer × State :=
  if s.isOffline then (.error .offline, s)
  else
    match lookup (recordFault (.channel c) .key) cue.key s with
    | (.notFound, t) => (.error .noItem, t)
    | (.notFoundFaulted, t) => (.error .faulted, t)
    | (.found slot, t) =>
      match readStart slot cue.start.toNat t with
      | (some w, u) => (.error .faulted, recordFault (.channel c) w.part slot u)
      | (none, u) =>
        match startRefusal (u.record slot) cue role ignore u.hold.latches with
        | some reason => (.error reason, u)
        | none => (.ok (slot, u.record slot), u)

/-- A skipped cue leaves the queue, CUE_SKIPPED is sent, and the channel goes on (R76, R84). -/
def skipCue (c : ChannelId) (cue : Cue) (reason : SkipReason) (s : State) : State :=
  let t := s.setChannel c { s.channel c with queue := (s.channel c).queue.tail }
  goOn c (notifyBound c (.cueSkipped cue.tag cue.key reason) t)

/-- A granted cue leaves the queue and becomes current, with its first run (R48, R76). -/
def startCue (c : ChannelId) (cue : Cue) (slot : Slot) (r : Record) (s : State) : State :=
  let cur := startedCue cue slot r
  let ch := s.channel c
  s.setChannel c
    { ch with queue := ch.queue.tail, current := some cur, runs := (resolveRun r cur.f0 cur.f1).toList }

/-- The answer of a start resolution reaches its channel: discarded in STOPPING, with a disengage for a grant (R87); else the cue
is skipped, or it starts and the channel is judged on its copy (R76, R126). -/
def takeStart (c : ChannelId) (cue : Cue) (discard : Bool) (answer : StartAnswer) (s : State) : State :=
  match answer with
  | .error reason => if discard then endJob c s else skipCue c cue reason (endJob c s)
  | .ok (slot, r) =>
    let t := endJob c (s.setEngagement c (some slot))
    if discard then t.setChannel c { t.channel c with disengageDue := true } else judge c (startCue c cue slot r t)

/-- The engine serves a channel's start resolution (R15, R76). -/
def serveStart (c : ChannelId) (s : State) : State :=
  match (s.channel c).job with
  | some (.start cue role ignore discard) =>
    if channelGranted c s then
      let (answer, t) := judgeStart c cue role ignore s
      finishJob (settle c (takeStart c cue discard answer t))
    else s
  | _ => s

/-- START_RESOLUTION (R76). -/
def execStartResolution (c : ChannelId) (s : State) : Result := .next (serveStart c s)

/-! ### SEGMENT_RESOLUTION -/

/-- The engine resolves a frame of the slot a channel engages: a run, or FAULTED (R48, R78). A slot already faulted is not read and
is not reported again (R146). -/
def judgeSegment (c : ChannelId) (frame stop : Nat) (s : State) : Option Run × State :=
  match s.engagedSlot c with
  | none => (none, s)
  | some slot =>
    if s.isFaulted slot then (none, s)
    else
      match readWords slot [.rendition] s with
      | (some w, t) => (none, recordFault (.channel c) w.part slot t)
      | (none, t) =>
        match readWords slot (runPassWord (t.record slot) frame) t with
        | (some w, u) => (none, recordFault (.channel c) w.part slot u)
        | (none, u) => (resolveRun (u.record slot) frame stop, u)

/-- A message that ends at a crossing is the cue's last (R78; log 16). -/
def Message.closeAt (m : Message) (crossing : Nat) : Message :=
  if m.first + m.count = crossing then { m with lastOfCue := true } else m

/-- The answer of a segment resolution reaches its channel: discarded, kept as a run, or FAULTED at the crossing (R77, R78, R88). -/
def takeSegment (c : ChannelId) (frame : Nat) (discard : Bool) (answer : Option Run) (s : State) : State :=
  let t := endJob c s
  let ch := t.channel c
  if discard then t
  else
    match answer with
    | some run => t.setChannel c { ch with runs := ch.runs ++ [run] }
    | none =>
      t.setChannel c
        { ch with
          current := ch.current.map fun cur => { cur with crossing := some frame }
          message := ch.message.map fun m => m.closeAt frame }

/-- The engine serves a channel's segment resolution (R15, R48). -/
def serveSegment (c : ChannelId) (s : State) : State :=
  match (s.channel c).job with
  | some (.segment frame stop discard) =>
    if channelGranted c s then
      let (answer, t) := judgeSegment c frame stop s
      finishJob (settle c (takeSegment c frame discard answer t))
    else s
  | _ => s

/-- SEGMENT_RESOLUTION (R48). -/
def execSegmentResolution (c : ChannelId) (s : State) : Result := .next (serveSegment c s)

/-! ### DISENGAGE -/

/-- The last engagement of a slot has ended: a RETIRING slot is freed and RETIRED is sent to its retiring port; a faulted slot is
not read (R140; log 23). -/
def drain (c : ChannelId) (slot : Slot) (s : State) : State :=
  if s.isFaulted slot then s
  else
    match readWords slot [.state] s with
    | (some w, t) => recordFault (.channel c) w.part slot t
    | (none, t) =>
      if (t.record slot).state = .retiring then
        match readWords slot (.key :: .retiring :: passWords) t with
        | (some w, u) => recordFault (.channel c) w.part slot u
        | (none, u) =>
          let r := u.record slot
          let v := freeSlot slot r.freeRetired u
          if h : r.retiringPort < 16 then
            notify ⟨r.retiringPort, h⟩ (.retired r.key slot r.passCount r.extentCount r.blockCount) v
          else v
      else t

/-- A channel's engagement entry is emptied (R15, R140). -/
def emptyEntry (c : ChannelId) (s : State) : State :=
  match s.engagedSlot c with
  | none => s
  | some slot =>
    let t := s.setEngagement c none
    if t.engagements slot = 0 then drain c slot t else t

/-- The engine serves a channel's disengage (R15, R140). -/
def serveDisengage (c : ChannelId) (s : State) : State :=
  match (s.channel c).job with
  | some .disengage =>
    if channelGranted c s then finishJob (settle c (endJob c (emptyEntry c s))) else s
  | _ => s

/-- DISENGAGE (R15, R140). -/
def execDisengage (c : ChannelId) (s : State) : Result := .next (serveDisengage c s)

end Sys2Proof.Machine
end

