-- ==== Sys2Proof/Machine/ChannelRequests.lean ====
section
/-! DEFINITION. The channel requests (chapters 5 and 6): BIND_CHANNEL, QUEUE_CUE, STOP_CHANNEL, HALT_CHANNEL, RESUME_CHANNEL,
CLEAR_CUT, FLUSH_CHANNEL, SET_LANES, SET_CUTOFF and CHANNEL_STATUS. -/

namespace Sys2Proof.Machine

/-- A request that names a channel: BAD_FIELD outside 0 to 7 (R72). -/
def onChannel (p : PortId) (channel : Byte) (work : ChannelId → State) (s : State) : State :=
  if h : channel.toNat < 8 then work ⟨channel.toNat, h⟩ else reply p .badField [] s

/-- A request that only the bound port of its channel may make: NOT_BOUND from any other, and while the channel is UNBOUND (R72). -/
def onBound (p : PortId) (channel : Byte) (work : ChannelId → State) (s : State) : State :=
  onChannel p channel (fun c => if (s.channel c).port = some p then work c else reply p .notBound [] s) s

/-- A refusal by the state a channel is in, which it carries (R72). -/
def wrongState (p : PortId) (c : ChannelId) (s : State) : State := reply p .wrongState [.u8 (s.channel c).state.code] s

/-- Whether a channel is RUNNING, STOPPING or HALTING. -/
def ChannelState.playing (x : ChannelState) : Bool := x = .running || x = .stopping || x = .halting

/-! ### BIND_CHANNEL and unbinding -/

/-- The credit that a port holds for a channel becomes 0. -/
def clearCredit (q : PortId) (c : ChannelId) (s : State) : State := s.setPort q ((s.port q).withCredit c 0)

/-- Steps 1 to 3 of a binding: the queue is discarded, a remainder ends FLUSHED, and what the channel holds is discarded (R73). -/
def releaseChannel (c : ChannelId) (s : State) : State :=
  letGo c (endCue c .flushed (s.setChannel c { s.channel c with queue := [] }))

/-- What the port a channel was bound to held for it is discarded (R161). -/
def dropOldCredit (c : ChannelId) (s : State) : State :=
  match (s.channel c).port with
  | some q => clearCredit q c s
  | none => s

/-- Steps 4 to 6 of a binding (R73). -/
def bindTo (c : ChannelId) (q : PortId) (s : State) : State :=
  let t := clearCredit q c (dropOldCredit c s)
  let ch := t.channel c
  t.setChannel c
    { ch with port := some q, state := .idle, cutoff := if (t.port q).role = .control then ch.cutoff else .stop }

/-- BIND_CHANNEL on a channel and port (R73). -/
def bindChannel (p : PortId) (port : Byte) (s : State) (c : ChannelId) : State :=
  if h : port.toNat < 16 then
    let ch := s.channel c
    if ch.state.playing then reply p .portBusy [] s
    else
      reply p .ok [.u8 ch.queue.length, Field.flag ch.current.isSome]
        (settle c (bindTo c ⟨port.toNat, h⟩ (releaseChannel c s)))
  else reply p .badField [] s

/-- BIND_CHANNEL is served for a port (R73). -/
def serveBindChannel (p : PortId) (s : State) : State :=
  match (s.port p).service with
  | some { request := .bindChannel channel port, .. } => onChannel p channel (bindChannel p port s) s
  | _ => s

/-- BIND_CHANNEL (R73). -/
def execBindChannel (p : PortId) (s : State) : Result := .next (serveBindChannel p s)

/-- A channel is unbound from a port (R73, R160). -/
def unbind (q : PortId) (c : ChannelId) (s : State) : State :=
  let t := clearCredit q c (releaseChannel c s)
  settle c (t.setChannel c { t.channel c with port := none, cutoff := .stop, state := .unbound })

/-! ### QUEUE_CUE -/

/-- QUEUE_CUE on a channel (R75). -/
def queueCue (p : PortId) (cue : Cue) (s : State) (c : ChannelId) : State :=
  let ch := s.channel c
  if Config.queueLimit ≤ ch.queue.length then reply p .queueFull [] s
  else
    let queue := ch.queue ++ [cue]
    let t := s.setChannel c { ch with queue := queue, state := if ch.state = .idle then .running else ch.state }
    reply p .ok [.u8 queue.length] (settle c t)

/-- QUEUE_CUE is served for a port (R75). -/
def serveQueueCue (p : PortId) (s : State) : State :=
  match (s.port p).service with
  | some { request := .queueCue channel cue, .. } => onBound p channel (queueCue p cue s) s
  | _ => s

/-- QUEUE_CUE (R75). -/
def execQueueCue (p : PortId) (s : State) : Result := .next (serveQueueCue p s)

/-! ### STOP, HALT, RESUME, CLEAR_CUT and FLUSH -/

/-- STOP_CHANNEL on a channel (R85 to R88, R116). -/
def stopChannel (p : PortId) (s : State) (c : ChannelId) : State :=
  if (s.channel c).delivering then
    let t := endRetries c (enterState c .stopping s)
    let u := t.setChannel c { t.channel c with job := (t.channel c).job.map ChannelJob.discarded }
    reply p .ok [] (settle c u)
  else wrongState p c s

/-- STOP_CHANNEL is served for a port (R85). -/
def serveStopChannel (p : PortId) (s : State) : State :=
  match (s.port p).service with
  | some { request := .stopChannel channel, .. } => onBound p channel (stopChannel p s) s
  | _ => s

/-- STOP_CHANNEL (R85). -/
def execStopChannel (p : PortId) (s : State) : Result := .next (serveStopChannel p s)

/-- Whether a channel has a start resolution in flight. -/
def Channel.isStarting (ch : Channel) : Bool :=
  match ch.job with
  | some (.start ..) => true
  | _ => false

/-- HALT_CHANNEL on a channel (R89). -/
def haltChannel (p : PortId) (s : State) (c : ChannelId) : State :=
  let ch := s.channel c
  if ch.state = .running then
    if ch.current.isSome || ch.isStarting then reply p .ok [] (settle c (enterState c .halting s))
    else reply p .ok [] (settle c (notifyBound c .channelHalted (enterState c .halted s)))
  else wrongState p c s

/-- HALT_CHANNEL is served for a port (R89). -/
def serveHaltChannel (p : PortId) (s : State) : State :=
  match (s.port p).service with
  | some { request := .haltChannel channel, .. } => onBound p channel (haltChannel p s) s
  | _ => s

/-- HALT_CHANNEL (R89). -/
def execHaltChannel (p : PortId) (s : State) : Result := .next (serveHaltChannel p s)

/-- RESUME_CHANNEL on a channel (R90). -/
def resumeChannel (p : PortId) (s : State) (c : ChannelId) : State :=
  let ch := s.channel c
  if ch.state = .stopped || ch.state = .halted then
    let st : ChannelState := if ch.current.isSome || !ch.queue.isEmpty then .running else .idle
    reply p .ok [] (settle c (enterState c st s))
  else wrongState p c s

/-- RESUME_CHANNEL is served for a port (R90). -/
def serveResumeChannel (p : PortId) (s : State) : State :=
  match (s.port p).service with
  | some { request := .resumeChannel channel, .. } => onBound p channel (resumeChannel p s) s
  | _ => s

/-- RESUME_CHANNEL (R90). -/
def execResumeChannel (p : PortId) (s : State) : Result := .next (serveResumeChannel p s)

/-- CLEAR_CUT on a channel (R91). -/
def clearCut (p : PortId) (s : State) (c : ChannelId) : State :=
  if (s.channel c).state = .cut then reply p .ok [] (enterState c .stopped s) else reply p .notCut [] s

/-- CLEAR_CUT is served for a port (R91). -/
def serveClearCut (p : PortId) (s : State) : State :=
  match (s.port p).service with
  | some { request := .clearCut channel, .. } => onBound p channel (clearCut p s) s
  | _ => s

/-- CLEAR_CUT (R91). -/
def execClearCut (p : PortId) (s : State) : Result := .next (serveClearCut p s)

/-- FLUSH_CHANNEL on a channel (R92). -/
def flushChannel (p : PortId) (s : State) (c : ChannelId) : State :=
  let ch := s.channel c
  if ch.state.playing then wrongState p c s
  else
    reply p .ok [.u8 ch.queue.length, Field.flag ch.current.isSome]
      (settle c (endCue c .flushed (s.setChannel c { ch with queue := [] })))

/-- FLUSH_CHANNEL is served for a port (R92). -/
def serveFlushChannel (p : PortId) (s : State) : State :=
  match (s.port p).service with
  | some { request := .flushChannel channel, .. } => onBound p channel (flushChannel p s) s
  | _ => s

/-- FLUSH_CHANNEL (R92). -/
def execFlushChannel (p : PortId) (s : State) : Result := .next (serveFlushChannel p s)

/-! ### SET_LANES and SET_CUTOFF -/

/-- The first lane entry at fault among those a SET_LANES carries (R98). -/
def faultyLane (entries : List Byte) (count : Nat) : Option Nat :=
  (List.range count).find? fun i => (carriedLane entries i).isNone

/-- A lane setting is taken: it takes effect at once where no message is assembled, and else it is pending (R98, R99). -/
def Channel.takeLanes (ch : Channel) (lanes : LaneSetting) : Channel :=
  if ch.message.isNone then { ch with lanes := lanes, pendingLanes := none } else { ch with pendingLanes := some lanes }

/-- SET_LANES on a channel: the checks of R98 in their order. The OK reply's byte reads yes where the setting took effect at once: the
model's choice (log 27). -/
def setLanes (p : PortId) (count word : Nat) (entries : List Byte) (s : State) (c : ChannelId) : State :=
  let ch := s.channel c
  if !(decide (1 ≤ count ∧ count ≤ 8)) then reply p .badField [.u8 0x08] s
  else if !(decide (2 ≤ word ∧ word ≤ 4)) then reply p .badField [.u8 0x09] s
  else if entries.length ≠ 3 * count then reply p .badRequest [] s
  else
    match faultyLane entries count with
    | some i => reply p .badField [.u8 i] s
    | none =>
      reply p .ok [Field.flag ch.message.isNone]
        (s.setChannel c (ch.takeLanes (buildLanes ch.lanes count word entries)))

/-- SET_LANES is served for a port (R98). -/
def serveSetLanes (p : PortId) (s : State) : State :=
  match (s.port p).service with
  | some { request := .setLanes channel count word entries, .. } =>
    onBound p channel (setLanes p count.toNat word.toNat entries s) s
  | _ => s

/-- SET_LANES (R98). -/
def execSetLanes (p : PortId) (s : State) : Result := .next (serveSetLanes p s)

/-- SET_CUTOFF on a channel (R93): where no message is assembled the behaviour takes effect at once and the channel is judged. -/
def setCutoff (p : PortId) (behaviour : Byte) (s : State) (c : ChannelId) : State :=
  let ch := s.channel c
  match cutoffOfCode behaviour with
  | none => reply p .badField [] s
  | some b =>
    if b = .ignore ∧ s.boundRole c ≠ .control then reply p .badField [] s
    else if ch.message.isNone then
      reply p .ok [] (settle c (judge c (s.setChannel c { ch with cutoff := b, pendingCutoff := none })))
    else reply p .ok [] (s.setChannel c { ch with pendingCutoff := some b })

/-- SET_CUTOFF is served for a port (R93). -/
def serveSetCutoff (p : PortId) (s : State) : State :=
  match (s.port p).service with
  | some { request := .setCutoff channel behaviour, .. } => onBound p channel (setCutoff p behaviour s) s
  | _ => s

/-- SET_CUTOFF (R93). -/
def execSetCutoff (p : PortId) (s : State) : Result := .next (serveSetCutoff p s)

/-! ### CHANNEL_STATUS -/

/-- What CHANNEL_STATUS reports (R93). -/
def Channel.statusFields (ch : Channel) : List Field :=
  .u8 ch.state.code :: (presence (ch.port.map fun q => [.u8 q.val]) ++
    .u8 ch.queue.length :: .u8 ch.cutoff.code ::
      presence (ch.current.map fun cur =>
        [.u16 cur.tag.toNat, .u32 cur.f0, .u32 cur.f1, Field.flag cur.shortened, .u32 cur.next, .u32 cur.delivered]))

/-- CHANNEL_STATUS on a channel: for its bound port and for any CONTROL port (R72, R93). R72 gives no code for any other port; NOT_BOUND
is the model's choice (log 27). -/
def channelStatus (p : PortId) (role : Role) (s : State) (c : ChannelId) : State :=
  if (s.channel c).port = some p ∨ role = .control then reply p .ok (s.channel c).statusFields s
  else reply p .notBound [] s

/-- CHANNEL_STATUS is served for a port (R93). -/
def serveChannelStatus (p : PortId) (s : State) : State :=
  match (s.port p).service with
  | some { request := .channelStatus channel, role := role, .. } => onChannel p channel (channelStatus p role s) s
  | _ => s

/-- CHANNEL_STATUS (R93). -/
def execChannelStatus (p : PortId) (s : State) : Result := .next (serveChannelStatus p s)

end Sys2Proof.Machine
end

