-- ==== Sys2Proof/Machine/Store.lean ====
section
/-! DEFINITION. The store reader's events (chapter 7) and the collection timeout (R94): BLOCK_DATA, BLOCK_FAIL, READ_TIMEOUT,
STORE_MESSAGE_DISCARD, STORE_RESET and COLLECTION_TIMEOUT. -/

namespace Sys2Proof.Machine

/-- After an answer has ended an attempt: the freed slot is granted, the channel goes on, and slots are granted again (R109). -/
def afterAnswer (c : ChannelId) (s : State) : State := settle c (grantAll s)

/-- A late answer: the stale slot is freed, and a stall ends (R114, R117). -/
def lateAnswer (t : ReadTag) (s : State) : State := grantAll (stallEnds (s.setReadSlot t .free))

/-- An answer to a read slot: stray for a free slot, late for a stale one, and else the end of the slot's attempt (R111, R112,
R114). -/
def answerSlot (t : ReadTag) (attempt : ChannelId → BufferId → State → State) (s : State) : State :=
  match s.readSlot t with
  | .free => s
  | .stale _ => lateAnswer t s
  | .active c b _ _ _ => afterAnswer c (attempt c b (s.setReadSlot t .free))

/-- An answer that carries a tag: a tag above 7 finds no slot, and the answer is stray (R114, R170). -/
def answerTag (tag : Byte) (attempt : ChannelId → BufferId → State → State) (s : State) : State :=
  if h : tag.toNat < 8 then answerSlot ⟨tag.toNat, h⟩ attempt s else s

/-- BLOCK_DATA (R111): one whose data are not 65,536 bytes is of the wrong length and is discarded (R106). -/
def execBlockData (tag : Byte) (data : List Byte) (s : State) : Result :=
  .next (if data.length = Config.blockBytes then answerTag tag (fun c b => endData c b data) s else s)

/-- The last failure that a BLOCK_FAIL leaves (R112). -/
def failureOf : FailReason → Failure
  | .unreadable => .unreadable
  | .absent => .absent

/-- BLOCK_FAIL (R112). -/
def execBlockFail (tag : Byte) (reason : FailReason) (s : State) : Result :=
  .next (answerTag tag (fun c b => failAttempt c b (failureOf reason)) s)

/-- The timer of an active slot has run out: the slot goes stale, the attempt fails with TIMEOUT, and the eighth stale slot begins
the stall (R112, R113, R117). -/
def slotTimeout (t : ReadTag) (s : State) : State :=
  match s.readSlot t with
  | .active c b block _ 0 =>
    afterAnswer c (stallBegins block (failAttempt c b .timeout (s.setReadSlot t (.stale block))))
  | _ => s

/-- READ_TIMEOUT (R113). A slot whose timer has not run out does not time out. -/
def execReadTimeout (t : ReadTag) (s : State) : Result := .next (slotTimeout t s)

/-- What STORE_MESSAGE_DISCARD leaves: a discarded unit changes nothing (R106). -/
def discardStoreMessage (_bytes : List Byte) (s : State) : State := s

/-- STORE_MESSAGE_DISCARD (R106). -/
def execStoreMessageDiscard (bytes : List Byte) (s : State) : Result := .next (discardStoreMessage bytes s)

/-! ### STORE_RESET -/

/-- The active slots, each with the channel and buffer that it serves. -/
def State.activeSlots (s : State) : List (ReadTag × ChannelId × BufferId) :=
  (List.finRange 8).filterMap fun t =>
    match s.readSlot t with
    | .active c b _ _ _ => some (t, c, b)
    | _ => none

/-- Whether a read slot is stale. -/
def ReadSlot.isStale : ReadSlot → Bool
  | .stale _ => true
  | _ => false

/-- Whether a buffer is concealed. -/
def Buffer.isConcealed : Buffer → Bool
  | .concealed _ => true
  | _ => false

/-- One active slot's attempt is cancelled; the count is of the requests that end concealed (R119). -/
def cancelSlot (acc : Nat × State) (x : ReadTag × ChannelId × BufferId) : Nat × State :=
  let (t, c, b) := x
  let u := failAttempt c b .cancelled (acc.2.setReadSlot t .free)
  (acc.1 + (if ((u.channel c).buffer b).isConcealed then 1 else 0), u)

/-- Every stale slot is freed (R119). -/
def clearStale (s : State) : State :=
  s.setStore { s.store with slots := s.store.slots.map fun x => if x.isStale then .free else x }

/-- What STORE_RESET does, with the counts of its reply: cancelled, stale cleared, concealed (R119). The cancellations that come
together take the free order (log 6). The requests that wait are granted first; then every channel concerned goes on and issues what it
may, and those requests are granted round robin: the order of the two is the model's choice (log 17). -/
def resetStore (s : State) : (Nat × Nat × Nat) × State :=
  let (order, t) := freeOrder (fun x => x.1.val) s.activeSlots s
  let (concealed, u) := order.foldl cancelSlot (0, t)
  let v := grantAll (stallEnds (clearStale u))
  ((order.length, s.store.slots.toList.countP ReadSlot.isStale, concealed),
    grantAll (order.foldl (fun w x => settleChannel x.2.1 w) v))

/-- STORE_RESET is served for a port (R119). -/
def serveStoreReset (p : PortId) (s : State) : State :=
  match (s.port p).service with
  | some { request := .storeReset, .. } =>
    let (n, t) := resetStore s
    reply p .ok [.u8 n.1, .u8 n.2.1, .u8 n.2.2] t
  | _ => s

/-- STORE_RESET (R119). -/
def execStoreReset (p : PortId) (s : State) : Result := .next (serveStoreReset p s)

/-! ### The collection timeout -/

/-- A collection wait has run out: the channel becomes STOPPED with its cue as remainder and sends COLLECTION_TIMEOUT; a muted cue
then ends CUT; and where a pending behaviour has taken effect the channel is judged (R93, R94, R127; log 14). -/
def expireWait (c : ChannelId) (cur : CurrentCue) (s : State) : State :=
  let took := (s.channel c).pendingCutoff.isSome
  let t := notifyBound c (.collectionTimeout cur.tag cur.next) (keepRemainder c s)
  let u := if cur.muted then endCue c .cut t else t
  settle c (if took then judge c u else u)

/-- The collection wait of a channel, if it has run out, expires (R94). -/
def waitTimeout (c : ChannelId) (s : State) : State :=
  let ch := s.channel c
  match ch.current, ch.wait with
  | some cur, some 0 => if ch.state.playing then expireWait c cur s else s
  | _, _ => s

/-- COLLECTION_TIMEOUT (R94). A wait that has not run out does not expire. -/
def execCollectionTimeout (c : ChannelId) (s : State) : Result := .next (waitTimeout c s)

end Sys2Proof.Machine
end

