-- ==== Sys2Proof/Machine/Stations.lean ====
section
/-! DEFINITION. The station ports (chapter 11): arrivals, dispatch, credit, the outgoing side, ASSIGN_ROLE and SET_TIMING. -/

namespace Sys2Proof.Machine

/-! ### Arrivals -/

/-- MESSAGE_DISCARD (R155): a unit in bad form sets the link-fault flag and reports LINK_FAULT, and nothing else. A unit in good
form is not discarded. -/
def execMessageDiscard (p : PortId) (bytes : List Byte) (s : State) : Result :=
  .next (if discardsUnit bytes then linkFault p s else s)

/-- A REQUEST is taken in (R157): appended to the intake, answered BUSY, or discarded. A body that no REQUEST has is discarded as
R155 gives. -/
def takeIn (p : PortId) (body : List Byte) (s : State) : State :=
  let q := s.port p
  if body.length < 2 ∨ 1040 < body.length then linkFault p s
  else if q.intake.length < Config.intakeLimit then s.setPort p { q with intake := q.intake ++ [body] }
  else if q.replies.length ≤ 2 then
    s.setPort p (q.queueReply { kind := byteAt body 0, tag := byteAt body 1, code := .busy, fields := [] })
  else linkFault p s

/-- REQUEST_ARRIVAL (R157). -/
def execRequestArrival (p : PortId) (body : List Byte) (s : State) : Result := .next (takeIn p body s)

/-- A CREDIT arrives: it adds to the port's credit for a channel bound to the port, up to 65,535 (R161). -/
def takeCredit (p : PortId) (channel : Byte) (amount : Nat) (s : State) : State :=
  if h : channel.toNat < 8 then
    let c : ChannelId := ⟨channel.toNat, h⟩
    if (s.channel c).port = some p then
      s.setPort p ((s.port p).withCredit c (min Config.creditLimit ((s.port p).creditFor c + amount)))
    else s
  else s

/-- CREDIT (R161). -/
def execCredit (p : PortId) (channel : Byte) (amount : BitVec 16) (s : State) : Result :=
  .next (takeCredit p channel amount.toNat s)

/-! ### Dispatch -/

/-- The classes of requests in the table of R159. -/
inductive RequestClass where
  | look
  | channel
  | pin
  | transfer
  | withdraw
  | catalogue
  | control
  deriving DecidableEq, Repr

/-- The class of a request in the table of R159. -/
def Request.class : Request → RequestClass
  | .findItem .. | .describeItem .. => .look
  | .queueCue .. | .stopChannel .. | .haltChannel .. | .resumeChannel .. | .clearCut .. | .flushChannel .. | .setLanes ..
  | .setCutoff .. | .channelStatus .. => .channel
  | .pinItem .. | .unpinItem .. => .pin
  | .openPass .. | .addExtent .. | .closePass .. => .transfer
  | .withdrawPass .. => .withdraw
  | .enterItem .. | .releaseItem .. | .reopenItem .. | .splice .. | .holdItem .. | .liftItem .. | .setGroups ..
  | .retireItem .. => .catalogue
  | .bindChannel .. | .assignRole .. | .setTiming .. | .holdGroup .. | .liftGroup .. | .storeReset | .restoreItem ..
  | .discardItem .. | .formatCatalogue | .ackAttention .. | .setAttentionMask .. | .attentionSummary | .rearmAlarm
  | .readFaultRecord | .clearFaultRecord => .control

/-- Whether a role admits a class of requests (R159). -/
def Role.admits : Role → RequestClass → Bool
  | .none, _ => false
  | .control, _ => true
  | _, .look | _, .channel => true
  | .production, k => k = .pin
  | .transfer, k => k = .transfer || k = .withdraw
  | .catalogue, k => k = .pin || k = .withdraw || k = .catalogue

/-- Whether the catalogue engine answers a request at once instead of putting its job to the arbiter, and with which code: STARTING for
every catalogue job during the walk and from the grant of a format to its end, OFFLINE for every one but FORMAT_CATALOGUE while the
catalogue is OFFLINE (R16, R158). -/
def State.answersAtOnce (s : State) (r : Request) : Option ReplyCode :=
  if !r.presentsJob then none
  else if s.starting || s.formatGranted then some .starting
  else if s.isOffline && decide (r ≠ .formatCatalogue) then some .offline
  else none

/-- The port judges the request that it has put in service (R158): BAD_REQUEST, ROLE, or handed to its serving block. A catalogue job
is answered STARTING or OFFLINE at once (R16), or goes to the engine, which grants it at once where it is free (R14). -/
def judgeRequest (p : PortId) (body : List Byte) (s : State) : State :=
  let q := s.port p
  let kind := byteAt body 0
  let tag := byteAt body 1
  match parseRequest body with
  | none => s.setPort p (q.queueReply { kind := kind, tag := tag, code := .badRequest, fields := [] })
  | some r =>
    if q.role.admits r.class then
      let t := s.setPort p { q with service := some { kind := kind, tag := tag, role := q.role, request := r } }
      match s.answersAtOnce r with
      | some code => reply p code [] t
      | none => if r.presentsJob then grantJob t else t
    else s.setPort p (q.queueReply { kind := kind, tag := tag, code := .role, fields := [] })

/-- A port dispatches the head of its intake, where no request is in service and the reply queue holds at most 3 (R158). -/
def dispatch (p : PortId) (s : State) : State :=
  let q := s.port p
  match q.service, q.intake with
  | none, body :: rest =>
    if q.replies.length ≤ 3 then judgeRequest p body (s.setPort p { q with intake := rest }) else s
  | _, _ => s

/-- REQUEST_DISPATCH (R158). -/
def execRequestDispatch (p : PortId) (s : State) : Result := .next (dispatch p s)

/-! ### ASSIGN_ROLE and SET_TIMING -/

/-- The channels bound to a port. -/
def State.boundTo (s : State) (q : PortId) : List ChannelId := (List.finRange 8).filter fun c => (s.channel c).port = some q

/-- ASSIGN_ROLE on a port and role (R160). Channels that are unbound together take the free order (log 6). A PORT_BUSY refusal lists its
channels in rising order: the model's choice (log 27). -/
def assignRole (p : PortId) (target : PortId) (role : Role) (s : State) : State :=
  let bound := s.boundTo target
  let busy := bound.filter fun c => (s.channel c).state.playing
  if busy ≠ [] then reply p .portBusy (.u8 busy.length :: busy.map fun c => .u8 c.val) s
  else
    let (order, t) := freeOrder Fin.val bound s
    let u := order.foldl (fun w c => unbind target c w) t
    let pins := u.pinTable.pins.filter fun x => x.port ≠ target
    let v := (u.setPins pins).setPort target { u.port target with role := role }
    reply p .ok
      [.u8 (s.port target).role.code, .u8 bound.length, .u8 (bound.countP fun c => (s.channel c).current.isSome),
        .u8 (s.pinTable.pins.length - pins.length)] v

/-- ASSIGN_ROLE is served for a port (R160). -/
def serveAssignRole (p : PortId) (s : State) : State :=
  match (s.port p).service with
  | some { request := .assignRole port role, .. } =>
    if h : port.toNat < 16 then
      match roleOfCode role with
      | some r => assignRole p ⟨port.toNat, h⟩ r s
      | none => reply p .badField [] s
    else reply p .badField [] s
  | _ => s

/-- ASSIGN_ROLE (R160). -/
def execAssignRole (p : PortId) (s : State) : Result := .next (serveAssignRole p s)

/-- SET_TIMING on its three fields: the first field at fault is named (R163). -/
def setTiming (p : PortId) (collection read retry : Nat) (s : State) : State :=
  if 255 < collection then reply p .badField [.u8 0x00] s
  else if !(decide (1 ≤ read ∧ read ≤ 255)) then reply p .badField [.u8 0x01] s
  else if 7 < retry then reply p .badField [.u8 0x02] s
  else
    reply p .ok [.u8 collection, .u8 read, .u8 retry]
      { s with timing := { collection := collection, read := read, retry := retry } }

/-- SET_TIMING is served for a port (R163). -/
def serveSetTiming (p : PortId) (s : State) : State :=
  match (s.port p).service with
  | some { request := .setTiming collection read retry, .. } =>
    setTiming p collection.toNat read.toNat retry.toNat s
  | _ => s

/-- SET_TIMING (R163). -/
def execSetTiming (p : PortId) (s : State) : Result := .next (serveSetTiming p s)

/-! ### The outgoing side -/

/-- A port with a message put on its outgoing link. -/
def Port.transmit (q : Port) (message : List Byte) : Port := { q with sent := q.sent ++ [message] }

/-- The channel whose audio message the outgoing arbiter takes, with the message: the first in the cycle after the audio pointer
that is bound to the port, holds a message and has credit (R162). -/
def audioChoice (p : PortId) (s : State) : Option (ChannelId × Message) :=
  (channelCycle (s.port p).audioPointer).findSome? fun c =>
    let ch := s.channel c
    if ch.port = some p ∧ 1 ≤ (s.port p).creditFor c then ch.message.map fun m => (c, m) else none

/-- The port takes an audio message: it spends one unit of credit, and the message's first piece goes out (R162). -/
def takeAudio (p : PortId) (c : ChannelId) (m : Message) (s : State) : State :=
  let q := s.port p
  let pieces := m.pieces c
  s.setPort p
    { (q.withCredit c (q.creditFor c - 1)) with
      audioPointer := c, sent := q.sent ++ pieces.take 1, sending := pieces.drop 1 }

/-- The current cue after a message of it has been sent (R82). -/
def CurrentCue.sentMessage (cur : CurrentCue) (m : Message) : CurrentCue :=
  { cur with
    next := cur.next + m.count
    delivered := cur.delivered + m.count
    gap := cur.gap + m.gapFrames
    concealed := cur.concealed + m.concealedFrames }

/-- The runs that a channel still holds once its next frame stands at `next`: those past are dropped; but in STOPPING all are kept to its
end, so that the first is the delivery run in which the STOP found the delivery (R77, R88). -/
def Channel.runsAfter (ch : Channel) (next : Nat) : List Run :=
  if ch.state = .stopping then ch.runs else ch.runs.dropWhile fun r => decide (r.stop ≤ next)

/-- A channel after its message has been sent: the counts advance, the runs that are past are dropped, and the message boundary is
passed (R77, R82, R93, R99). -/
def Channel.messageSent (ch : Channel) (m : Message) : Channel :=
  let current := ch.current.map fun cur => cur.sentMessage m
  let next := (current.map CurrentCue.next).getD 0
  ({ ch with message := none, wait := none, current := current, runs := ch.runsAfter next } : Channel).boundary

/-- A channel's message is sent (R82): a cue that is complete ends before the behaviour that takes effect at the boundary is judged; and
one that is not complete, in STOPPING, is judged under that behaviour before STOPPING ends (R86, R93, R126). Both orders are the model's
reading (log 13). -/
def channelSends (p : PortId) (c : ChannelId) (m : Message) (s : State) : State :=
  let took := (s.channel c).pendingCutoff.isSome
  let t := takeAudio p c m s
  let u := finishCue c (t.setChannel c ((t.channel c).messageSent m))
  settle c (if took then judge c u else u)

/-- The outgoing arbiter of a port whose link is free: the oldest reply, else the head notice, else an audio message (R162, R165).
While pieces of a message remain to be sent the link is not free for another. -/
def arbitrate (p : PortId) (s : State) : State :=
  let q := s.port p
  if q.sending ≠ [] then s
  else
    match q.replies, q.notices with
    | r :: rest, _ => s.setPort p (({ q with replies := rest } : Port).transmit r.message)
    | [], n :: rest =>
      s.setPort p (({ q with notices := rest, noticesLost := false } : Port).transmit (n.message q.noticesLost))
    | [], [] =>
      match audioChoice p s with
      | some (c, m) => channelSends p c m s
      | none => s

/-- OUTGOING_ARBITRATION (R162). -/
def execOutgoingArbitration (p : PortId) (s : State) : Result := .next (arbitrate p s)

/-- The next piece of the message in sending goes out (R162). -/
def sendPiece (p : PortId) (s : State) : State :=
  let q := s.port p
  match q.sending with
  | [] => s
  | piece :: rest => s.setPort p (({ q with sending := rest } : Port).transmit piece)

/-- AUDIO_PIECE (R162). -/
def execAudioPiece (p : PortId) (s : State) : Result := .next (sendPiece p s)

end Sys2Proof.Machine
end

