-- ==== Sys2Proof/Machine/AttentionRequests.lean ====
section
/-! DEFINITION. The attention requests (chapter 12): ACK_ATTENTION, SET_ATTENTION_MASK, ATTENTION_SUMMARY, REARM_ALARM,
READ_FAULT_RECORD and CLEAR_FAULT_RECORD. -/

namespace Sys2Proof.Machine

/-- The part with the attention unit replaced. -/
def State.setAttention (s : State) (a : Attention) : State := { s with attention := a }

/-- The link-fault flag of every port is cleared (R155, R167). -/
def clearLinkFaults (s : State) : State := { s with ports := s.ports.map fun q => { q with linkFault := false } }

/-- ACK_ATTENTION on a cause set (R167). -/
def acknowledge (p : PortId) (causes : CauseSet) (s : State) : State :=
  let t := s.setAttention (s.attention.acknowledge causes)
  reply p .ok [.u8 t.attention.flags.toNat] (if hasCause causes .linkFault then clearLinkFaults t else t)

/-- ACK_ATTENTION is served for a port (R167). -/
def serveAckAttention (p : PortId) (s : State) : State :=
  match (s.port p).service with
  | some { request := .ackAttention causes, .. } => acknowledge p causes s
  | _ => s

/-- ACK_ATTENTION (R167). -/
def execAckAttention (p : PortId) (s : State) : Result := .next (serveAckAttention p s)

/-- SET_ATTENTION_MASK on a cause set (R167). -/
def setMask (p : PortId) (enables : CauseSet) (s : State) : State :=
  reply p .ok [.u8 s.attention.enables.toNat, .u8 enables.toNat]
    (s.setAttention ({ s.attention with enables := enables } : Attention).follow)

/-- SET_ATTENTION_MASK is served for a port (R167). -/
def serveSetAttentionMask (p : PortId) (s : State) : State :=
  match (s.port p).service with
  | some { request := .setAttentionMask enables, .. } => setMask p enables s
  | _ => s

/-- SET_ATTENTION_MASK (R167). -/
def execSetAttentionMask (p : PortId) (s : State) : Result := .next (serveSetAttentionMask p s)

/-- What ATTENTION_SUMMARY reports (R167). That the conditions of STORE_STALLED and CATALOGUE_OFFLINE are two yes-or-no bytes, and not a
cause set, and the link-fault flags sixteen bytes in port order, is presumed (log 9); that each of these bytes is 01h for a condition that
holds or a flag that is set, and 00h for the other, is the model's choice (log 27). -/
def State.summaryFields (s : State) : List Field :=
  let a := s.attention
  [.u8 a.flags.toNat, .u8 a.enables.toNat, Field.flag a.stalled, Field.flag a.offline] ++
    (s.ports.toList.map fun q => Field.flag q.linkFault) ++
    [Field.flag a.alarm, Field.flag a.suppress, Field.flag a.record.isSome]

/-- ATTENTION_SUMMARY is served for a port (R167). -/
def serveAttentionSummary (p : PortId) (s : State) : State :=
  match (s.port p).service with
  | some { request := .attentionSummary, .. } => reply p .ok s.summaryFields s
  | _ => s

/-- ATTENTION_SUMMARY (R167). -/
def execAttentionSummary (p : PortId) (s : State) : Result := .next (serveAttentionSummary p s)

/-- REARM_ALARM is served for a port (R168). -/
def serveRearmAlarm (p : PortId) (s : State) : State :=
  match (s.port p).service with
  | some { request := .rearmAlarm, .. } =>
    reply p .ok [Field.flag s.attention.alarm] (s.setAttention { s.attention with alarm := false, suppress := false })
  | _ => s

/-- REARM_ALARM (R168). -/
def execRearmAlarm (p : PortId) (s : State) : Result := .next (serveRearmAlarm p s)

/-- READ_FAULT_RECORD is served for a port (R169). -/
def serveReadFaultRecord (p : PortId) (s : State) : State :=
  match (s.port p).service with
  | some { request := .readFaultRecord, .. } =>
    reply p .ok (presence (s.attention.record.map FirstFault.fields) ++ [.u8 s.attention.further.toNat]) s
  | _ => s

/-- READ_FAULT_RECORD (R169). -/
def execReadFaultRecord (p : PortId) (s : State) : Result := .next (serveReadFaultRecord p s)

/-- CLEAR_FAULT_RECORD is served for a port (R169). -/
def serveClearFaultRecord (p : PortId) (s : State) : State :=
  match (s.port p).service with
  | some { request := .clearFaultRecord, .. } =>
    reply p .ok [Field.flag s.attention.record.isSome] (s.setAttention { s.attention with record := none, further := 0 })
  | _ => s

/-- CLEAR_FAULT_RECORD (R169). -/
def execClearFaultRecord (p : PortId) (s : State) : Result := .next (serveClearFaultRecord p s)

end Sys2Proof.Machine
end

