-- ==== Sys2Proof/Machine/Time.lean ====
section
/-! DEFINITION. The time base: MILLISECOND_TICK and PIN_COUNTDOWN (R94, R110, R135, R169). -/

namespace Sys2Proof.Machine

/-- The timer of an active read slot counts one millisecond (R110). -/
def ReadSlot.tick : ReadSlot → ReadSlot
  | .active c b block attempt remaining => .active c b block attempt (remaining - 1)
  | x => x

/-- The collection wait of a channel, if one runs, counts one millisecond (R94). -/
def Channel.tick (ch : Channel) : Channel := { ch with wait := ch.wait.map fun n => n - 1 }

/-- The timers of the read slots and the collection waits count one millisecond. A timer that has run out stays at 0 until its own
event is taken (R94, R113; log 10). -/
def tickTimers (s : State) : State :=
  { s with store := { s.store with slots := s.store.slots.map ReadSlot.tick }, channels := s.channels.map Channel.tick }

/-- The prescaler of the pin table counts one millisecond; when it has counted 1,000 every pin is counted down (R135). -/
def tickPins (s : State) : State :=
  if 999 ≤ s.pinTable.prescaler then countPins { s with pinTable := { s.pinTable with prescaler := 0 } }
  else { s with pinTable := { s.pinTable with prescaler := s.pinTable.prescaler + 1 } }

/-- One millisecond tick of the time base. -/
def tick (s : State) : State := tickPins (tickTimers (advanceFaultTime s))

/-- MILLISECOND_TICK (R135). -/
def execMillisecondTick (s : State) : Result := .next (tick s)

/-- PIN_COUNTDOWN: the thousandth tick; a tick that is not the thousandth counts no pin down (R135; log 10). -/
def execPinCountdown (s : State) : Result := .next (if s.pinTable.prescaler = 999 then tick s else s)

end Sys2Proof.Machine
end

