-- ==== Sys2Proof/Machine/Dispatch.lean ====
section
/-! DEFINITION. The dispatch of a command to its meaning: one arm for each row of spec/opcode_table.json. -/

namespace Sys2Proof.Machine

/-- The effect of a command on everything but the queue of waiting commands. -/
def exec (i : Instr) (s : State) : Host.Outcome State Fault Refusal :=
  match i with
  | .reset lines => Sys2Proof.Machine.execReset lines s
  | .walkHeaderRead => Sys2Proof.Machine.execWalkHeaderRead s
  | .walkSlot => Sys2Proof.Machine.execWalkSlot s
  | .walkEnd => Sys2Proof.Machine.execWalkEnd s
  | .messageDiscard port bytes => Sys2Proof.Machine.execMessageDiscard port bytes s
  | .requestArrival port body => Sys2Proof.Machine.execRequestArrival port body s
  | .requestDispatch port => Sys2Proof.Machine.execRequestDispatch port s
  | .credit port channel amount => Sys2Proof.Machine.execCredit port channel amount s
  | .enterItem port => Sys2Proof.Machine.execEnterItem port s
  | .findItem port => Sys2Proof.Machine.execFindItem port s
  | .describeItem port => Sys2Proof.Machine.execDescribeItem port s
  | .releaseItem port => Sys2Proof.Machine.execReleaseItem port s
  | .reopenItem port => Sys2Proof.Machine.execReopenItem port s
  | .splice port => Sys2Proof.Machine.execSplice port s
  | .openPass port => Sys2Proof.Machine.execOpenPass port s
  | .addExtent port => Sys2Proof.Machine.execAddExtent port s
  | .closePass port => Sys2Proof.Machine.execClosePass port s
  | .withdrawPass port => Sys2Proof.Machine.execWithdrawPass port s
  | .holdItem port => Sys2Proof.Machine.execHoldItem port s
  | .liftItem port => Sys2Proof.Machine.execLiftItem port s
  | .setGroups port => Sys2Proof.Machine.execSetGroups port s
  | .retireItem port => Sys2Proof.Machine.execRetireItem port s
  | .restoreItem port => Sys2Proof.Machine.execRestoreItem port s
  | .discardItem port => Sys2Proof.Machine.execDiscardItem port s
  | .formatCatalogue port => Sys2Proof.Machine.execFormatCatalogue port s
  | .formatComplete => Sys2Proof.Machine.execFormatComplete s
  | .pinItem port => Sys2Proof.Machine.execPinItem port s
  | .unpinItem port => Sys2Proof.Machine.execUnpinItem port s
  | .pinCountdown => Sys2Proof.Machine.execPinCountdown s
  | .bindChannel port => Sys2Proof.Machine.execBindChannel port s
  | .queueCue port => Sys2Proof.Machine.execQueueCue port s
  | .stopChannel port => Sys2Proof.Machine.execStopChannel port s
  | .haltChannel port => Sys2Proof.Machine.execHaltChannel port s
  | .resumeChannel port => Sys2Proof.Machine.execResumeChannel port s
  | .clearCut port => Sys2Proof.Machine.execClearCut port s
  | .flushChannel port => Sys2Proof.Machine.execFlushChannel port s
  | .setLanes port => Sys2Proof.Machine.execSetLanes port s
  | .setCutoff port => Sys2Proof.Machine.execSetCutoff port s
  | .channelStatus port => Sys2Proof.Machine.execChannelStatus port s
  | .holdGroup port => Sys2Proof.Machine.execHoldGroup port s
  | .liftGroup port => Sys2Proof.Machine.execLiftGroup port s
  | .storeReset port => Sys2Proof.Machine.execStoreReset port s
  | .ackAttention port => Sys2Proof.Machine.execAckAttention port s
  | .setAttentionMask port => Sys2Proof.Machine.execSetAttentionMask port s
  | .attentionSummary port => Sys2Proof.Machine.execAttentionSummary port s
  | .rearmAlarm port => Sys2Proof.Machine.execRearmAlarm port s
  | .readFaultRecord port => Sys2Proof.Machine.execReadFaultRecord port s
  | .clearFaultRecord port => Sys2Proof.Machine.execClearFaultRecord port s
  | .assignRole port => Sys2Proof.Machine.execAssignRole port s
  | .setTiming port => Sys2Proof.Machine.execSetTiming port s
  | .startResolution channel => Sys2Proof.Machine.execStartResolution channel s
  | .segmentResolution channel => Sys2Proof.Machine.execSegmentResolution channel s
  | .disengage channel => Sys2Proof.Machine.execDisengage channel s
  | .mirrorWrite => Sys2Proof.Machine.execMirrorWrite s
  | .blockData tag data => Sys2Proof.Machine.execBlockData tag data s
  | .blockFail tag reason => Sys2Proof.Machine.execBlockFail tag reason s
  | .readTimeout tag => Sys2Proof.Machine.execReadTimeout tag s
  | .storeMessageDiscard bytes => Sys2Proof.Machine.execStoreMessageDiscard bytes s
  | .collectionTimeout channel => Sys2Proof.Machine.execCollectionTimeout channel s
  | .outgoingArbitration port => Sys2Proof.Machine.execOutgoingArbitration port s
  | .audioPiece port => Sys2Proof.Machine.execAudioPiece port s
  | .holdLineRise group => Sys2Proof.Machine.execHoldLineRise group s
  | .holdLineFall group => Sys2Proof.Machine.execHoldLineFall group s
  | .millisecondTick => Sys2Proof.Machine.execMillisecondTick s

end Sys2Proof.Machine
end

