-- ==== Sys2Proof/Machine/Arrivals.lean ====
section
/-! DEFINITION. Arriving units: the command that a unit delivered on a station link or on the store link stands for (R106, R155,
R170). Exactly one command stands for each unit. -/

namespace Sys2Proof.Machine

/-- The reason that a BLOCK_FAIL's reason byte spells: 00h UNREADABLE, 01h ABSENT (R170). -/
def failReasonOfCode (code : Byte) : Option FailReason :=
  if code = 0x00 then some .unreadable else if code = 0x01 then some .absent else none

/-- The reason byte of a BLOCK_FAIL (R170). -/
def failReasonCode : FailReason → Byte
  | .unreadable => 0x00
  | .absent => 0x01

/-- The command that a unit delivered to a port by its station stands for: a REQUEST with its body (kind 01h), a CREDIT with its
channel and amount (kind 05h), or a message that is discarded (R155, R170). -/
def stationCommand (p : PortId) (unit : List Byte) : Instr :=
  if discardsUnit unit then .messageDiscard p unit
  else
    match openMessage unit with
    | some (kind, body) => if kind = 0x01 then .requestArrival p body else .credit p (byteAt body 0) (wordAt body 1)
    | none => .messageDiscard p unit

/-- The command that a unit delivered on the store link stands for: a BLOCK_DATA with its tag and data (kind 11h), a BLOCK_FAIL with
its tag and reason (kind 12h), or a message that is discarded (R106, R170). A BLOCK_FAIL whose reason byte spells no reason is
discarded: the model's choice (log 20). -/
def storeCommand (unit : List Byte) : Instr :=
  if discardsStoreUnit unit then .storeMessageDiscard unit
  else if byteAt unit 0 = 0x11 then .blockData (byteAt unit 1) ((unit.drop 2).take Config.blockBytes)
  else
    match failReasonOfCode (byteAt unit 2) with
    | some reason => .blockFail (byteAt unit 1) reason
    | none => .storeMessageDiscard unit

end Sys2Proof.Machine
end

