-- ==== Sys2Proof/Safety.lean ====
section
/-! DEFINITION. The laws of the part: what the manual's *Law of …* statements and its tables of values promise of every state, in
the terms of the model. Each is a property of one state; that every step keeps it is stated in Certificates/. -/

namespace Sys2Proof.Machine

/-! ### Attention unit -/

/-- Law of attention (R166): ATTENTION is asserted exactly when some enabled cause flag is set. -/
def AttentionLaw (s : State) : Prop :=
  s.attention.attention = decide (s.attention.flags &&& s.attention.enables ≠ 0)

/-- Law of alarm (R168): ALARM is asserted only while the alarm suppress latch is set. -/
def AlarmLaw (s : State) : Prop := s.attention.alarm = true → s.attention.suppress = true

/-- The further-kinds set is empty while the first-fault record is empty, and the fault time does not pass its end (R169). -/
def FaultRecordLaw (s : State) : Prop :=
  (s.attention.record = none → s.attention.further = 0) ∧ s.attention.faultTime ≤ Config.maxU32

/-! ### Ports, pins and timing -/

/-- The limits of a port's queues (R156, R157, R165): a reply of the request in service always finds room. -/
def PortLaw (q : Port) : Prop :=
  q.intake.length ≤ Config.intakeLimit ∧ q.notices.length ≤ Config.noticeLimit ∧
    q.replies.length + (if q.service.isSome then 1 else 0) ≤ 4

/-- Every port keeps the limits of its queues. -/
def QueueLaw (s : State) : Prop := ∀ p, PortLaw (s.port p)

/-- Law of credit (R161), its first part, and the place of credit (R156): no credit exceeds 65,535, and a port holds credit only for
a channel bound to it. -/
def CreditLaw (s : State) : Prop :=
  ∀ p c, (s.port p).creditFor c ≤ Config.creditLimit ∧ ((s.port p).creditFor c ≠ 0 → (s.channel c).port = some p)

/-- Law of pins (R131): at most 128 pins, at most one for each port and slot, each with 1 to 86,400 seconds left; and the
prescaler stands at 0 to 999. -/
def PinLaw (s : State) : Prop :=
  s.pinTable.pins.length ≤ Config.pinLimit ∧ (s.pinTable.pins.Pairwise fun x y => x.rank < y.rank) ∧
    (∀ x ∈ s.pinTable.pins, 1 ≤ x.remaining ∧ x.remaining ≤ 86400) ∧ s.pinTable.prescaler ≤ 999

/-- The ranges of the timing settings (R163). -/
def TimingLaw (s : State) : Prop :=
  s.timing.collection ≤ 255 ∧ 1 ≤ s.timing.read ∧ s.timing.read ≤ 255 ∧ s.timing.retry ≤ 7

/-! ### Channels -/

/-- The range of a lane setting (R96). -/
def LaneSetting.legal (l : LaneSetting) : Prop := 1 ≤ l.count ∧ l.count ≤ 8 ∧ 2 ≤ l.word ∧ l.word ≤ 4

/-- Whether a job is a start resolution. -/
def ChannelJob.isStart : ChannelJob → Bool
  | .start .. => true
  | _ => false

/-- A channel keeps the table of its states (R71) and the law of channel holdings (R70): the queue holds at most 16 cues; a channel
is UNBOUND exactly when it has no bound port; there is no current cue in UNBOUND, IDLE, HALTED and CUT; a start resolution whose answer
is wanted belongs to a channel in RUNNING or HALTING with no current cue (R76, R89), and a segment resolution whose answer is wanted to
one with a current cue (R77); and there is no message and no run without a current cue, nor in STOPPED. -/
def Channel.lawful (ch : Channel) : Prop :=
  ch.queue.length ≤ Config.queueLimit ∧ (ch.state = .unbound ↔ ch.port = none) ∧
    ((ch.state = .unbound ∨ ch.state = .idle ∨ ch.state = .halted ∨ ch.state = .cut) → ch.current = none) ∧
    (ch.state = .unbound ∨ ch.state = .idle → ch.queue = []) ∧ ch.lanes.legal ∧ (∀ l, ch.pendingLanes = some l → l.legal) ∧
    (∀ cue role ignore, ch.job = some (.start cue role ignore false) → ch.delivering = true ∧ ch.current = none) ∧
    (ch.current = none ∨ ch.state = .stopped → ch.message = none ∧ ch.runs = []) ∧
    (∀ frame stop, ch.job = some (.segment frame stop false) → ch.delivering = true ∧ ch.current ≠ none)

/-- Every channel keeps the table of its states. -/
def ChannelLaw (s : State) : Prop := ∀ c, (s.channel c).lawful

/-- A cue's counts agree with its progress: the next frame is the start frame plus the delivered count, and does not pass F1 (R82). -/
def CurrentCue.counted (cur : CurrentCue) : Prop :=
  cur.f0 + cur.delivered = cur.next ∧ cur.next ≤ cur.f1 ∧ cur.gap + cur.concealed ≤ cur.delivered ∧
    ∀ x, cur.crossing = some x → x ≤ cur.f1

/-- An assembled message begins at the next frame of its cue, holds 1 to 256 frames, and does not pass F1 (R81). -/
def Message.counted (m : Message) (cur : CurrentCue) : Prop :=
  m.first = cur.next ∧ m.tag = cur.tag ∧ 1 ≤ m.count ∧ m.count ≤ Config.messageFrames ∧ m.first + m.count ≤ cur.f1 ∧
    m.gapFrames + m.concealedFrames ≤ m.count

/-- A channel's cue, message and resolution agree (R77, R81, R82): what underlies the law of delivered frames (R83). -/
def Channel.counted (ch : Channel) : Prop :=
  (∀ cur, ch.current = some cur → cur.counted) ∧
    (∀ m, ch.message = some m → ∃ cur, ch.current = some cur ∧ m.counted cur) ∧
    (ch.job.any ChannelJob.isStart → ch.current = none) ∧
    (∀ frame stop, ch.job = some (.segment frame stop false) → ∃ cur, ch.current = some cur ∧ frame ≤ cur.f1)

/-- Every channel's counts agree with its progress. -/
def DeliveryLaw (s : State) : Prop := ∀ c, (s.channel c).counted

/-- A channel's engagement agrees with its cue and its engine jobs (R12, R15, R83): its current cue's slot is the one it engages, and no
disengage is due or presented for it; an engagement with no current cue has a disengage due or presented; and a channel with a start
resolution at the engine has no engagement, no current cue and no disengage due. -/
def Channel.engagesWell (ch : Channel) (engaged : Option Slot) : Prop :=
  (∀ cur, ch.current = some cur → engaged = some cur.slot ∧ ch.job ≠ some .disengage ∧ ch.disengageDue = false) ∧
    (engaged ≠ none → ch.current = none → ch.job = some .disengage ∨ ch.disengageDue = true) ∧
    (ch.job.any ChannelJob.isStart → engaged = none ∧ ch.current = none ∧ ch.disengageDue = false)

/-- Every channel's engagement agrees with its cue and its engine jobs. -/
def EngagementLaw (s : State) : Prop := ∀ c, (s.channel c).engagesWell (s.engagedSlot c)

/-! ### Store reader -/

/-- No grant of a read slot is due: no slot is free, or no request waits (R109). -/
def NoGrantDue (s : State) : Prop := s.freeTag = none ∨ s.nextRequest = none

/-! ### The engine's arbiter -/

/-- The arbiter holds no job during the walk or a format; and else the job it serves is one that waits at the position last granted, and
while it serves none no job waits (R14, R16). -/
def ArbiterLaw (s : State) : Prop :=
  (s.starting = true → s.arbiter.serving = none) ∧
    (s.starting = false →
      (∀ n, s.arbiter.serving = some n → s.waitsAt n = true ∧ s.arbiter.lastGranted = n) ∧
        (s.arbiter.serving = none → ∀ n < 25, s.waitsAt n = false))

/-! ### Catalogue -/

/-- Catalogue memory is in canonical form. -/
def MemoryLaw (s : State) : Prop := s.memory.wf

/-- The slots that stand in the chains of the directory. -/
def Engine.linkedSlots (e : Engine) : List Slot := e.directory.flatMap Prod.snd

/-- How many of the slots, from 0 on, have their place (R11, R148): all of them once a walk or a format has ended, and the slots the
walk has passed while it runs. -/
def State.placedSlots (s : State) : Nat :=
  match s.engine.condition with
  | .walkHeader => 0
  | .walking n => min n Config.slotCount
  | .offline => 0
  | .ready => Config.slotCount
  | .formatting _ => Config.slotCount

/-- Law of slot places (R11, R148): no slot is twice in a chain or on the stack, none is in two of the three places, and each placed
slot is in a chain, on the stack, or faulted. -/
def SlotPlaces (s : State) : Prop :=
  (s.engine.linkedSlots ++ s.engine.freeStack).Nodup ∧ (∀ x ∈ s.engine.faulted, x ∉ s.engine.freeStack) ∧
    ∀ x, x.val < s.placedSlots ↔ (x ∈ s.engine.linkedSlots ∨ x ∈ s.engine.freeStack ∨ x ∈ s.engine.faulted)

/-- Whether a slot's key is readable (R7): its flag is clear and the key's words are not lost. -/
def State.keyReadable (s : State) (x : Slot) : Prop :=
  s.isFaulted x = false ∧ ((s.record x).condition .key).lost = false

/-- Law of the directory (R7): no two readable records linked in the directory carry the same key; and each slot stands in the chain of
its key's bucket (R6). -/
def DirectoryLaw (s : State) : Prop :=
  (∀ b x, x ∈ s.engine.chain b → (s.record x).key.bucket = b) ∧
    ∀ x y, x ∈ s.engine.linkedSlots → y ∈ s.engine.linkedSlots → s.keyReadable x → s.keyReadable y →
      (s.record x).key = (s.record y).key → x = y

/-- The laws of the catalogue: its tables are in canonical form; during a format, while the places are being replaced, no slot is engaged
(R12, R153); and else the law of slot places and the law of the directory hold, and what the engagement table names stands in a chain
(R12). -/
def CatalogueLaw (s : State) : Prop :=
  MemoryLaw s ∧ SparseWf [] s.engine.directory ∧ (∀ e ∈ s.engine.directory, e.1 < 16384) ∧
    if s.inFormat then ∀ c, s.engagedSlot c = none
    else SlotPlaces s ∧ DirectoryLaw s ∧ ∀ c x, s.engagedSlot c = some x → x ∈ s.engine.linkedSlots

/-- A record with RETIRING read as REVIEW, as the soundness checks of R150 apply to the rest of it (R139). -/
def Record.unretired (r : Record) : Record := if r.state = .retiring then { r with state := .review } else r

/-- Outside a format, every record that stands in a chain is sound (R2, R21, R24, R25, R37, R39, R52), but for the state RETIRING. -/
def RecordLaw (s : State) : Prop :=
  s.inFormat = false → ∀ x ∈ s.engine.linkedSlots, (s.record x).unretired.faultyPart = none

/-- Outside a format, every RETIRING item whose slot is not faulted is engaged (R139, R140). -/
def RetiringLaw (s : State) : Prop :=
  s.inFormat = false → ∀ x ∈ s.engine.linkedSlots, s.isFaulted x = false → (s.record x).state = .retiring → s.engagements x ≠ 0

/-! ### The terms of the statements -/

/-- The command that serves a request of a port. -/
def Request.command (r : Request) (p : PortId) : Instr :=
  match r with
  | .enterItem .. => .enterItem p
  | .findItem .. => .findItem p
  | .describeItem .. => .describeItem p
  | .releaseItem .. => .releaseItem p
  | .reopenItem .. => .reopenItem p
  | .splice .. => .splice p
  | .openPass .. => .openPass p
  | .addExtent .. => .addExtent p
  | .closePass .. => .closePass p
  | .withdrawPass .. => .withdrawPass p
  | .holdItem .. => .holdItem p
  | .liftItem .. => .liftItem p
  | .setGroups .. => .setGroups p
  | .retireItem .. => .retireItem p
  | .restoreItem .. => .restoreItem p
  | .discardItem .. => .discardItem p
  | .formatCatalogue => .formatCatalogue p
  | .pinItem .. => .pinItem p
  | .unpinItem .. => .unpinItem p
  | .bindChannel .. => .bindChannel p
  | .queueCue .. => .queueCue p
  | .stopChannel .. => .stopChannel p
  | .haltChannel .. => .haltChannel p
  | .resumeChannel .. => .resumeChannel p
  | .clearCut .. => .clearCut p
  | .flushChannel .. => .flushChannel p
  | .setLanes .. => .setLanes p
  | .setCutoff .. => .setCutoff p
  | .channelStatus .. => .channelStatus p
  | .holdGroup .. => .holdGroup p
  | .liftGroup .. => .liftGroup p
  | .storeReset => .storeReset p
  | .ackAttention .. => .ackAttention p
  | .setAttentionMask .. => .setAttentionMask p
  | .attentionSummary => .attentionSummary p
  | .rearmAlarm => .rearmAlarm p
  | .readFaultRecord => .readFaultRecord p
  | .clearFaultRecord => .clearFaultRecord p
  | .assignRole .. => .assignRole p
  | .setTiming .. => .setTiming p

/-- The key of the existing item that a request asks for, where the request's field checks pass (R19, R20, R26, R42, R124, R125, R132,
R137); none for any other request. -/
def Request.seeks : Request → Option Key
  | .findItem k | .describeItem k | .releaseItem k | .reopenItem k | .openPass k | .holdItem k | .liftItem k | .retireItem k => some k
  | .splice k _ _ kind pass _ => if kind = 0 ∨ (kind = 1 ∧ pass.toNat < 4) then some k else none
  | .addExtent k pass start count =>
    if pass.toNat < 4 ∧ 1 ≤ count.toNat ∧ start.toNat + count.toNat ≤ 4294967296 then some k else none
  | .closePass k pass length => if pass.toNat < 4 ∧ 1 ≤ length.toNat then some k else none
  | .withdrawPass k pass => if pass.toNat < 4 then some k else none
  | .setGroups k set => if set.toNat < 16 then some k else none
  | .pinItem k seconds => if 1 ≤ seconds.toNat ∧ seconds.toNat ≤ 86400 then some k else none
  | _ => none

/-- The channel field of a channel request (R72), and whether only the bound port may make the request. -/
def Request.channelField : Request → Option (Byte × Bool)
  | .bindChannel c _ | .channelStatus c => some (c, false)
  | .queueCue c _ | .stopChannel c | .haltChannel c | .resumeChannel c | .clearCut c | .flushChannel c | .setLanes c _ _ _
  | .setCutoff c _ => some (c, true)
  | _ => none

/-- Whether a command may write catalogue memory (R143): a job of the catalogue engine, the walk or a format. -/
def writesCatalogue : Instr → Bool
  | .walkHeaderRead | .walkSlot | .enterItem _ | .findItem _ | .describeItem _ | .releaseItem _ | .reopenItem _ | .splice _ | .openPass _
  | .addExtent _ | .closePass _ | .withdrawPass _ | .holdItem _ | .liftItem _ | .setGroups _ | .retireItem _ | .restoreItem _
  | .discardItem _ | .formatCatalogue _ | .formatComplete | .pinItem _ | .startResolution _ | .segmentResolution _ | .disengage _
  | .mirrorWrite => true
  | _ => false

/-- A port has a request in service, with the kind, tag and role it was handed with (R158). -/
def Serves (s : State) (p : PortId) (v : Service) (r : Request) : Prop := (s.port p).service = some v ∧ v.request = r

/-- The part once the request that a port has in service has been answered: the service is over, and the reply is the last of the
port's reply queue (R158). -/
def answered (p : PortId) (v : Service) (code : ReplyCode) (fields : List Field) (s : State) : State :=
  s.setPort p
    { s.port p with
      service := none
      replies := (s.port p).replies ++ [{ kind := v.kind, tag := v.tag, code := code, fields := fields }] }

/-- The part once the catalogue job that a port has in service has been answered: the engine is free, and the arbiter has granted the
next job that waits, if any (R13, R14). -/
def jobAnswered (p : PortId) (v : Service) (code : ReplyCode) (fields : List Field) (s : State) : State :=
  finishJob (answered p v code fields s)

/-- The catalogue is ready and the arbiter has granted the job of the requester position given (R14, R16). -/
def Grants (s : State) (position : Nat) : Prop := s.engine.condition = .ready ∧ s.arbiter.serving = some position

/-- No stored word of a record is damaged (R144). -/
def Record.intact (r : Record) : Prop := ∀ w, r.condition w = .clean

/-- A key stands in its bucket's chain at a slot whose flag is clear and whose record is intact, and every slot ahead of it in the chain
is either flagged or has an undamaged other key: the case in which a lookup ends *found* without a repair or a fault (R8). -/
def FoundAt (s : State) (key : Key) (x : Slot) : Prop :=
  s.isFaulted x = false ∧ (s.record x).key = key ∧ (s.record x).intact ∧
    ∃ ahead behind, s.engine.chain key.bucket = ahead ++ x :: behind ∧
      ∀ y ∈ ahead, s.isFaulted y = true ∨ ((s.record y).condition .key = .clean ∧ (s.record y).key ≠ key)

/-- A key stands nowhere in its bucket's chain, no slot of the chain is flagged, and every key of it is undamaged: the case in which a
lookup ends *not found* (R8). -/
def NotThere (s : State) (key : Key) : Prop :=
  ∀ y ∈ s.engine.chain key.bucket,
    s.isFaulted y = false ∧ (s.record y).condition .key = .clean ∧ (s.record y).key ≠ key

/-- No slot of a key's chain matches the key, and one of them at least is flagged: the case in which a lookup ends *not found,
faulted* (R8). -/
def NotThereFaulted (s : State) (key : Key) : Prop :=
  (∃ y ∈ s.engine.chain key.bucket, s.isFaulted y = true) ∧
    ∀ y ∈ s.engine.chain key.bucket, s.isFaulted y = true ∨ ((s.record y).condition .key = .clean ∧ (s.record y).key ≠ key)

/-- A key is found in its bucket's chain, whatever the condition of the other words of its record: as `FoundAt`, with the key's words
undamaged. -/
def KeyFoundAt (s : State) (key : Key) (x : Slot) : Prop :=
  s.isFaulted x = false ∧ (s.record x).key = key ∧ (s.record x).condition .key = .clean ∧
    ∃ ahead behind, s.engine.chain key.bucket = ahead ++ x :: behind ∧
      ∀ y ∈ ahead, s.isFaulted y = true ∨ ((s.record y).condition .key = .clean ∧ (s.record y).key ≠ key)

/-- A lookup of a key comes to one slot, not flagged, whose key is lost, and passes over every other slot of the chain (R8, R9). -/
def LostOnTheWay (s : State) (key : Key) (y : Slot) : Prop :=
  s.isFaulted y = false ∧ ((s.record y).condition .key).lost = true ∧
    ∃ ahead behind, s.engine.chain key.bucket = ahead ++ y :: behind ∧
      ∀ z ∈ ahead ++ behind, s.isFaulted z = true ∨ ((s.record z).condition .key = .clean ∧ (s.record z).key ≠ key)

/-- The words of a record in the order in which the walk reads them (R148). -/
def recordWords : List RecordWord := .state :: wordsBesideState

/-- The first of some words of a record that is lost, if any. -/
def Record.firstLost (r : Record) (words : List RecordWord) : Option RecordWord := words.find? fun w => (r.condition w).lost

/-- A record once some of its words have been read: whatever of them could be corrected has been written back (R144). -/
def Record.repair (r : Record) (words : List RecordWord) : Record := words.foldl Record.corrected r

/-- How many stored words a read of some words of a record corrects (R144). -/
def Record.repairs (r : Record) (words : List RecordWord) : Nat := (words.map fun w => (r.condition w).damaged).sum

/-- A notice has reached a port's queue: it stands at the tail, or it was dropped and the notices-lost flag is set (R165). -/
def Reached (n : Notice) (p : PortId) (t : State) : Prop := n ∈ (t.port p).notices ∨ (t.port p).noticesLost = true

/-- A record fault of a slot has been found and reported (R9, R146, R164): the slot is flagged, as no other slot newly is, and stays
where it is linked; RECORD_FAULT is raised, and the notice has reached every CONTROL port. -/
def FaultReported (s t : State) (x : Slot) (who : Requester) (part : RecordPart) : Prop :=
  (∀ y, t.isFaulted y = true ↔ s.isFaulted y = true ∨ y = x) ∧ t.engine.directory = s.engine.directory ∧
    t.engine.freeStack = s.engine.freeStack ∧ hasCause t.attention.flags .recordFault = true ∧
    ∀ q, (s.port q).role = .control → Reached (.recordFault x who part) q t

/-- The walk has placed slot `x`, leaving the records as `records` gives them and the engine's tables as `e`; memory is untouched where
no record differs from what stood there, and nothing outside the engine and the records has changed (R148). -/
def WalkPlaced (s t : State) (x : Slot) (records : Slot → Record) (e : Engine) : Prop :=
  t = { s with memory := t.memory, engine := { e with condition := .walking (x.val + 1) } } ∧ (∀ y, t.record y = records y) ∧
    t.memory.header = s.memory.header ∧ ((∀ y, records y = s.record y) → t.memory = s.memory)

/-- The job of requester position `n` is what a command serves (R14, R15). -/
def ServesPosition (i : Instr) (n : Nat) (s : State) : Prop :=
  (∃ p v r, Serves s p v r ∧ i = r.command p ∧ n = portPosition p) ∨
    (∃ c, (i = .startResolution c ∨ i = .segmentResolution c ∨ i = .disengage c) ∧ n = channelPosition c) ∨
    i = .mirrorWrite ∧ n = holdPosition

/-- A command is no event of the part in a state, so that it leaves the part as it is (log 1), or its operands are none that its unit can
carry (log 20): a request command whose port has no such request in service; an engine command with no walk, format or granted job of its
kind; a dispatch, send or piece with nothing to send or room for none; a timeout whose timer has not run out; an edge to the level at which
the line stands; a countdown on a tick that is not the thousandth; a unit in good form named as a discard, or data that are no block. -/
def NotDue (i : Instr) (s : State) : Prop :=
  (∃ p r, i = Request.command r p ∧ ∀ v q, Serves s p v q → q.command p ≠ i) ∨
    match i with
    | .walkHeaderRead => s.engine.condition ≠ .walkHeader
    | .walkSlot => ∀ n < 65536, s.engine.condition ≠ .walking n
    | .walkEnd => ∀ n, 65536 ≤ n → s.engine.condition ≠ .walking n
    | .formatComplete => ∀ p, s.engine.condition ≠ .formatting p
    | .startResolution c => s.arbiter.serving ≠ some (channelPosition c) ∨ (s.channel c).job.any ChannelJob.isStart = false
    | .segmentResolution c =>
      s.arbiter.serving ≠ some (channelPosition c) ∨ ∀ frame stop discard, (s.channel c).job ≠ some (.segment frame stop discard)
    | .disengage c => s.arbiter.serving ≠ some (channelPosition c) ∨ (s.channel c).job ≠ some .disengage
    | .mirrorWrite => s.arbiter.serving ≠ some holdPosition
    | .readTimeout g => ∀ c b block attempt, s.readSlot g ≠ .active c b block attempt 0
    | .collectionTimeout c => (s.channel c).current = none ∨ (s.channel c).wait ≠ some 0 ∨ (s.channel c).state.playing = false
    | .pinCountdown => s.pinTable.prescaler < 999
    | .holdLineRise g => hasGroup s.hold.lines g = true
    | .holdLineFall g => hasGroup s.hold.lines g = false
    | .requestDispatch p => (s.port p).service ≠ none ∨ (s.port p).intake = [] ∨ 4 ≤ (s.port p).replies.length
    | .outgoingArbitration p =>
      (s.port p).sending ≠ [] ∨ (s.port p).replies = [] ∧ (s.port p).notices = [] ∧
        ∀ c, ¬ ((s.channel c).port = some p ∧ 1 ≤ (s.port p).creditFor c ∧ (s.channel c).message.isSome = true)
    | .audioPiece p => (s.port p).sending = []
    | .messageDiscard _ bytes => discardsUnit bytes = false
    | .blockData _ data => data.length ≠ 65536
    | _ => False

/-- What supplies a programme frame by a list of segments: silence, or a pass and its frame (R41, R61). -/
def supplied (list : List Segment) (frame : Nat) : Option Source :=
  (segmentOf list frame).map fun g => g.source.advance (frame - g.start)

/-- Two states agree on everything but the channels, the store reader and the ports. -/
def SameElsewhere (s t : State) : Prop :=
  t.memory = s.memory ∧ t.engine = s.engine ∧ t.hold = s.hold ∧ t.pinTable = s.pinTable ∧ t.timing = s.timing ∧
    t.pending = s.pending

/-- What a cutoff event makes of a channel (R83, R84, R126 to R129): `ch` is the channel `c` as it is judged, with the current cue `cur`,
beside the block requests and against the latches given, and `t` is the part after it. Under STOP the channel is CUT; under SKIP it goes on
without the cue; under MUTE a playing cue takes the cutoff mark, one in STOPPING ends CUT once no read that a slot serves is in flight and
no resolution awaits its answer (R86, R116), and a remainder ends CUT. -/
def CutEffect (requests : List BlockRequest) (ch : Channel) (cur : CurrentCue) (latches : Groups) (c : ChannelId) (t : State) : Prop :=
  let now := t.channel c
  let awaits := ch.job.any ChannelJob.isResolution = true ∨
    ∃ b, ch.buffer b = .draining ∨
      ∃ place, ch.buffer b = .inFlight place ∧ ∃ r ∈ requests, r.channel = c ∧ r.buffer = b ∧ r.active = true
  let dropped := now.runs = [] ∧ ∀ b, (now.buffer b).place = none
  let ended := now.current = none ∧ now.message = none ∧ dropped ∧ (ch.job = none → now.job = some .disengage) ∧
    ∀ q, ch.port = some q → Reached (.cueEnded cur.tag .cut cur.delivered cur.gap cur.concealed) q t
  let stopped := now.state = .stopped ∧ ∀ q, ch.port = some q → Reached (.channelStopped none) q t
  now.port = ch.port ∧ now.queue = ch.queue ∧
  (ch.cutoff = .stop → ended ∧ now.state = .cut ∧
    ∀ q, ch.port = some q → Reached (.channelCut cur.tag cur.groups cur.itemHold (decide (cur.itemHold = 1))
      (groupsOf cur.groups &&& latches)) q t) ∧
  (ch.cutoff = .skip → ended ∧
    (ch.state = .running → now.state = if ch.queue = [] then .idle else .running) ∧
    (ch.state = .halting → now.state = .halted ∧ ∀ q, ch.port = some q → Reached .channelHalted q t) ∧
    (ch.state = .stopping → stopped) ∧ (ch.state = .stopped → now.state = .stopped)) ∧
  (ch.cutoff = .mute →
    (ch.state = .running ∨ ch.state = .halting → cur.next < cur.limit →
      now.state = ch.state ∧ now.current = some { cur with muted := true } ∧ dropped ∧
        ∀ m, now.message = some m → m.hasCutoff = true) ∧
    (ch.state = .stopping → cur.next < cur.limit →
      (¬ awaits → ended ∧ stopped) ∧
      (awaits → now.state = .stopping ∧ now.current = some { cur with muted := true } ∧ dropped ∧ now.message = none)) ∧
    (ch.state = .stopped → ended ∧ now.state = .stopped))

end Sys2Proof.Machine
end

