-- ==== Sys2Proof/Certificates/Slice0/Obligations.lean ====
section
/-! DEFINITION. The statements for the provers. Each says in its docstring which rules of the manual it formalises. -/

open Sys2Proof Sys2Proof.Machine

/-! ### The step, reset and the laws that every step keeps -/

/-- One step takes the command at the front of the queue and runs it with the queue's rest. On an empty queue the part idles: that
clause is the model's choice (log 1). -/
def Obligations.StepRunsTheFrontCommand : Prop :=
  ∀ s : State, (∀ i rest, s.pending = i :: rest → step s = exec i (s.withPending rest)) ∧ (s.pending = [] → step s = .next s)

/-- RESET: every block takes its reset values, the engine's arbiter is free and searches next from port 0, the walk is about to read the
header, and catalogue memory keeps its contents (R7, R10, R12, R14, R70, R96, R107, R120, R131, R143, R156, R163, R166, R168, R169). That
the fault time, which starts when a walk ends, stands at 0 until then is the model's choice (log 10). -/
def Obligations.ResetValues : Prop :=
  ∀ lines s, ∃ t, exec (.reset lines) s = .next t ∧ t.memory = s.memory ∧ t.pending = s.pending ∧
    t.engine.condition = .walkHeader ∧ t.engine.directory = [] ∧ t.engine.freeStack = [] ∧ t.engine.faulted = [] ∧
    (∀ c, t.engagedSlot c = none) ∧ t.arbiter.serving = none ∧ t.arbiter.lastGranted = 24 ∧
    t.hold.latches = 0 ∧ t.hold.lines = lines ∧ t.hold.mirrorWaiting = false ∧ t.pinTable.pins = [] ∧ t.pinTable.prescaler = 0 ∧
    t.attention.flags = 0 ∧ t.attention.enables = 0xFD ∧ t.attention.attention = false ∧ t.attention.alarm = false ∧
    t.attention.suppress = true ∧ t.attention.record = none ∧ t.attention.further = 0 ∧
    t.attention.stalled = false ∧ t.attention.offline = false ∧ t.attention.faultTime = 0 ∧
    (∀ g, t.readSlot g = .free) ∧ t.store.requests = [] ∧ t.store.lastChannel = 7 ∧
    t.timing.collection = 20 ∧ t.timing.read = 50 ∧ t.timing.retry = 2 ∧
    (∀ p, (t.port p).role = (if p = 0 then .control else .none) ∧ (t.port p).intake = [] ∧ (t.port p).service = none ∧
      (t.port p).replies = [] ∧ (t.port p).notices = [] ∧ (t.port p).noticesLost = false ∧ (t.port p).linkFault = false ∧
      (t.port p).audioPointer = 7 ∧ (t.port p).sending = [] ∧ ∀ c, (t.port p).creditFor c = 0) ∧
    ∀ c, (t.channel c).state = .unbound ∧ (t.channel c).port = none ∧ (t.channel c).queue = [] ∧ (t.channel c).current = none ∧
      (t.channel c).runs = [] ∧ (∀ b, (t.channel c).buffer b = .free) ∧ (t.channel c).message = none ∧
      (t.channel c).job = none ∧ (t.channel c).disengageDue = false ∧ (t.channel c).wait = none ∧
      (t.channel c).cutoff = .stop ∧ (t.channel c).pendingCutoff = none ∧ (t.channel c).pendingLanes = none ∧
      (t.channel c).lanes.count = 2 ∧ (t.channel c).lanes.word = 3 ∧
      ∀ i, rowGet (t.channel c).lanes.lanes i = { enabled := true, source := i, invert := false }

/-- The laws that the statements below carry through every step hold in the reset state, and in the state that a RESET leaves on any
catalogue memory in canonical form. -/
def Obligations.LawsHoldAtReset : Prop :=
  ∀ s, s = State.reset ∨ (∃ lines u, u.memory.wf ∧ exec (.reset lines) u = .next s) →
    AttentionLaw s ∧ AlarmLaw s ∧ FaultRecordLaw s ∧ QueueLaw s ∧ CreditLaw s ∧ PinLaw s ∧ TimingLaw s ∧ ChannelLaw s ∧ EngagementLaw s ∧
      DeliveryLaw s ∧ NoGrantDue s ∧ ArbiterLaw s ∧ CatalogueLaw s ∧ RecordLaw s ∧ RetiringLaw s

/-- Every step keeps the law of attention (R166), the law of alarm (R168), the emptiness of the further-kinds set beside an empty
first-fault record with the end of the fault time (R169), the limits of the ports' queues (R156, R157, R158, R165), the law of credit, as
to its limit (R161), with credit held only for a channel bound to its port (R156), the law of pins (R131), and the ranges of the timing
settings (R163). -/
def Obligations.UnitLawsKept : Prop :=
  ∀ s t, step s = .next t →
    (AttentionLaw s → AttentionLaw t) ∧ (AlarmLaw s → AlarmLaw t) ∧ (FaultRecordLaw s → FaultRecordLaw t) ∧
      (QueueLaw s → QueueLaw t) ∧ (CreditLaw s → CreditLaw t) ∧ (PinLaw s → PinLaw t) ∧ (TimingLaw s → TimingLaw t)

/-- Every step keeps the table of channel states and the law of channel holdings (R70, R71, R96), and the agreement of each channel's
engagement with its cue and its engine jobs (R12, R15, R83). -/
def Obligations.ChannelLawsKept : Prop :=
  ∀ s t, step s = .next t → (ChannelLaw s → ChannelLaw t) ∧ (EngagementLaw s → EngagementLaw t)

/-- Every step keeps each channel's counts in agreement with its progress (R81, R82). -/
def Obligations.DeliveryLawKept : Prop :=
  ∀ s t, DeliveryLaw s → step s = .next t → DeliveryLaw t

/-- Whenever a slot is free and a request waits, the store reader grants: no step leaves a grant due (R109). And every step keeps the law
of the engine's arbiter (R14, R16): the job it serves is one that waits at the position last granted, the engine is never free while a job
waits, and it holds no job during the walk or a format. -/
def Obligations.NoStepLeavesAGrantDue : Prop :=
  ∀ s t, step s = .next t → (NoGrantDue s → NoGrantDue t) ∧ (ArbiterLaw s → ArbiterLaw t)

/-- Every step keeps the canonical form of catalogue memory and, outside a format, the law of slot places (R11), the law of the
directory (R7) and the place of engaged slots in the chains (R12). That no job is served during the walk or a format is the law of the
engine's arbiter, which `NoStepLeavesAGrantDue` keeps. -/
def Obligations.CatalogueLawKept : Prop :=
  ∀ s t, ArbiterLaw s → CatalogueLaw s → step s = .next t → CatalogueLaw t

/-- Every step keeps the linked records sound: the ranges of R2, the pass tables of R21, R24 and R25, the law of renditions (R37) and
the law of pass references (R39); and, where channels' engagements agree with their cues, no step leaves a readable RETIRING item that no
channel engages (R139, R140). -/
def Obligations.RecordLawsKept : Prop :=
  ∀ s t, CatalogueLaw s → step s = .next t →
    (RecordLaw s → RecordLaw t) ∧ (EngagementLaw s → RetiringLaw s → RetiringLaw t)

/-- Law of delivered frames (R83), as to the count: a CUE_ENDED that a command sends with status PLAYED, SHORTENED or MUTED is that of a
cue current before the command, and its delivered count is F1 − F0. That no job is served during the walk or a format is the law of the
engine's arbiter, which `NoStepLeavesAGrantDue` keeps. -/
def Obligations.LawOfDeliveredFrames : Prop :=
  ∀ i s t p tag status delivered gap concealed, ArbiterLaw s → CatalogueLaw s → RecordLaw s → DeliveryLaw s → exec i s = .next t →
    Notice.cueEnded tag status delivered gap concealed ∈ (t.port p).notices →
    Notice.cueEnded tag status delivered gap concealed ∉ (s.port p).notices →
    status = .played ∨ status = .shortened ∨ status = .muted →
    ∃ c cur, (s.channel c).current = some cur ∧ cur.tag = tag ∧ delivered = cur.f1 - cur.f0

/-! ### What only some commands can do -/

/-- Every command answers a next state, from every state, and leaves the queue of waiting commands as it is; a command that is not due,
or with operands that its unit cannot carry, as `NotDue` lists them, changes nothing: the model's choice (log 1; for the operands, log 20).
That none of them stops is read from the spec (log 24). Catalogue memory is changed only by the jobs of the catalogue engine, the walk and
a format (R143); group latches only by the hold unit's own events, reset, the walk and a format (R120); roles only by ASSIGN_ROLE and reset
(R159); bindings only by BIND_CHANNEL, ASSIGN_ROLE and reset (R72, R160); and the timing settings only by SET_TIMING and reset (R163). -/
def Obligations.OnlyTheirCommandsChangeThem : Prop :=
  ∀ i s, ∃ t, exec i s = .next t ∧ t.pending = s.pending ∧ (NotDue i s → t = s) ∧
    (writesCatalogue i = false → t.memory = s.memory) ∧
    (t.hold.latches ≠ s.hold.latches →
      (∃ lines, i = .reset lines) ∨ i = .walkHeaderRead ∨ i = .walkEnd ∨ (∃ p, i = .formatCatalogue p) ∨ i = .formatComplete ∨
        (∃ p, i = .holdGroup p) ∨ (∃ p, i = .liftGroup p) ∨ ∃ g, i = .holdLineRise g) ∧
    (∀ p, (t.port p).role ≠ (s.port p).role → (∃ lines, i = .reset lines) ∨ ∃ q, i = .assignRole q) ∧
    (∀ c, (t.channel c).port ≠ (s.channel c).port →
      (∃ lines, i = .reset lines) ∨ (∃ q, i = .assignRole q) ∨ ∃ q, i = .bindChannel q) ∧
    (t.timing ≠ s.timing → (∃ lines, i = .reset lines) ∨ ∃ p, i = .setTiming p)

/-- A request that its serving block takes is answered once: the service ends, and one reply, which echoes the request's kind and tag,
joins the tail of the port's reply queue (R154, R158). A catalogue job is taken once the arbiter has granted its port, and at once during
the walk, from the grant of a format to its end, and while the catalogue is OFFLINE (R14, R16); FORMAT_CATALOGUE replies at its end,
and has its own statements. -/
def Obligations.EveryRequestIsAnsweredOnce : Prop :=
  ∀ p v r s, Serves s p v r →
    (r.presentsJob = true → s.starting = true ∨ s.formatGranted = true ∨ s.engine.condition = .offline ∨
      s.arbiter.serving = some p.val) → r ≠ .formatCatalogue →
    ∃ t code fields, exec (r.command p) s = .next t ∧ (t.port p).service = none ∧
      (t.port p).replies = (s.port p).replies ++ [{ kind := v.kind, tag := v.tag, code := code, fields := fields }]

/-- The service of a catalogue job by the condition of the catalogue (R13, R14, R16, R153): STARTING at once during the walk and from the
grant of another port's format to its end; OFFLINE at once while the catalogue is OFFLINE, for every job but FORMAT_CATALOGUE; and nothing
before the arbiter has granted the port. A FORMAT_CATALOGUE command for the port whose own format is in progress changes nothing: the
model's choice (log 1). -/
def Obligations.CatalogueJobsMeetTheCondition : Prop :=
  ∀ p v r s, Serves s p v r → r.presentsJob = true →
    (s.starting = true → ¬ (r = .formatCatalogue ∧ s.engine.condition = .formatting p) →
      exec (r.command p) s = .next (answered p v .starting [] s)) ∧
    (s.starting = false → s.formatGranted = true → s.arbiter.serving ≠ some p.val →
      exec (r.command p) s = .next (answered p v .starting [] s)) ∧
    (r = .formatCatalogue → s.engine.condition = .formatting p → exec (r.command p) s = .next s) ∧
    (s.engine.condition = .offline → r ≠ .formatCatalogue →
      (s.arbiter.serving = some p.val → exec (r.command p) s = .next (jobAnswered p v .offline [] s)) ∧
      (s.arbiter.serving ≠ some p.val → s.formatGranted = false → exec (r.command p) s = .next (answered p v .offline [] s))) ∧
    (s.starting = false → s.formatGranted = false → (s.engine.condition = .offline → r = .formatCatalogue) →
      s.arbiter.serving ≠ some p.val → exec (r.command p) s = .next s)

/-- The engine's arbiter (R13, R14, R16). A free engine takes the first position, in the cycle that begins after the last one granted and
wraps from 24 to 0, at which a job waits; it takes none while no job waits, while it serves a job, or during the walk or a format. A
catalogue request that is dispatched to a free engine is granted at once. And a granted job is not overtaken: while the engine serves one,
only a command that serves that position, or a RESET, changes what the arbiter holds. -/
def Obligations.ArbiterTakesTheNextWaiting : Prop :=
  (∀ s : State,
     (s.starting = true ∨ s.arbiter.serving ≠ none → grantJob s = s) ∧
     (s.starting = false → s.arbiter.serving = none →
       (∀ n, grantJob s = { s with arbiter := { serving := some n, lastGranted := n } } ↔
         ∃ k < 25, n = (s.arbiter.lastGranted + 1 + k) % 25 ∧ s.waitsAt n = true ∧
           ∀ j < k, s.waitsAt ((s.arbiter.lastGranted + 1 + j) % 25) = false) ∧
       (grantJob s = s ↔ ∀ n < 25, s.waitsAt n = false))) ∧
  (∀ (s : State) (p : PortId) body rest r, s.engine.condition = .ready → s.arbiter.serving = none → (∀ n < 25, s.waitsAt n = false) →
     (s.port p).service = none → (s.port p).intake = body :: rest → (s.port p).replies.length ≤ 3 → parseRequest body = some r →
     (s.port p).role.admits r.class = true → r.presentsJob = true →
     ∃ t, exec (.requestDispatch p) s = .next t ∧ t.arbiter = { serving := some p.val, lastGranted := p.val } ∧
       t.port p = { s.port p with
         intake := rest
         service := some { kind := byteAt body 0, tag := byteAt body 1, role := (s.port p).role, request := r } }) ∧
  (∀ i s t n, ArbiterLaw s → s.arbiter.serving = some n → exec i s = .next t → t.arbiter ≠ s.arbiter →
     (∃ lines, i = .reset lines) ∨ ServesPosition i n s)

/-! ### Layouts -/

/-- The body of every request, with any tag, spells that request again (R154, R171). -/
def Obligations.RequestBodiesRoundTrip : Prop :=
  ∀ (r : Request) (tag : Byte), r.fits = true → parseRequest (r.body tag) = some r ∧ byteAt (r.body tag) 1 = tag

/-- The image of every sound record is 882 bytes long and spells that record again, with its retiring port, which is not read outside
RETIRING, as 0 (R172). -/
def Obligations.RecordImagesRoundTrip : Prop :=
  ∀ r : Record, r.faultyPart = none →
    r.image.length = 882 ∧
      parseImage r.image = { r with retiringPort := 0, words := Vector.replicate 10 .clean }

/-! ### Keys, renditions, positions and samples -/

/-- The bucket of a key: the exclusive-or of the low, middle and top pieces of the accession number and of the part number, which lies
in 0 to 16,383 (R6). -/
def Obligations.BucketOfAKey : Prop :=
  ∀ k : Key, let A := k.accession.toNat
    k.bucket.toNat = ((A % 16384 ^^^ A / 16384 % 16384) ^^^ A / 268435456) ^^^ k.part.toNat ∧ k.bucket.toNat < 16384 ∧
      A / 268435456 < 4096

/-- Two neighbours are mergeable exactly when both are GAP, or both are PASS of one pass and the second continues the first; and the one
segment that replaces them, with the first one's start and source and the sum of the lengths, supplies every frame from exactly the
place that the first or the second supplied it (R38). -/
def Obligations.MergeableNeighbours : Prop :=
  ∀ x y : Segment,
    (x.mergeable y = true ↔
      (x.source = .gap ∧ y.source = .gap) ∨ ∃ i o, x.source = .pass i o ∧ y.source = .pass i (o + x.length)) ∧
    (x.mergeable y = true → y.start = x.start + x.length → 1 ≤ x.length → 1 ≤ y.length → ∀ rest f, x.start ≤ f → f < y.stop →
      mergeSegments [x, y] = [{ x with length := x.length + y.length }] ∧
      supplied ({ x with length := x.length + y.length } :: rest) f = supplied (x :: y :: rest) f)

/-- A splice of a sound rendition of length L over [a, b): the new list runs from 0 to L without gap or overlap, with no two neighbours
mergeable; every frame outside [a, b) is supplied from exactly the place it was supplied from before; and every frame of [a, b) is
supplied by the source given (R37, R41, R45, R46). -/
def Obligations.SpliceKeepsEveryOtherFrame : Prop :=
  ∀ (list : List Segment) (L a b : Nat) (source : Source), contiguousTo L 0 list = true → 1 ≤ list.length → a < b → b ≤ L →
    let spliced := splicedList list { start := a, length := b - a, source := source }
    contiguousTo L 0 spliced = true ∧ 1 ≤ spliced.length ∧ spliced.length ≤ list.length + 2 ∧
      ∀ f < L, supplied spliced f = if a ≤ f ∧ f < b then some (source.advance (f - a)) else supplied list f

/-- The frames of a granted cue (R57, R58, R59): F0 is floor(S × R / 1000) and lies below F1, which is at most L; D = 0 plays to L; a D of
1 or more ends at floor((S + D) × R / 1000), or at L with the SHORTENED mark where that exceeds L, and else runs for at least 32 frames. -/
def Obligations.FramesOfAGrantedCue : Prop :=
  ∀ (r : Record) (cue : Cue) (role : Role) (ignore : Bool) (latches : Groups) (x : Slot), rateLegal r.rate = true →
    startRefusal r cue role ignore latches = none →
    let cur := startedCue cue x r
    let S := cue.start.toNat
    let D := cue.duration.toNat
    cur.f0 = S * r.rate / 1000 ∧ cur.f0 < cur.f1 ∧ cur.f1 ≤ r.length ∧ cur.next = cur.f0 ∧
      (D = 0 → cur.f1 = r.length ∧ cur.shortened = false) ∧
      (1 ≤ D → (S + D) * r.rate / 1000 ≤ r.length →
        cur.f1 = (S + D) * r.rate / 1000 ∧ cur.shortened = false ∧ 32 ≤ cur.f1 - cur.f0) ∧
      (1 ≤ D → r.length < (S + D) * r.rate / 1000 → cur.f1 = r.length ∧ cur.shortened = true)

/-- The extent walk: a pass block below the block total lies in exactly one extent i, counted from the sum U_i of the counts before it,
and its store block is t_i + (n − U_i), within that extent; a pass block at or beyond the block total has none (R62, R63). -/
def Obligations.ExtentWalk : Prop :=
  ∀ (extents : List Extent) (n : Nat), (∀ x ∈ extents, 1 ≤ x.count) →
    (n < blockTotal extents →
      ∃ i x, extents[i]? = some x ∧ blockTotal (extents.take i) ≤ n ∧ n < blockTotal (extents.take i) + x.count ∧
        storeBlock extents n = some (x.start + (n - blockTotal (extents.take i))) ∧
        ∀ j y, extents[j]? = some y → blockTotal (extents.take j) ≤ n → n < blockTotal (extents.take j) + y.count → j = i) ∧
    (blockTotal extents ≤ n → storeBlock extents n = none)

/-- Sample conversion (R102, R103, R104): from s to w bytes, a sample in the range of its width gives one in the range of the output width;
inversion negates every value but the least, which becomes the greatest; widening multiplies by 2^(8(w − s)); narrowing is floor(v / 2^(8(s
− w))); equal widths pass the value unchanged; and a lane set to invert converts the inverted value.
The assembled message (R81, R86, R97, R101, R105, R127): a channel that holds none assembles the frames from the next frame on, all on hand,
256 of them or the cue's remaining ones, and in STOPPING a shorter last message where the frame after it is neither on hand nor awaited
(that it closes short only where that frame is not awaited either: the model's reading, log 15); in STOPPING no frame past the end of the
delivery run is on hand, though a read-ahead run is held (R88; beside R86 the model's reading, log 26); a frame of a muted cue is cutoff
silence, a frame of a GAP run is a gap, and a frame of a pass is audio where both its blocks are filled and concealed where one ended
concealed; the message carries the cue's tag, the frames, the lanes and the flags and counts of its frames; and its samples stand frame by
frame, lane 0 first, each the conversion of the lane's input sample, or 0 for a lane that is disabled, a source channel the item has not,
and every frame but an audio frame. -/
def Obligations.SampleConversion : Prop :=
  (∀ (s w : Nat) (v : Int), 2 ≤ s → s ≤ 4 → 2 ≤ w → w ≤ 4 → -(2 ^ (8 * s - 1)) ≤ v → v ≤ 2 ^ (8 * s - 1) - 1 →
     (∀ invert, -(2 ^ (8 * w - 1)) ≤ convertSample s w invert v ∧ convertSample s w invert v ≤ 2 ^ (8 * w - 1) - 1) ∧
     invertSample (8 * s) v = (if v = -(2 ^ (8 * s - 1)) then 2 ^ (8 * s - 1) - 1 else -v) ∧
     (s < w → convertSample s w false v = v * 2 ^ (8 * (w - s))) ∧
     (w < s → convertSample s w false v * 2 ^ (8 * (s - w)) ≤ v ∧ v < (convertSample s w false v + 1) * 2 ^ (8 * (s - w))) ∧
     (s = w → convertSample s w false v = v) ∧
     convertSample s w true v = convertSample s w false (invertSample (8 * s) v)) ∧
  (∀ (ch : Channel) (cur : CurrentCue) (kinds : List FrameKind),
     (nextMessage ch cur = some kinds ↔
       kinds ≠ [] ∧ (∀ i k, kinds[i]? = some k → framePresence ch cur (cur.next + i) = .onHand k) ∧
         let whole := kinds.length = min 256 (cur.limit - cur.next)
         ((ch.state = .running ∨ ch.state = .halting) ∧ whole ∨
           ch.state = .stopping ∧ (whole ∨ kinds.length < min 256 (cur.limit - cur.next) ∧
             framePresence ch cur (cur.next + kinds.length) = .absent))) ∧
     let m := buildMessage ch cur kinds
     m.tag = cur.tag ∧ m.first = cur.next ∧ m.count = kinds.length ∧ m.lanes = ch.lanes.count ∧ m.word = ch.lanes.word ∧
       (m.lastOfCue = true ↔ cur.next + kinds.length = cur.limit) ∧ (m.hasGap = true ↔ .gap ∈ kinds) ∧
       (m.hasConcealment = true ↔ .concealed ∈ kinds) ∧ (m.hasCutoff = true ↔ .cutoff ∈ kinds) ∧
       m.gapFrames = kinds.count .gap ∧ m.concealedFrames = kinds.count .concealed ∧
       (ch.lanes.count ≤ 8 → m.samples.length = kinds.length * ch.lanes.count ∧
         ∀ i k (j : Fin 8), kinds[i]? = some k → j.val < ch.lanes.count →
           let lane := rowGet ch.lanes.lanes j
           m.samples[i * ch.lanes.count + j.val]? = some
             (if k = .audio ∧ lane.enabled = true ∧ lane.source.val < cur.channels then
               convertSample cur.sampleBytes ch.lanes.word lane.invert (inputSample ch cur (cur.next + i) lane.source.val)
             else 0))) ∧
  (∀ (ch : Channel) (cur : CurrentCue) (frame : Nat),
     let delivering := ch.state = .running ∨ ch.state = .halting
     (cur.muted = true →
       (delivering → framePresence ch cur frame = .onHand .cutoff) ∧ (¬ delivering → framePresence ch cur frame = .absent)) ∧
     (cur.muted = false → ch.runOf frame = none → framePresence ch cur frame = .absent) ∧
     (∀ run rest, ch.state = .stopping → ch.runs = run :: rest → ¬ (run.start ≤ frame ∧ frame < run.stop) →
       framePresence ch cur frame = .absent) ∧
     ∀ run, cur.muted = false → ch.runOf frame = some run →
       (run.source = .gap →
         (delivering → framePresence ch cur frame = .onHand .gap) ∧ (¬ delivering → framePresence ch cur frame = .absent)) ∧
       ∀ i p extents, run.source = .pass i p extents →
         let q := p + (frame - run.start)
         let first := ch.bufferFor run.start (q * cur.frameBytes / 65536)
         let last := ch.bufferFor run.start (((q + 1) * cur.frameBytes - 1) / 65536)
         ((∃ x d y e, first = some (.filled x d) ∧ last = some (.filled y e)) → framePresence ch cur frame = .onHand .audio) ∧
         ((∃ x, first = some (.concealed x) ∨ last = some (.concealed x)) → framePresence ch cur frame = .onHand .concealed) ∧
         (first = none → last = none → framePresence ch cur frame = .absent) ∧
         ∀ source, inputSample ch cur frame source = signedValue (8 * cur.sampleBytes) (leNat ((List.range cur.sampleBytes).map fun k =>
           let at' := q * cur.frameBytes + source * cur.sampleBytes + k
           match ch.bufferFor run.start (at' / 65536) with
           | some (.filled _ data) => data.getD (at' % 65536) 0
           | _ => 0))) ∧
  (∀ (s : State) (c : ChannelId) cur, (s.channel c).current = some cur → (s.channel c).message = none →
     (nextMessage (s.channel c) cur = none → assemble c s = s) ∧
     ∀ kinds, nextMessage (s.channel c) cur = some kinds →
       assemble c s = s.setChannel c { s.channel c with
         message := some (buildMessage (s.channel c) cur kinds)
         wait := if s.creditOf c = 0 ∧ s.timing.collection ≠ 0 then some (s.timing.collection * 100) else none })

/-! ### Start-up and format -/

/-- WALK_HEADER_READ (R120, R144, R147, R149): the whole header is read, and whatever of it can be corrected is written back, also where
another word of it is lost (logs 7 and 8). With a sound header the mirrored groups are added to the latches, the words corrected are counted
as repairs, and the walk stands at slot 0; with a word lost, or a marker that is not VALID, the walk ends at once OFFLINE with every group
whose line is high latched, no mirror write, WALK_DONE and CATALOGUE_OFFLINE raised and the fault time at 0. -/
def Obligations.HeaderReadBeginsOrEndsTheWalk : Prop :=
  ∀ s : State, s.engine.condition = .walkHeader →
    let h := s.memory.header
    let readHeader := { h with markerWords := h.markerWords.afterRead, mirrorWords := h.mirrorWords.afterRead }
    (h.valid = true → h.markerWords.lost = false → h.mirrorWords.lost = false →
      ∃ t, exec .walkHeaderRead s = .next t ∧ t.engine.condition = .walking 0 ∧
        t.hold = { s.hold with latches := s.hold.latches ||| h.mirror } ∧
        t.memory.header = readHeader ∧ readHeader.markerWords = .clean ∧ readHeader.mirrorWords = .clean ∧
        t.engine.walk = { s.engine.walk with repaired := s.engine.walk.repaired + (h.markerWords.damaged + h.mirrorWords.damaged) } ∧
        t.memory.records = s.memory.records ∧ t.engine.directory = s.engine.directory ∧
        t.engine.freeStack = s.engine.freeStack ∧ t.engine.faulted = s.engine.faulted ∧ t.attention = s.attention ∧
        t.ports = s.ports ∧ t.channels = s.channels ∧ t.pinTable = s.pinTable ∧ t.store = s.store) ∧
    (h.valid = false ∨ h.markerWords.lost = true ∨ h.mirrorWords.lost = true →
      ∃ t, exec .walkHeaderRead s = .next t ∧ t.engine.condition = .offline ∧
        t.hold = { s.hold with latches := s.hold.latches ||| s.hold.lines } ∧
        hasCause t.attention.flags .walkDone = true ∧ hasCause t.attention.flags .catalogueOffline = true ∧
        t.attention.offline = true ∧ t.attention.faultTime = 0 ∧ t.memory.header = readHeader ∧
        (∀ p, (s.port p).role = .control →
          Reached (.walkDone .walk true s.engine.freeStack.length WalkCounts.zero t.hold.latches) p t) ∧
        t.memory.records = s.memory.records ∧ t.engine.directory = s.engine.directory ∧
        t.engine.freeStack = s.engine.freeStack ∧ t.engine.faulted = s.engine.faulted ∧
        t.channels = s.channels ∧ t.pinTable = s.pinTable ∧ t.store = s.store)

/-- WALK_SLOT places its slot by the first row that applies (R144, R148): flagged and left unlinked, put on the free slot stack, its state
alone written FREE and the slot put on the stack, or linked at the head of its key's chain, where the key is found nowhere, and also where
its lookup ends not found, faulted. Of a record in REVIEW or RELEASED every word is read, and of any other the state alone; each word that
can be corrected is written back and counted as a repair, also beside one that is lost (logs 7 and 8), and no fault is reported. A linked
slot whose key the lookup finds lost is flagged and counted among the linked slots found faulted. -/
def Obligations.WalkPlacesEachSlot : Prop :=
  ∀ (s : State) (x : Slot), s.engine.condition = .walking x.val →
    let r := s.record x
    let e := s.engine
    let placedWith := fun (records : Slot → Record) (engine : Engine) =>
      ∃ t, exec .walkSlot s = .next t ∧ WalkPlaced s t x records engine
    let placed := fun (record : Record) => placedWith fun z => if z = x then record else s.record z
    let flagged := fun (n : WalkCounts) =>
      { e with faulted := slotInsert x e.faulted, walk := { n with faultedUnlinked := n.faultedUnlinked + 1 } }
    let stacked := fun (n : WalkCounts) => { e with freeStack := x :: e.freeStack, walk := n }
    let linked := fun (n : WalkCounts) => { e.link r.key.bucket x with walk := { n with linked := n.linked + 1 } }
    let one : WalkCounts := { e.walk with repaired := e.walk.repaired + r.repairs [.state] }
    let all : WalkCounts := { e.walk with repaired := e.walk.repaired + r.repairs recordWords }
    ((r.condition .state).lost = true → placed (r.repair [.state]) (flagged one)) ∧
    ((r.condition .state).lost = false →
      (r.state = .free → placed (r.repair [.state]) (stacked one)) ∧
      (r.state = .retiring →
        placed { r.repair [.state] with state := .free } (stacked { one with retirements := one.retirements + 1 })) ∧
      (∀ code, r.state = .other code → placed (r.repair [.state]) (flagged one)) ∧
      (r.state = .review ∨ r.state = .released →
        ((∃ w, (r.condition w).lost = true) → placed (r.repair recordWords) (flagged all)) ∧
        ((∀ w, (r.condition w).lost = false) →
          (r.faultyPart.isSome = true → placed (r.repair recordWords) (flagged all)) ∧
          (r.faultyPart = none →
            ((∃ y, KeyFoundAt s r.key y) →
              placed (r.repair recordWords) (flagged { all with duplicates := all.duplicates + 1 })) ∧
            (NotThere s r.key ∨ NotThereFaulted s r.key → placed (r.repair recordWords) (linked all)) ∧
            ∀ y, LostOnTheWay s r.key y →
              let found : WalkCounts := { all with repaired := all.repaired + ((s.record y).condition .key).damaged }
              placedWith (fun z => if z = x then r.repair recordWords else if z = y then (s.record y).corrected .key else s.record z)
                { linked found with
                  faulted := slotInsert y e.faulted
                  walk := { found with linked := found.linked - 1 + 1, faultedLinked := found.faultedLinked + 1 } }))))

/-- WALK_END after the last slot and FORMAT_COMPLETE (R149, R153): the catalogue is ready; the free slot stack is in rising order (after
a walk the same slots, after a format all of them); every group whose line is high is latched; a mirror write is presented where R149 and
R153 say; WALK_DONE is raised, the fault time is 0, and WALK_DONE reaches every CONTROL port with the counts. -/
def Obligations.WalkAndFormatEnd : Prop :=
  ∀ s : State,
    (∀ n, s.engine.condition = .walking n → 65536 ≤ n →
      ∃ t, exec .walkEnd s = .next t ∧ t.engine.condition = .ready ∧ t.engine.freeStack.Perm s.engine.freeStack ∧
        (t.engine.freeStack.Pairwise fun x y => x ≤ y) ∧ t.engine.directory = s.engine.directory ∧
        t.engine.faulted = s.engine.faulted ∧ t.memory = s.memory ∧ t.channels = s.channels ∧ t.pinTable = s.pinTable ∧
        t.hold.latches = s.hold.latches ||| s.hold.lines ∧
        (t.hold.mirrorWaiting = true ↔ s.hold.mirrorWaiting = true ∨ t.hold.latches ≠ s.memory.header.mirror) ∧
        hasCause t.attention.flags .walkDone = true ∧ t.attention.offline = false ∧ t.attention.faultTime = 0 ∧
        (∀ p, (s.port p).role = .control →
          Reached (.walkDone .walk false s.engine.freeStack.length s.engine.walk t.hold.latches) p t) ∧
        ∀ p, (s.port p).role ≠ .control → t.port p = s.port p) ∧
    (∀ p v, s.engine.condition = .formatting p → Serves s p v .formatCatalogue →
      ∃ t, exec .formatComplete s = .next t ∧ t.engine.condition = .ready ∧ t.engine.freeStack = List.finRange 65536 ∧
        t.engine.directory = [] ∧ t.engine.faulted = [] ∧ t.memory.records = s.memory.records ∧ t.channels = s.channels ∧
        t.pinTable = s.pinTable ∧
        t.memory.header = { valid := true, mirror := 0, markerWords := .clean, mirrorWords := .clean } ∧
        t.hold.latches = s.hold.latches ||| s.hold.lines ∧
        (t.hold.mirrorWaiting = true ↔ s.hold.mirrorWaiting = true ∨ t.hold.latches ≠ 0) ∧
        hasCause t.attention.flags .walkDone = true ∧ t.attention.offline = false ∧ t.attention.faultTime = 0 ∧
        (t.port p).service = none ∧
        (t.port p).replies = (s.port p).replies ++ [{ kind := v.kind, tag := v.tag, code := .ok, fields := [] }] ∧
        ∀ q, (s.port q).role = .control →
          Reached (.walkDone .format false 65536 WalkCounts.zero t.hold.latches) q t)

/-- FORMAT_CATALOGUE's grant (R16, R153): with an engagement it is refused ITEM_IN_USE and changes nothing else; with none, the pins and
latches are cleared, the marker is not VALID, every record is FREE, the arbiter holds no job, the request stays in service, and the
catalogue jobs of the other ports that still wait are answered STARTING as the format begins: the model's choice of the moment (log 12). -/
def Obligations.FormatBegins : Prop :=
  ∀ p v s, Serves s p v .formatCatalogue → s.starting = false → s.arbiter.serving = some p.val →
    (s.engagedCount ≠ 0 →
      exec (.formatCatalogue p) s = .next (jobAnswered p v .itemInUse [.u8 s.engagedCount] s)) ∧
    (s.engagedCount = 0 →
      ∃ t, exec (.formatCatalogue p) s = .next t ∧ t.engine.condition = .formatting p ∧ t.pinTable.pins = [] ∧
        t.pinTable.prescaler = s.pinTable.prescaler ∧ t.hold = { s.hold with latches := 0 } ∧
        t.memory.header.valid = false ∧ (∀ x, t.record x = Record.freed) ∧ t.channels = s.channels ∧
        t.attention = s.attention ∧ t.store = s.store ∧ t.port p = s.port p ∧ t.arbiter.serving = none ∧
        ∀ q w, q ≠ p → (s.port q).service = some w →
          if w.request.presentsJob then t.port q = (answered q w .starting [] s).port q else t.port q = s.port q)

/-! ### Items -/

/-- A request that needs an existing item, once its field checks pass and it is granted, is refused NO_ITEM where the lookup ends not
found, and FAULTED where it ends not found, faulted, with nothing else done; FIND_ITEM and DESCRIBE_ITEM then carry the bucket's faulted
slots (R8, R19, R20, R26, R42). -/
def Obligations.RequestsForAnAbsentItem : Prop :=
  ∀ p v r s key, Serves s p v r → Grants s p.val → r.seeks = some key →
    (NotThere s key → exec (r.command p) s = .next (jobAnswered p v .noItem [] s)) ∧
    (NotThereFaulted s key → ∃ fields, exec (r.command p) s = .next (jobAnswered p v .faulted fields s) ∧
      fields = match r with
        | .findItem _ | .describeItem _ =>
          .u32 (s.faultedInBucket key).length :: .u8 (min 8 (s.faultedInBucket key).length) ::
            ((s.faultedInBucket key).take 8).map fun x => .u16 x.val
        | _ => [])

/-- ENTER_ITEM (R17, R18): BAD_FIELD, DUPLICATE, FAULTED and CATALOGUE_FULL in this order; and else the number on top of the free slot
stack is taken, its record is written in REVIEW with the fields given, no passes, no holds and one GAP segment over [0, L), and the slot
is linked at the head of its key's chain. That the retiring port is written too, as 0 and with a sound
word, is the model's choice (log 2). -/
def Obligations.EnterItem : Prop :=
  ∀ p v s key rate channels sampleBytes length, Serves s p v (.enterItem key rate channels sampleBytes length) → Grants s p.val →
    let legal := formatLegal rate.toNat channels.toNat sampleBytes.toNat length.toNat
    let answer := fun code => exec (.enterItem p) s = .next (jobAnswered p v code [] s)
    (legal = false → answer .badField) ∧
    (legal = true → (∃ x, FoundAt s key x) → answer .duplicate) ∧
    (legal = true → NotThereFaulted s key → answer .faulted) ∧
    (legal = true → NotThere s key → s.engine.freeStack = [] → answer .catalogueFull) ∧
    (legal = true → NotThere s key → ∀ x rest, s.engine.freeStack = x :: rest →
      ∃ t, exec (.enterItem p) s = .next t ∧
        t.record x =
          { key := key, state := .review, rate := rate.toNat, channels := channels.toNat, sampleBytes := sampleBytes.toNat,
            frameBytes := channels.toNat * sampleBytes.toNat, length := length.toNat, groups := 0, itemHold := 0,
            retiringPort := 0, passes := Vector.replicate 4 { state := .empty, owner := 0, length := 0, extents := [] },
            rendition := [{ start := 0, length := length.toNat, source := .gap }], words := Vector.replicate 10 .clean } ∧
        (∀ y, y ≠ x → t.record y = s.record y) ∧ t.memory.header = s.memory.header ∧ t.engine.freeStack = rest ∧
        t.engine.chain key.bucket = x :: s.engine.chain key.bucket ∧
        (∀ b, b ≠ key.bucket → t.engine.chain b = s.engine.chain b) ∧ t.engine.faulted = s.engine.faulted ∧
        t.ports = (answered p v .ok [.u16 x.val] s).ports ∧ t.channels = s.channels ∧ t.hold = s.hold ∧
        t.pinTable = s.pinTable ∧ t.store = s.store ∧ t.attention = s.attention)

/-- FIND_ITEM and DESCRIBE_ITEM of an item found intact report it and change nothing: the slot, the state, whether it is held (R4), the
engaged count, the pin count and the faulted slots of the bucket (R19); or the slot and the record image (R20).
A corrected word (R143, R144): where no group of words that a granted FIND_ITEM needs has a lost one, it answers from the record as it
stands; each of those words that could be corrected is written back clean, no other word or record changes, and RECORD_REPAIRED is raised.
A record fault (R9, R144, R146): a lost word that a granted FIND_ITEM needs refuses it FAULTED with the bucket's faulted slots, the slot now
among them, and the slot is flagged and stays linked; RECORD_FAULT is raised, and sent to every CONTROL port; and nothing else of the
catalogue changes but that the words read that could be corrected are written back, with RECORD_REPAIRED raised. That words past or beside
the lost one are read is the model's reading (log 8), and which words stand together, and that 01h is set, its choices (logs 7 and 27). -/
def Obligations.FindDescribeAndRecordFault : Prop :=
  (∀ p v s key x, Grants s p.val → FoundAt s key x →
     let r := s.record x
     (Serves s p v (.findItem key) →
       exec (.findItem p) s = .next (jobAnswered p v .ok
         [.u16 x.val, .u8 r.state.code.toNat,
           Field.flag (decide (r.itemHold = 1 ∨ groupsOf r.groups &&& s.hold.latches ≠ 0)), .u8 (s.engagements x),
           .u8 (s.pinsOn x), .u32 ((s.engine.chain key.bucket).filter fun y => s.isFaulted y).length] s)) ∧
     (Serves s p v (.describeItem key) →
       exec (.describeItem p) s = .next (jobAnswered p v .ok [.u16 x.val, .bytes r.image] s))) ∧
  (∀ p v s key x, Serves s p v (.findItem key) → Grants s p.val → KeyFoundAt s key x →
     let r := s.record x
     ((r.condition .state).lost = false → (r.condition .holds).lost = false →
       ∃ t, exec (.findItem p) s = .next t ∧ (∀ y, y ≠ x → t.record y = s.record y) ∧ t.memory.header = s.memory.header ∧
         t.record x = r.repair [.state, .holds] ∧ t.record x = { r with words := (t.record x).words } ∧
         (t.record x).condition .state = .clean ∧ (t.record x).condition .holds = .clean ∧
         (∀ w, w ≠ .state → w ≠ .holds → (t.record x).condition w = r.condition w) ∧
         (1 ≤ r.repairs [.state, .holds] → hasCause t.attention.flags .recordRepaired = true) ∧
         (r.repairs [.state, .holds] = 0 → t.attention = s.attention ∧ t.memory = s.memory) ∧
         t.ports = (answered p v .ok
           [.u16 x.val, .u8 r.state.code.toNat,
             Field.flag (decide (r.itemHold = 1 ∨ groupsOf r.groups &&& s.hold.latches ≠ 0)), .u8 (s.engagements x),
             .u8 (s.pinsOn x), .u32 ((s.engine.chain key.bucket).filter fun y => s.isFaulted y).length] s).ports ∧
         t.engine = s.engine ∧ t.channels = s.channels ∧ t.hold = s.hold ∧ t.pinTable = s.pinTable ∧ t.store = s.store) ∧
     ((r.condition .state).lost = true ∨ (r.condition .holds).lost = true →
       ∃ t, exec (.findItem p) s = .next t ∧ FaultReported s t x (.port p) .fixedFields ∧
         t.record x = r.repair [.state, .holds] ∧ (∀ y, y ≠ x → t.record y = s.record y) ∧ t.memory.header = s.memory.header ∧
         (1 ≤ r.repairs [.state, .holds] → hasCause t.attention.flags .recordRepaired = true) ∧
         (r.repairs [.state, .holds] = 0 → t.memory = s.memory) ∧
         (t.port p).replies =
           (s.port p).replies ++ [{ kind := v.kind, tag := v.tag, code := .faulted, fields := bucketFields key t }] ∧
         t.channels = s.channels ∧ t.hold = s.hold ∧ t.pinTable = s.pinTable ∧ t.store = s.store))

/-- SPLICE of an item found intact in REVIEW (R43 to R47): BAD_FIELD for a field at fault; OUT_OF_RANGE for a range not within [0, L) or
beyond the pass; WRONG_STATE where the item is not in REVIEW or the pass is not COMPLETE; LIST_FULL where the merged list exceeds 32
segments; and else the merged list is written as the rendition, and the reply carries the counts before and after and the index of the
segment that contains frame a. -/
def Obligations.Splice : Prop :=
  ∀ p v s key a b kind pass offset, Serves s p v (.splice key a b kind pass offset) → Grants s p.val →
    (¬ (kind = 0 ∨ kind = 1 ∧ pass.toNat < 4) →
      exec (.splice p) s = .next (jobAnswered p v .badField [] s)) ∧
    ∀ x, FoundAt s key x →
      let r := s.record x
      let answer := fun code => exec (.splice p) s = .next (jobAnswered p v code [] s)
      let serve := fun source : Source =>
        let list := splicedList r.rendition { start := a.toNat, length := b.toNat - a.toNat, source := source }
        (32 < list.length → answer .listFull) ∧
        (list.length ≤ 32 →
          exec (.splice p) s = .next (jobAnswered p v .ok
            [.u8 r.rendition.length, .u8 list.length, .u8 (list.findIdx fun g => decide (g.start ≤ a.toNat ∧ a.toNat < g.stop))]
            (s.writeRecord x { r with rendition := list })))
      (kind = 0 ∨ kind = 1 ∧ pass.toNat < 4 → r.state ≠ .review → answer .wrongState) ∧
      (kind = 0 ∨ kind = 1 ∧ pass.toNat < 4 → r.state = .review → ¬ (a.toNat < b.toNat ∧ b.toNat ≤ r.length) →
        answer .outOfRange) ∧
      (r.state = .review → a.toNat < b.toNat → b.toNat ≤ r.length →
        (kind = 0 → serve .gap) ∧
        (kind = 1 → ∀ i : Fin 4, pass.toNat = i.val →
          ((r.pass i).state ≠ .complete → answer .wrongState) ∧
          ((r.pass i).state = .complete → (r.pass i).length < offset.toNat + (b.toNat - a.toNat) → answer .outOfRange) ∧
          ((r.pass i).state = .complete → offset.toNat + (b.toNat - a.toNat) ≤ (r.pass i).length →
            serve (.pass i.val offset.toNat))))

/-- RELEASE_ITEM and REOPEN_ITEM of an item found intact (R52, R53): the refusals in their order, each with the value it carries, and
else the state alone is written. -/
def Obligations.ReleaseAndReopen : Prop :=
  ∀ p v s key x, Grants s p.val → FoundAt s key x →
    let r := s.record x
    let answer := fun i code fields => exec i s = .next (jobAnswered p v code fields s)
    (Serves s p v (.releaseItem key) →
      (r.state = .review ∧ r.rendition.any Segment.isPass = true →
        exec (.releaseItem p) s = .next (jobAnswered p v .ok [.u8 r.rendition.length, .u32 (gapFrames r.rendition)]
          (s.writeRecord x { r with state := .released }))) ∧
      (¬ (r.state = .review ∧ r.rendition.any Segment.isPass = true) →
        answer (.releaseItem p) .wrongState [.u8 r.state.code.toNat])) ∧
    (Serves s p v (.reopenItem key) →
      (r.state ≠ .released → answer (.reopenItem p) .wrongState []) ∧
      (r.state = .released → s.pinsOn x ≠ 0 → answer (.reopenItem p) .pinned [.u8 (s.pinsOn x)]) ∧
      (r.state = .released → s.pinsOn x = 0 → s.engagements x ≠ 0 →
        answer (.reopenItem p) .itemInUse [.u8 (s.engagements x)]) ∧
      (r.state = .released → s.pinsOn x = 0 → s.engagements x = 0 →
        exec (.reopenItem p) s = .next (jobAnswered p v .ok [] (s.writeRecord x { r with state := .review }))))

/-- OPEN_PASS and CLOSE_PASS of an item found intact (R27, R30, R31): the refusals in their order; else OPEN_PASS writes the
lowest-indexed EMPTY entry OPEN for the requesting port, and CLOSE_PASS makes the entry COMPLETE with the length given, its extents and
owner unchanged. -/
def Obligations.OpenAndClosePass : Prop :=
  ∀ p v s key x, Grants s p.val → FoundAt s key x →
    let r := s.record x
    let answer := fun i code => exec i s = .next (jobAnswered p v code [] s)
    let write := fun (i : Fin 4) e => s.writeRecord x { r with passes := rowSet r.passes i e }
    (Serves s p v (.openPass key) →
      (r.state ≠ .review → r.state ≠ .released → answer (.openPass p) .wrongState) ∧
      (r.state = .review ∨ r.state = .released →
        ((∀ i, (r.pass i).state ≠ .empty) → answer (.openPass p) .listFull) ∧
        ∀ i, (r.pass i).state = .empty → (∀ j, j < i → (r.pass j).state ≠ .empty) →
          exec (.openPass p) s = .next (jobAnswered p v .ok [.u8 i.val]
            (write i { state := .opened, owner := p.val, length := 0, extents := [] })))) ∧
    ∀ (pass : Byte) (length : BitVec 32), Serves s p v (.closePass key pass length) →
      (¬ (pass.toNat < 4 ∧ 1 ≤ length.toNat) → answer (.closePass p) .badField) ∧
      ∀ i : Fin 4, pass.toNat = i.val → 1 ≤ length.toNat →
        let e := r.pass i
        (e.state ≠ .opened → answer (.closePass p) .wrongState) ∧
        (e.state = .opened → e.owner ≠ p.val → answer (.closePass p) .notOwner) ∧
        (e.state = .opened → e.owner = p.val →
          (blockTotal e.extents * 65536 < length.toNat * r.frameBytes → answer (.closePass p) .shortPass) ∧
          (length.toNat * r.frameBytes ≤ blockTotal e.extents * 65536 →
            exec (.closePass p) s = .next (jobAnswered p v .ok
              [.u8 i.val, .u32 length.toNat, .u32 (blockTotal e.extents),
                .u32 ((length.toNat * r.frameBytes + 65535) / 65536)]
              (write i { e with state := .complete, length := length.toNat }))))

/-- ADD_EXTENT and WITHDRAW_PASS of an item found intact (R28, R29, R32, R33): the refusals in their order; else ADD_EXTENT appends the
extent, and WITHDRAW_PASS writes the entry EMPTY and hands back its extents, after a count byte of their own (log 9). -/
def Obligations.ExtentsAndWithdrawal : Prop :=
  ∀ p v s key x (pass : Byte), Grants s p.val → FoundAt s key x →
    let r := s.record x
    let answer := fun i code => exec i s = .next (jobAnswered p v code [] s)
    let write := fun (i : Fin 4) e => s.writeRecord x { r with passes := rowSet r.passes i e }
    (∀ (start : BitVec 32) (count : BitVec 16), Serves s p v (.addExtent key pass start count) →
      (¬ (pass.toNat < 4 ∧ 1 ≤ count.toNat ∧ start.toNat + count.toNat ≤ 4294967296) → answer (.addExtent p) .badField) ∧
      ∀ i : Fin 4, pass.toNat = i.val → 1 ≤ count.toNat → start.toNat + count.toNat ≤ 4294967296 →
        let e := r.pass i
        let n : Extent := { start := start.toNat, count := count.toNat }
        (e.state ≠ .opened → answer (.addExtent p) .wrongState) ∧
        (e.state = .opened → e.owner ≠ p.val → answer (.addExtent p) .notOwner) ∧
        (e.state = .opened → e.owner = p.val →
          (16 ≤ e.extents.length → answer (.addExtent p) .listFull) ∧
          (e.extents.length < 16 →
            ((∃ y ∈ e.extents, n.start < y.start + y.count ∧ y.start < n.start + n.count) → answer (.addExtent p) .overlap) ∧
            ((∀ y ∈ e.extents, ¬ (n.start < y.start + y.count ∧ y.start < n.start + n.count)) →
              exec (.addExtent p) s = .next (jobAnswered p v .ok
                [.u8 i.val, .u8 (e.extents.length + 1), .u32 (blockTotal e.extents + n.count)]
                (write i { e with extents := e.extents ++ [n] })))))) ∧
    (Serves s p v (.withdrawPass key pass) →
      (4 ≤ pass.toNat → answer (.withdrawPass p) .badField) ∧
      ∀ i : Fin 4, pass.toNat = i.val →
        let e := r.pass i
        let mayWithdraw := e.owner = p.val ∨ v.role = .catalogue ∨ v.role = .control
        let live := e.state = .opened ∨ e.state = .complete
        let named := r.rendition.any fun g => g.names i.val
        (¬ live → answer (.withdrawPass p) .wrongState) ∧
        (live → ¬ mayWithdraw → answer (.withdrawPass p) .notOwner) ∧
        (live → mayWithdraw → named = true → answer (.withdrawPass p) .passInUse) ∧
        (live → mayWithdraw → named = false → s.engagements x ≠ 0 → answer (.withdrawPass p) .itemInUse) ∧
        (live → mayWithdraw → named = false → s.engagements x = 0 →
          exec (.withdrawPass p) s = .next (jobAnswered p v .ok
            ([.u8 i.val, .u8 e.extents.length, .u32 (blockTotal e.extents)] ++ extentFields e.extents)
            (write i { state := .empty, owner := 0, length := 0, extents := [] }))))

/-- RETIRE_ITEM of an item found intact (R137, R138, R139): the refusals in their order; an item that no channel engages is freed: its
record is written FREE, the rendition written and the pass entries left, which is the model's inference (log 2), its slot leaves its chain,
the other slots of every chain keeping their order, and is pushed on the stack; and an engaged item becomes RETIRING with the requesting
port as its retiring port, and stays linked. -/
def Obligations.RetireItem : Prop :=
  ∀ p v s key x, Serves s p v (.retireItem key) → Grants s p.val → FoundAt s key x →
    let r := s.record x
    let answer := fun code fields => exec (.retireItem p) s = .next (jobAnswered p v code fields s)
    let live := r.state = .review ∨ r.state = .released
    (¬ live → answer .wrongState [.u8 r.state.code.toNat]) ∧
    (live → s.pinsOn x ≠ 0 → answer .pinned [.u8 (s.pinsOn x)]) ∧
    (live → s.pinsOn x = 0 → ∀ i, (r.pass i).state = .opened → (∀ j, j < i → (r.pass j).state ≠ .opened) →
      answer .passOpen [.u8 i.val]) ∧
    (live → s.pinsOn x = 0 → (∀ i, (r.pass i).state ≠ .opened) → s.engagements x ≠ 0 →
      exec (.retireItem p) s = .next (jobAnswered p v .deferred [.u16 x.val, .u8 (s.engagements x)]
        (s.writeRecord x { r with state := .retiring, retiringPort := p.val }))) ∧
    (live → s.pinsOn x = 0 → (∀ i, (r.pass i).state ≠ .opened) → s.engagements x = 0 →
      ∃ t, exec (.retireItem p) s = .next t ∧ t.record x = { r with state := .free, rendition := [] } ∧
        (∀ y, y ≠ x → t.record y = s.record y) ∧ t.memory.header = s.memory.header ∧ t.engine.freeStack = x :: s.engine.freeStack ∧
        (SparseWf [] s.engine.directory → ∀ b, t.engine.chain b = (s.engine.chain b).filter fun y => y ≠ x) ∧
        t.engine.faulted = s.engine.faulted ∧
        t.ports = (answered p v .ok
          [.u16 x.val, .u8 (r.passes.toList.countP fun e => e.state ≠ .empty),
            .u8 (r.passes.toList.map fun e => e.extents.length).sum,
            .u32 (r.passes.toList.map fun e => blockTotal e.extents).sum] s).ports ∧
        t.channels = s.channels ∧ t.hold = s.hold ∧ t.pinTable = s.pinTable ∧ t.store = s.store ∧ t.attention = s.attention)

/-! ### Holds -/

/-- HOLD_ITEM, LIFT_ITEM and SET_GROUPS of an item found intact (R124, R125): a hold already set stays, a hold already clear is refused
NOT_HELD, and a set that names no subset of the four groups is refused BAD_FIELD; else the hold fields of the record are written. Where no
channel engages the item, nothing else changes; the premise that no grant of a read slot is due is the law that `NoStepLeavesAGrantDue`
keeps. Where channels engage it (R15, R126 to R129), the copy in each of them is brought up to date and the hold unit judges it: a
channel that meets no cutoff event keeps everything but its copy, one that meets one is cut by its behaviour, and no other channel
changes. That the item hold is 01h where it is set, and a reply's byte 01h for yes, is the model's choice (log 27). -/
def Obligations.ItemHolds : Prop :=
  ∀ p v s key x, Grants s p.val → FoundAt s key x →
    let r := s.record x
    let held := fun (groups itemHold : Byte) => Field.flag (decide (itemHold = 1 ∨ groupsOf groups &&& s.hold.latches ≠ 0))
    let written := fun i (groups itemHold : Byte) (fields : List Machine.Field) =>
      (s.engagements x = 0 → NoGrantDue s →
        exec i s = .next (jobAnswered p v .ok fields (s.writeRecord x { r with groups := groups, itemHold := itemHold }))) ∧
      ∃ t, exec i s = .next t ∧ t.record x = { r with groups := groups, itemHold := itemHold } ∧
        (∀ y, y ≠ x → t.record y = s.record y) ∧ t.memory.header = s.memory.header ∧ t.engine = s.engine ∧ t.hold = s.hold ∧
        t.pinTable = s.pinTable ∧ t.timing = s.timing ∧ (t.port p).service = none ∧
        (t.port p).replies = (s.port p).replies ++ [{ kind := v.kind, tag := v.tag, code := .ok, fields := fields }] ∧
        ∀ c, (s.engagedSlot c ≠ some x → t.channel c = s.channel c) ∧
          (s.engagedSlot c = some x →
            let ch : Channel := { s.channel c with
              current := (s.channel c).current.map fun cur => { cur with groups := groups, itemHold := itemHold } }
            (ch.current = none ∨ ch.cutoff = .ignore ∨
                (∃ cur, ch.current = some cur ∧ (cur.muted = true ∨ cur.held s.hold.latches = false)) → t.channel c = ch) ∧
              ∀ cur, ch.current = some cur → cur.muted = false → cur.held s.hold.latches = true →
                CutEffect s.store.requests ch cur s.hold.latches c t)
    (Serves s p v (.holdItem key) →
      (r.itemHold = 1 → exec (.holdItem p) s = .next (jobAnswered p v .ok [Field.flag false, Field.flag true] s)) ∧
      (r.itemHold ≠ 1 → written (.holdItem p) r.groups 1 [Field.flag true, Field.flag true])) ∧
    (Serves s p v (.liftItem key) →
      (r.itemHold ≠ 1 → exec (.liftItem p) s = .next (jobAnswered p v .notHeld [] s)) ∧
      (r.itemHold = 1 → written (.liftItem p) r.groups 0 [held r.groups 0])) ∧
    ∀ set : Byte, Serves s p v (.setGroups key set) →
      (16 ≤ set.toNat → exec (.setGroups p) s = .next (jobAnswered p v .badField [] s)) ∧
      (set.toNat < 16 → written (.setGroups p) set r.itemHold [.u8 r.groups.toNat, .u8 set.toNat, held set r.itemHold])

/-- A group that becomes latched, by HOLD_GROUP or by a rising edge of its line (R121, R123, R126 to R129): the latch is set, a mirror
write is presented and HOLD_CHANGED reaches every CONTROL port; a channel with no current cue, with an item that is not held, under
IGNORE, or muted already, is left as it is; a channel under STOP becomes CUT with its queue kept, CUE_ENDED and then CHANNEL_CUT sent; one
under SKIP loses its cue and goes on as its state gives; one under MUTE that plays takes the cutoff mark, where its cue has frames still
due; one under MUTE in STOPPING ends its cue CUT once no read is in flight and no resolution awaits its answer, and until then stays in
STOPPING with the mark; and a remainder under MUTE or SKIP ends CUT, its channel staying STOPPED. The flag of HOLD_GROUP's OK reply reads
yes: the model's choice, as is its code (log 27). -/
def Obligations.LatchingCutsHeldChannels : Prop :=
  ∀ (s : State) (i : Instr) (g : GroupId), hasGroup s.hold.latches g = false →
    ((∃ p v b, i = .holdGroup p ∧ Serves s p v (.holdGroup b) ∧ b.toNat = g.val) ∨
      i = .holdLineRise g ∧ hasGroup s.hold.lines g = false) →
    ∃ t, exec i s = .next t ∧ t.hold.latches = s.hold.latches ||| groupBit g ∧ t.hold.mirrorWaiting = true ∧
      (∀ p v b, i = .holdGroup p → Serves s p v (.holdGroup b) →
        t.hold.lines = s.hold.lines ∧ (t.port p).service = none ∧
          (t.port p).replies =
            (s.port p).replies ++ [{ kind := v.kind, tag := v.tag, code := .ok, fields := [Field.flag true] }] ∧
          ∀ q, (s.port q).role = .control → Reached (.holdChanged g true .holdGroup (some p)) q t) ∧
      (i = .holdLineRise g → t.hold.lines = s.hold.lines ||| groupBit g ∧
        (s.inWalk = false → hasCause t.attention.flags .holdLine = true) ∧
        ∀ q, (s.port q).role = .control → Reached (.holdChanged g true .line none) q t) ∧
      t.memory = s.memory ∧ t.engine = s.engine ∧ t.pinTable = s.pinTable ∧ t.timing = s.timing ∧
      ∀ c, ((s.channel c).current = none ∨ (s.channel c).cutoff = .ignore ∨
          (∃ cur, (s.channel c).current = some cur ∧ (cur.muted = true ∨ cur.held t.hold.latches = false)) →
          t.channel c = s.channel c) ∧
        ∀ cur, (s.channel c).current = some cur → cur.muted = false → cur.held t.hold.latches = true →
          CutEffect s.store.requests (s.channel c) cur t.hold.latches c t

/-- The group requests and edges that latch nothing (R121, R123): HOLD_GROUP and a rising edge on a latched group, the outcomes of
LIFT_GROUP in the order of its table, and a falling edge, which changes no latch; a group number above 3 is refused BAD_FIELD.
That a rise of a line already high and a fall of a line already low do nothing is the model's choice (log 1), as is the flag of
HOLD_GROUP's OK reply (log 27). -/
def Obligations.LiftsAndFallingEdges : Prop :=
  ∀ (s : State) (g : GroupId),
    (∀ p v b, b.toNat = g.val →
      (Serves s p v (.holdGroup b) → hasGroup s.hold.latches g = true →
        exec (.holdGroup p) s = .next (answered p v .ok [Field.flag false] s)) ∧
      (Serves s p v (.liftGroup b) →
        (hasGroup s.hold.latches g = false → exec (.liftGroup p) s = .next (answered p v .notHeld [] s)) ∧
        (hasGroup s.hold.latches g = true → hasGroup s.hold.lines g = true →
          exec (.liftGroup p) s = .next (answered p v .lineAsserted [] s)) ∧
        (hasGroup s.hold.latches g = true → hasGroup s.hold.lines g = false →
          ∃ t, exec (.liftGroup p) s = .next t ∧
            t.hold = { s.hold with latches := s.hold.latches &&& ~~~groupBit g, mirrorWaiting := true } ∧
            (t.port p).service = none ∧
            (t.port p).replies = (s.port p).replies ++ [{ kind := v.kind, tag := v.tag, code := .ok, fields := [] }] ∧
            (∀ q, (s.port q).role = .control → Reached (.holdChanged g false .liftGroup (some p)) q t) ∧
            t.channels = s.channels ∧ t.memory = s.memory ∧ t.engine = s.engine ∧ t.store = s.store ∧ t.pinTable = s.pinTable))) ∧
    (∀ p v b, 4 ≤ b.toNat →
      (Serves s p v (.holdGroup b) → exec (.holdGroup p) s = .next (answered p v .badField [] s)) ∧
      (Serves s p v (.liftGroup b) → exec (.liftGroup p) s = .next (answered p v .badField [] s))) ∧
    (hasGroup s.hold.lines g = false → hasGroup s.hold.latches g = true →
      exec (.holdLineRise g) s = .next (raiseCause .holdLine { s with hold := { s.hold with lines := s.hold.lines ||| groupBit g } })) ∧
    (hasGroup s.hold.lines g = true →
      exec (.holdLineFall g) s =
        .next (raiseCause .holdLine { s with hold := { s.hold with lines := s.hold.lines &&& ~~~groupBit g } }) ∧
      exec (.holdLineRise g) s = .next s) ∧
    (hasGroup s.hold.lines g = false → exec (.holdLineFall g) s = .next s)

/-- MIRROR_WRITE, when the arbiter has granted the hold unit (R15, R16, R122, R145): the header takes the four latches as they stand, with a
sound word, nothing else changes, and the engine is free for the next job; while the catalogue is OFFLINE the job ends without writing; and
it waits while it is not granted. -/
def Obligations.MirrorWrite : Prop :=
  ∀ s : State,
    (s.arbiter.serving = some holdPosition →
      (s.engine.condition ≠ .offline →
        exec .mirrorWrite s = .next (finishJob { s with
          hold := { s.hold with mirrorWaiting := false }
          memory := { s.memory with header := { s.memory.header with mirror := s.hold.latches, mirrorWords := .clean } } })) ∧
      (s.engine.condition = .offline →
        exec .mirrorWrite s = .next (finishJob { s with hold := { s.hold with mirrorWaiting := false } }))) ∧
    (s.arbiter.serving ≠ some holdPosition → exec .mirrorWrite s = .next s)

/-! ### Faulted slots and pins -/

/-- RESTORE_ITEM (R150, R151): BAD_FIELD naming the part at fault, NOT_FAULTED, ITEM_IN_USE and DUPLICATE in their order; and else the
image is the slot's record with every word sound, the slot stands at the head of the chain of the image's key and in no other place of a
chain, and its flag is clear.
DISCARD_ITEM (R136, R152): NOT_FAULTED and ITEM_IN_USE in their order; and else every pin on the slot is removed with PIN_LAPSED to
its port, the record is FREE, the slot is in no chain, stands on top of the free slot stack, and its flag is clear. The bucket in
RESTORE_ITEM's reply is a 2-byte field (log 9); that 01h says that the slot was linked is the model's choice (log 27). -/
def Obligations.RestoreAndDiscardItem : Prop :=
  (∀ p v s (slot : BitVec 16) image, Serves s p v (.restoreItem slot image) → Grants s p.val →
     let x : Slot := slot.toFin
     let r := parseImage image
     let answer := fun code fields => exec (.restoreItem p) s = .next (jobAnswered p v code fields s)
     (∀ part, r.faultyPart = some part → answer .badField [.u8 part.code]) ∧
     (r.faultyPart = none →
       (s.isFaulted x = false → answer .notFaulted []) ∧
       (s.isFaulted x = true → s.engagements x ≠ 0 → answer .itemInUse [.u8 (s.engagements x)]) ∧
       (s.isFaulted x = true → s.engagements x = 0 →
         (∀ y, FoundAt s r.key y → answer .duplicate [.u16 y.val]) ∧
         (NotThere s r.key ∨ NotThereFaulted s r.key →
           ∃ t, exec (.restoreItem p) s = .next t ∧ t.record x = r ∧ (∀ w, r.condition w = .clean) ∧
             (∀ y, y ≠ x → t.record y = s.record y) ∧ t.memory.header = s.memory.header ∧
             (SparseWf [] s.engine.directory →
               t.engine.chain r.key.bucket = x :: ((s.engine.chain r.key.bucket).filter fun y => y ≠ x) ∧
               ∀ b, b ≠ r.key.bucket → t.engine.chain b = (s.engine.chain b).filter fun y => y ≠ x) ∧
             (∀ y, t.isFaulted y = (s.isFaulted y && decide (y ≠ x))) ∧ t.engine.freeStack = s.engine.freeStack ∧
             t.ports = (answered p v .ok
               [.u16 x.val, .u16 r.key.bucket.toNat, Field.flag (s.engine.isLinked x)] s).ports ∧
             t.channels = s.channels ∧ t.pinTable = s.pinTable ∧ t.hold = s.hold ∧ t.store = s.store)))) ∧
  (∀ p v s (slot : BitVec 16), Serves s p v (.discardItem slot) → Grants s p.val →
     let x : Slot := slot.toFin
     let answer := fun code fields => exec (.discardItem p) s = .next (jobAnswered p v code fields s)
     (s.isFaulted x = false → answer .notFaulted []) ∧
     (s.isFaulted x = true → s.engagements x ≠ 0 → answer .itemInUse [.u8 (s.engagements x)]) ∧
     (s.isFaulted x = true → s.engagements x = 0 →
       ∃ t, exec (.discardItem p) s = .next t ∧ t.record x = Record.freed ∧ (∀ y, y ≠ x → t.record y = s.record y) ∧
         t.memory.header = s.memory.header ∧ t.engine.freeStack = x :: s.engine.freeStack ∧
         (SparseWf [] s.engine.directory → ∀ b, t.engine.chain b = (s.engine.chain b).filter fun y => y ≠ x) ∧
         (∀ y, t.isFaulted y = (s.isFaulted y && decide (y ≠ x))) ∧
         t.pinTable = { s.pinTable with pins := s.pinTable.pins.filter fun pin => pin.slot ≠ x } ∧
         (∀ pin ∈ s.pinTable.pins, pin.slot = x → Reached (.pinLapsed x .discarded) pin.port t) ∧
         (t.port p).service = none ∧
         (t.port p).replies = (s.port p).replies ++
           [{ kind := v.kind, tag := v.tag, code := .ok, fields := [.u16 x.val, Field.flag (s.engine.isLinked x), .u8 (s.pinsOn x)] }] ∧
         t.channels = s.channels ∧ t.hold = s.hold ∧ t.store = s.store))

/-- PIN_ITEM (R132, R133): a seconds field outside 1 to 86,400 is refused BAD_FIELD; of an item found intact, WRONG_STATE by the state and
the role; and else the pin of the port and slot has the seconds requested, whether it is created or refreshed, every other pin is as it
was, and PIN_TABLE_FULL is answered only where 128 pins stand and none is for the port and slot.
UNPIN_ITEM (R134): BAD_FIELD, ROLE and NOT_PINNED in their order; and else the pin of the port and slot is removed, every other pin
stays, and no notice is sent. The flag of PIN_ITEM's reply is 01h for a pin that is created: the model's choice (log 27). -/
def Obligations.PinAndUnpinItem : Prop :=
  (∀ p v s key (seconds : BitVec 32), Serves s p v (.pinItem key seconds) →
     (¬ (1 ≤ seconds.toNat ∧ seconds.toNat ≤ 86400) → exec (.pinItem p) s = .next (answered p v .badField [] s)) ∧
     (1 ≤ seconds.toNat → seconds.toNat ≤ 86400 → Grants s p.val → ∀ x, FoundAt s key x →
       let st := (s.record x).state
       let mayPin := st = .released ∨ st = .review ∧ v.role ≠ .production
       let found := findPin p x s.pinTable.pins
       (¬ mayPin → exec (.pinItem p) s = .next (jobAnswered p v .wrongState [.u8 st.code.toNat] s)) ∧
       (mayPin → found = none → 128 ≤ s.pinTable.pins.length →
         exec (.pinItem p) s = .next (jobAnswered p v .pinTableFull [] s)) ∧
       (mayPin → found ≠ none ∨ s.pinTable.pins.length < 128 →
         ∃ pins, exec (.pinItem p) s = .next (jobAnswered p v .ok
             [.u16 x.val, .u32 seconds.toNat, Field.flag found.isNone, .u8 (s.pinsOn x + if found.isNone then 1 else 0)]
             (s.setPins pins)) ∧
           findPin p x pins = some { port := p, slot := x, remaining := seconds.toNat } ∧
           (∀ q y, ¬ (q = p ∧ y = x) → findPin q y pins = findPin q y s.pinTable.pins) ∧
           pins.length = s.pinTable.pins.length + if found.isNone then 1 else 0))) ∧
  (∀ p v s (slot : BitVec 16) (port : Byte), Serves s p v (.unpinItem slot port) →
     let answer := fun code => exec (.unpinItem p) s = .next (answered p v code [] s)
     (16 ≤ port.toNat → answer .badField) ∧
     ∀ q : PortId, port.toNat = q.val →
       (q ≠ p → v.role ≠ .control → answer .role) ∧
       (q = p ∨ v.role = .control →
         (findPin q slot.toFin s.pinTable.pins = none → answer .notPinned) ∧
         ∀ pin, findPin q slot.toFin s.pinTable.pins = some pin →
           let pins := s.pinTable.pins.filter fun y => ¬ (y.port = q ∧ y.slot = slot.toFin)
           exec (.unpinItem p) s = .next (answered p v .ok
             [.u32 pin.remaining, .u8 (pins.countP fun y => y.slot = slot.toFin)] (s.setPins pins))))

/-- The time base (R94, R110, R135, R169): a millisecond tick advances the fault time, the running timers and the prescaler; on the
thousandth tick, by either command, the prescaler returns to 0, every pin is counted down by one second, and each pin that reaches 0 is
removed with PIN_LAPSED to its port; PIN_COUNTDOWN on another tick does nothing (log 10). -/
def Obligations.TicksAndCountdown : Prop :=
  ∀ s : State,
    let ticked : State :=
      { s with
        attention := if s.inWalk then s.attention else
          { s.attention with faultTime := min (s.attention.faultTime + 1) 4294967295 }
        store := { s.store with slots := s.store.slots.map fun x =>
          match x with
          | .active c b block attempt remaining => .active c b block attempt (remaining - 1)
          | y => y }
        channels := s.channels.map fun ch => { ch with wait := ch.wait.map fun n => n - 1 } }
    (s.pinTable.prescaler < 999 →
      exec .millisecondTick s =
        .next { ticked with pinTable := { s.pinTable with prescaler := s.pinTable.prescaler + 1 } } ∧
      exec .pinCountdown s = .next s) ∧
    (s.pinTable.prescaler = 999 → ∀ i, i = .millisecondTick ∨ i = .pinCountdown →
      ∃ t, exec i s = .next t ∧ t.pinTable.prescaler = 0 ∧
        t.pinTable.pins = (s.pinTable.pins.filter fun x => 1 < x.remaining).map (fun x => { x with remaining := x.remaining - 1 }) ∧
        (∀ x ∈ s.pinTable.pins, x.remaining ≤ 1 → Reached (.pinLapsed x.slot .expired) x.port t) ∧
        t.store = ticked.store ∧ t.channels = ticked.channels ∧ t.attention.faultTime = ticked.attention.faultTime ∧
        t.memory = s.memory ∧ t.engine = s.engine ∧ t.hold = s.hold)

/-! ### Delivery channels -/

/-- The gates of a channel request (R72): a channel number above 7 is refused BAD_FIELD; and, of the requests that only the bound port may
make, one from any other port, or on an UNBOUND channel, is refused NOT_BOUND; nothing else changes. That SET_LANES and SET_CUTOFF meet
these gates before their own checks, and that the refusal carries no field, is log 9. -/
def Obligations.ChannelRequestGates : Prop :=
  ∀ p v r s field boundOnly, Serves s p v r → r.channelField = some (field, boundOnly) →
    (8 ≤ field.toNat → exec (r.command p) s = .next (answered p v .badField [] s)) ∧
    ∀ c : ChannelId, field.toNat = c.val → boundOnly = true → (s.channel c).port ≠ some p →
      exec (r.command p) s = .next (answered p v .notBound [] s)

/-- BIND_CHANNEL (R73): BAD_FIELD for a port above 15; PORT_BUSY in RUNNING, STOPPING and HALTING; and else the queue is empty, there is no
cue, message or run, a remainder's CUE_ENDED FLUSHED reaches the old port, the channel is IDLE and bound to the port named with credit 0
there, the cutoff behaviour is STOP unless that port is CONTROL, the lanes are kept, and no other channel changes.
FLUSH_CHANNEL (R92): WRONG_STATE with the state in RUNNING, STOPPING and HALTING; else the queue is emptied, a remainder's cue ends
FLUSHED with its counts and no cue is left, the state is unchanged, and the reply carries the number of cues discarded and whether a
remainder was flushed, which 01h says by the model's choice (log 27). -/
def Obligations.BindAndFlushChannel : Prop :=
  (∀ p v s (field port : Byte) (c : ChannelId), Serves s p v (.bindChannel field port) → field.toNat = c.val →
     let ch := s.channel c
     let playing := ch.state = .running ∨ ch.state = .stopping ∨ ch.state = .halting
     (16 ≤ port.toNat → exec (.bindChannel p) s = .next (answered p v .badField [] s)) ∧
     ∀ q : PortId, port.toNat = q.val →
       (playing → exec (.bindChannel p) s = .next (answered p v .portBusy [] s)) ∧
       (¬ playing →
         ∃ t, exec (.bindChannel p) s = .next t ∧ (t.channel c).state = .idle ∧ (t.channel c).port = some q ∧
           (t.channel c).queue = [] ∧ (t.channel c).current = none ∧ (t.channel c).message = none ∧ (t.channel c).runs = [] ∧
           (∀ b, ((t.channel c).buffer b).place = none) ∧ (t.port q).creditFor c = 0 ∧
           (ch.message = none → (t.channel c).lanes = ch.lanes ∧
             (t.channel c).cutoff = if (s.port q).role = .control then ch.cutoff else .stop) ∧
           (∀ old cur, ch.port = some old → ch.current = some cur →
             Reached (.cueEnded cur.tag .flushed cur.delivered cur.gap cur.concealed) old t) ∧
           (t.port p).service = none ∧
           (t.port p).replies = (s.port p).replies ++
             [{ kind := v.kind, tag := v.tag, code := .ok, fields := [.u8 ch.queue.length, Field.flag ch.current.isSome] }] ∧
           SameElsewhere s t ∧ ∀ d, d ≠ c → t.channel d = s.channel d)) ∧
  (∀ p v s (field : Byte) (c : ChannelId), Serves s p v (.flushChannel field) → field.toNat = c.val → (s.channel c).port = some p →
     let ch := s.channel c
     let playing := ch.state = .running ∨ ch.state = .stopping ∨ ch.state = .halting
     (playing → exec (.flushChannel p) s = .next (answered p v .wrongState [.u8 ch.state.code] s)) ∧
     (¬ playing → ∃ t, exec (.flushChannel p) s = .next t ∧ (t.channel c).queue = [] ∧ (t.channel c).current = none ∧
       (t.channel c).state = ch.state ∧ (t.channel c).port = ch.port ∧
       (∀ cur, ch.current = some cur →
         Reached (.cueEnded cur.tag .flushed cur.delivered cur.gap cur.concealed) p t ∧
           (ch.job = none → (t.channel c).job = some .disengage)) ∧
       (t.port p).service = none ∧
       (t.port p).replies = (s.port p).replies ++
         [{ kind := v.kind, tag := v.tag, code := .ok, fields := [.u8 ch.queue.length, Field.flag ch.current.isSome] }] ∧
       SameElsewhere s t ∧ ∀ d, d ≠ c → t.channel d = s.channel d))

/-- QUEUE_CUE (R75, R76): QUEUE_FULL at 16 cues, with the queue unchanged; else the cue is appended and the reply carries the length;
an IDLE channel with no job becomes RUNNING and presents the cue's start resolution, which a free engine takes at once (R14); and in
STOPPED without a remainder, HALTED and CUT nothing else changes (of a STOPPED channel with one, the first clause speaks).
STOP_CHANNEL (R85, R86, R87): WRONG_STATE with the state outside RUNNING and HALTING; else, with a message assembled, the channel is
STOPPING and keeps its cue and message; with a start resolution in flight it is STOPPING and its answer will be discarded; and with no
cue, no resolution and no read in flight it is STOPPED at once and sends CHANNEL_STOPPED with no remainder; the queue is kept. The end of
STOPPING with a remainder (R86, R127): with no message, no resolution and no read in flight, and the next frame not on hand, the cue is the
remainder at that frame, CHANNEL_STOPPED carries its tag and the frame, the engagement is kept, and the runs and buffers are dropped; that
a crossing is forgotten with them is the model's inference (log 16); and a muted cue ends CUT instead, with CUE_ENDED, a disengage, and
CHANNEL_STOPPED with no remainder. -/
def Obligations.QueueCueAndStopChannel : Prop :=
  (∀ p v s (field : Byte) cue (c : ChannelId), Serves s p v (.queueCue field cue) → field.toNat = c.val →
     (s.channel c).port = some p → NoGrantDue s →
     let ch := s.channel c
     (16 ≤ ch.queue.length → exec (.queueCue p) s = .next (answered p v .queueFull [] s)) ∧
     (ch.queue.length < 16 →
       (∃ t, exec (.queueCue p) s = .next t ∧ (t.channel c).queue = ch.queue ++ [cue] ∧ (t.port p).service = none ∧
         (t.port p).replies = (s.port p).replies ++
           [{ kind := v.kind, tag := v.tag, code := .ok, fields := [.u8 (ch.queue.length + 1)] }] ∧
         SameElsewhere s t ∧ ∀ d, d ≠ c → t.channel d = s.channel d) ∧
       (ch.state = .idle → ch.current = none → ch.queue = [] → ch.job = none → ch.disengageDue = false →
         exec (.queueCue p) s = .next (answered p v .ok [.u8 1] (grantJob (s.setChannel c
           { ch with
             queue := [cue], state := .running, job := some (.start cue (s.port p).role (decide (ch.cutoff = .ignore)) false) })))) ∧
       (ch.state = .stopped ∨ ch.state = .halted ∨ ch.state = .cut → ch.current = none → ch.disengageDue = false →
         exec (.queueCue p) s = .next (answered p v .ok [.u8 (ch.queue.length + 1)]
           (s.setChannel c { ch with queue := ch.queue ++ [cue] }))))) ∧
  (∀ p v s (field : Byte) (c : ChannelId), Serves s p v (.stopChannel field) → field.toNat = c.val → (s.channel c).port = some p →
     let ch := s.channel c
     let may := ch.state = .running ∨ ch.state = .halting
     (¬ may → exec (.stopChannel p) s = .next (answered p v .wrongState [.u8 ch.state.code] s)) ∧
     (may → ∃ t, exec (.stopChannel p) s = .next t ∧ (t.channel c).queue = ch.queue ∧ (t.port p).service = none ∧
       (t.port p).replies = (s.port p).replies ++ [{ kind := v.kind, tag := v.tag, code := .ok, fields := [] }] ∧
       SameElsewhere s t ∧ (∀ d, d ≠ c → t.channel d = s.channel d) ∧
       (ch.message.isSome = true →
         (t.channel c).state = .stopping ∧ (t.channel c).current = ch.current ∧ (t.channel c).message = ch.message) ∧
       (∀ cue role ignore discard, ch.current = none → ch.message = none → ch.job = some (.start cue role ignore discard) →
         (t.channel c).state = .stopping ∧ (t.channel c).job = some (.start cue role ignore true)) ∧
       (ch.current = none → ch.message = none → ch.job = none ∨ ch.job = some .disengage →
         (∀ b, (ch.buffer b).isInFlight = false) →
         (t.channel c).state = .stopped ∧ Reached (.channelStopped none) p t) ∧
       (∀ cur, ch.current = some cur → cur.next < cur.limit → ch.message = none → ch.job = none ∨ ch.job = some .disengage →
         (∀ b, (ch.buffer b).isInFlight = false) → cur.muted = true ∨ ch.runOf cur.next = none ∨ (∀ b, ch.buffer b = .free) →
         (t.channel c).state = .stopped ∧ (t.channel c).runs = [] ∧ (t.channel c).message = none ∧
           (∀ b, (t.channel c).buffer b = .free) ∧
           (cur.muted = false → (t.channel c).current = some { cur with crossing := none } ∧
             Reached (.channelStopped (some (cur.tag, cur.next))) p t) ∧
           (cur.muted = true → (t.channel c).current = none ∧ (t.channel c).job = some .disengage ∧
             Reached (.cueEnded cur.tag .cut cur.delivered cur.gap cur.concealed) p t ∧ Reached (.channelStopped none) p t))))

/-- HALT_CHANNEL (R89): WRONG_STATE with the state outside RUNNING; else, with a current cue that has frames still due, or with a start
resolution in flight, the channel is HALTING and keeps the cue, the resolution and the queue; and with neither it is HALTED at once and
sends CHANNEL_HALTED.
RESUME_CHANNEL (R90): WRONG_STATE with the state outside STOPPED and HALTED; else a remainder makes the channel RUNNING, its cue as it
was, with the segment resolution for the remainder frame presented; no remainder but a queued cue makes it RUNNING with that cue's start
resolution presented; and neither makes it IDLE. -/
def Obligations.HaltAndResumeChannel : Prop :=
  (∀ p v s (field : Byte) (c : ChannelId), Serves s p v (.haltChannel field) → field.toNat = c.val → (s.channel c).port = some p →
     let ch := s.channel c
     (ch.state ≠ .running → exec (.haltChannel p) s = .next (answered p v .wrongState [.u8 ch.state.code] s)) ∧
     (ch.state = .running → ∃ t, exec (.haltChannel p) s = .next t ∧ (t.channel c).queue = ch.queue ∧
       (t.port p).service = none ∧
       (t.port p).replies = (s.port p).replies ++ [{ kind := v.kind, tag := v.tag, code := .ok, fields := [] }] ∧
       SameElsewhere s t ∧ (∀ d, d ≠ c → t.channel d = s.channel d) ∧
       (∀ cur, ch.current = some cur → cur.next < cur.limit →
         (t.channel c).state = .halting ∧ (t.channel c).current = some cur) ∧
       (∀ cue role ignore discard, ch.current = none → ch.job = some (.start cue role ignore discard) →
         (t.channel c).state = .halting ∧ (t.channel c).job = ch.job) ∧
       (ch.current = none → ch.job = none ∨ ch.job = some .disengage →
         (t.channel c).state = .halted ∧ Reached .channelHalted p t))) ∧
  (∀ p v s (field : Byte) (c : ChannelId), Serves s p v (.resumeChannel field) → field.toNat = c.val → (s.channel c).port = some p →
     let ch := s.channel c
     let may := ch.state = .stopped ∨ ch.state = .halted
     (¬ may → exec (.resumeChannel p) s = .next (answered p v .wrongState [.u8 ch.state.code] s)) ∧
     (may → ch.message = none → ch.job = none → ch.disengageDue = false → ch.runs = [] → NoGrantDue s →
       (∀ cur, ch.current = some cur → cur.muted = false → cur.crossing = none → cur.next < cur.f1 →
         (∀ b, (ch.buffer b).place = none) →
         exec (.resumeChannel p) s = .next (answered p v .ok []
           (grantJob (s.setChannel c { ch with state := .running, job := some (.segment cur.next cur.f1 false) })))) ∧
       (∀ cue rest, ch.current = none → ch.queue = cue :: rest →
         exec (.resumeChannel p) s = .next (answered p v .ok [] (grantJob (s.setChannel c
           { ch with state := .running, job := some (.start cue (s.port p).role (decide (ch.cutoff = .ignore)) false) })))) ∧
       (ch.current = none → ch.queue = [] →
         exec (.resumeChannel p) s = .next (answered p v .ok [] (s.setChannel c { ch with state := .idle })))))

/-- CLEAR_CUT (R91): it is taken in CUT, and refused with NOT_CUT in every other state of a bound channel; when it is taken, the channel
becomes STOPPED with no remainder, the reply is OK, no notice is sent, and the queue is kept; and RESUME_CHANNEL then starts its head. A
CUT channel holds no current cue, message or run, by the law that `ChannelLawsKept` keeps. -/
def Obligations.ClearCut : Prop :=
  ∀ p v s (field : Byte) (c : ChannelId), Serves s p v (.clearCut field) → field.toNat = c.val → (s.channel c).port = some p →
    let ch := s.channel c
    (ch.state ≠ .cut → exec (.clearCut p) s = .next (answered p v .notCut [] s)) ∧
    (ch.state = .cut → ch.current = none →
      ∃ t, exec (.clearCut p) s = .next t ∧ t = answered p v .ok [] (s.setChannel c { ch with state := .stopped }) ∧
        (t.channel c).current = none ∧ (t.channel c).queue = ch.queue ∧ (∀ q, (t.port q).notices = (s.port q).notices) ∧
        ∀ u w cue rest, u.channel c = t.channel c → Serves u p w (.resumeChannel field) → ch.queue = cue :: rest →
          ch.job = none → ch.disengageDue = false →
          ∃ z, exec (.resumeChannel p) u = .next z ∧ (z.channel c).state = .running ∧
            (z.channel c).job = some (.start cue (u.port p).role (decide (ch.cutoff = .ignore)) false))

/-- SET_LANES (R98, R99): the refusals in their order; else the new setting takes effect at once where no message is assembled, and is
pending, in place of any pending one, where one is; a lane not carried keeps its entry.
SET_CUTOFF and CHANNEL_STATUS (R72, R93): an unknown behaviour, or IGNORE where the bound port is not CONTROL, is refused BAD_FIELD;
else the behaviour is pending behind an assembled message, and takes effect at once where there is none, which changes nothing else of
the channel where it holds no cue, and where it holds one has the hold unit judge it, under the new behaviour (R126 to R129); and
CHANNEL_STATUS, from the bound port or a CONTROL port, reports the channel and changes nothing. The one presence byte before a group of
fields and the order of the checks are log 9; the flag of SET_LANES' OK reply, the codes of yes and no in its entries and in
CHANNEL_STATUS, and NOT_BOUND for a CHANNEL_STATUS from any other port, are log 27. -/
def Obligations.LanesCutoffAndStatus : Prop :=
  (∀ p v s (field count word : Byte) entries (c : ChannelId), Serves s p v (.setLanes field count word entries) →
     field.toNat = c.val → (s.channel c).port = some p →
     let ch := s.channel c
     let n := count.toNat
     let answer := fun code fields => exec (.setLanes p) s = .next (answered p v code fields s)
     (¬ (1 ≤ n ∧ n ≤ 8) → answer .badField [.u8 0x08]) ∧
     (1 ≤ n → n ≤ 8 →
       (¬ (2 ≤ word.toNat ∧ word.toNat ≤ 4) → answer .badField [.u8 0x09]) ∧
       (2 ≤ word.toNat → word.toNat ≤ 4 →
         (entries.length ≠ 3 * n → answer .badRequest []) ∧
         (entries.length = 3 * n →
           (∀ i, i < n → carriedLane entries i = none → (∀ j, j < i → carriedLane entries j ≠ none) → answer .badField [.u8 i]) ∧
           ((∀ i, i < n → carriedLane entries i ≠ none) →
             ∃ setting : LaneSetting, setting.count = n ∧ setting.word = word.toNat ∧
               (∀ i : Fin 8, i.val < n → some (rowGet setting.lanes i) = carriedLane entries i.val) ∧
               (∀ i : Fin 8, n ≤ i.val → rowGet setting.lanes i = rowGet ch.lanes.lanes i) ∧
               exec (.setLanes p) s = .next (answered p v .ok [Field.flag ch.message.isNone] (s.setChannel c
                 (if ch.message.isNone then { ch with lanes := setting, pendingLanes := none }
                   else { ch with pendingLanes := some setting })))))))) ∧
  (∀ p v s (field : Byte) (c : ChannelId), field.toNat = c.val →
     let ch := s.channel c
     (∀ behaviour : Byte, Serves s p v (.setCutoff field behaviour) → ch.port = some p →
       (4 ≤ behaviour.toNat → exec (.setCutoff p) s = .next (answered p v .badField [] s)) ∧
       (behaviour.toNat = 3 → (s.port p).role ≠ .control → exec (.setCutoff p) s = .next (answered p v .badField [] s)) ∧
       ∀ b : Cutoff, b.code = behaviour.toNat → b ≠ .ignore ∨ (s.port p).role = .control →
         (ch.message.isSome = true →
           exec (.setCutoff p) s = .next (answered p v .ok [] (s.setChannel c { ch with pendingCutoff := some b }))) ∧
         (ch.message = none → ch.current = none → ch.state = .idle ∨ ch.state = .stopped ∨ ch.state = .halted ∨ ch.state = .cut →
           ch.disengageDue = false → NoGrantDue s →
           exec (.setCutoff p) s =
             .next (answered p v .ok [] (s.setChannel c { ch with cutoff := b, pendingCutoff := none }))) ∧
         (∀ cur, ch.message = none → ch.current = some cur →
           ∃ t, exec (.setCutoff p) s = .next t ∧ (t.port p).service = none ∧
             (t.port p).replies = (s.port p).replies ++ [{ kind := v.kind, tag := v.tag, code := .ok, fields := [] }] ∧
             SameElsewhere s t ∧ (∀ d, d ≠ c → t.channel d = s.channel d) ∧
             (cur.muted = false → cur.held s.hold.latches = true → b ≠ .ignore →
               CutEffect s.store.requests { ch with cutoff := b, pendingCutoff := none } cur s.hold.latches c t) ∧
             (cur.muted = true ∨ cur.held s.hold.latches = false ∨ b = .ignore → (t.channel c).cutoff = b ∧
               (t.channel c).pendingCutoff = none ∧ (t.channel c).queue = ch.queue ∧
               (ch.state ≠ .stopping → cur.next < cur.limit →
                 (t.channel c).state = ch.state ∧ (t.channel c).current = some cur)))) ∧
     (Serves s p v (.channelStatus field) →
       (ch.port = some p ∨ v.role = .control →
         exec (.channelStatus p) s = .next (answered p v .ok
           ([.u8 ch.state.code] ++ (match ch.port with | some q => [.u8 1, .u8 q.val] | none => [.u8 0]) ++
             [.u8 ch.queue.length, .u8 ch.cutoff.code] ++
             match ch.current with
               | some cur => [.u8 1, .u16 cur.tag.toNat, .u32 cur.f0, .u32 cur.f1, Field.flag cur.shortened, .u32 cur.next,
                   .u32 cur.delivered]
               | none => [.u8 0]) s)) ∧
       (ch.port ≠ some p → v.role ≠ .control → exec (.channelStatus p) s = .next (answered p v .notBound [] s))))

/-! ### Resolutions -/

/-- START_RESOLUTION of a channel whose answer is wanted, when the arbiter grants it (R15, R76): OFFLINE while the catalogue is OFFLINE;
NO_ITEM and FAULTED by the lookup; RETIRING, WRONG_STATE, HELD and OUT_OF_RANGE of an item found intact, by the first that applies. A
refusal makes no engagement and leaves no current cue; the cue leaves the queue, CUE_SKIPPED reaches the bound port, and the channel goes
on as R84 gives; and the engine is free for the next job (R14).
A lost word that the resolution itself finds (R76, R144, R146): where the key is found, and one of the words read, the state, holds, format
and rendition and the first run's pass entry, is lost, the first such names the part at fault; the slot is flagged, the fault is reported,
and the cue is skipped FAULTED, with no engagement. Each of these words that can be corrected is written back. The order and the extent of
the reads, and which words stand together, are the model's choice (logs 8 and 7).
START_RESOLUTION granted (R48, R76, R77, R79, R100, R126): for an item found intact that no case refuses, and that is not held, the
channel's engagement entry names the slot, and its current cue is written with the frames of R57 and R58, all counts 0 and no mark; the
first run is that of F0, the cue leaves the queue, and the channel then issues what it may; while STOPPING the grant is discarded and a
disengage is presented (R87). -/
def Obligations.StartResolution : Prop :=
  (∀ (s : State) (c : ChannelId) cue role ignore reason, (s.channel c).job = some (.start cue role ignore false) →
     (s.channel c).current = none → s.arbiter.serving = some (channelPosition c) →
     ((s.engine.condition = .offline ∧ reason = .offline) ∨
       (s.engine.condition = .ready ∧
         (NotThere s cue.key ∧ reason = .noItem ∨ NotThereFaulted s cue.key ∧ reason = .faulted ∨
           ∃ x, FoundAt s cue.key x ∧
             let r := s.record x
             let held := r.itemHold = 1 ∨ groupsOf r.groups &&& s.hold.latches ≠ 0
             let stateFits := ¬ (role = .production ∧ r.state ≠ .released)
             (r.state = .retiring ∧ reason = .retiring ∨
               r.state ≠ .retiring ∧ ¬ stateFits ∧ reason = .wrongState ∨
               r.state ≠ .retiring ∧ stateFits ∧ held ∧ ignore = false ∧ reason = .held ∨
               r.state ≠ .retiring ∧ stateFits ∧ ¬ (held ∧ ignore = false) ∧ r.length ≤ cue.start.toNat * r.rate / 1000 ∧
                 reason = .outOfRange)))) →
     ∃ t, exec (.startResolution c) s = .next t ∧ (t.channel c).current = none ∧ (t.channel c).queue = (s.channel c).queue.tail ∧
       (∀ d, t.engagedSlot d = s.engagedSlot d) ∧ t.memory = s.memory ∧ ArbiterLaw t ∧
       (∀ p, (s.channel c).port = some p → Reached (.cueSkipped cue.tag cue.key reason) p t) ∧
       ((s.channel c).state = .running →
         (t.channel c).state = if (s.channel c).queue.tail = [] then .idle else .running) ∧
       ((s.channel c).state = .halting → (t.channel c).state = .halted ∧
         ∀ p, (s.channel c).port = some p → Reached .channelHalted p t) ∧
       ∀ d, d ≠ c → t.channel d = s.channel d) ∧
  (∀ (s : State) (c : ChannelId) cue role ignore discard x w, (s.channel c).job = some (.start cue role ignore discard) →
     (s.channel c).current = none → Grants s (channelPosition c) → KeyFoundAt s cue.key x →
     let words := [.state, .holds, .format, .rendition] ++ firstRunWord (s.record x) cue.start.toNat
     (s.record x).firstLost words = some w →
     ∃ t, exec (.startResolution c) s = .next t ∧ FaultReported s t x (.channel c) w.part ∧
       t.record x = (s.record x).repair words ∧
       (1 ≤ (s.record x).repairs words → hasCause t.attention.flags .recordRepaired = true) ∧
       (∀ y, y ≠ x → t.record y = s.record y) ∧ (∀ d, t.engagedSlot d = s.engagedSlot d) ∧ (t.channel c).current = none ∧
       (discard = true → (t.channel c).queue = (s.channel c).queue) ∧
       (discard = false → (t.channel c).queue = (s.channel c).queue.tail ∧
         ∀ p, (s.channel c).port = some p → Reached (.cueSkipped cue.tag cue.key .faulted) p t)) ∧
  (∀ (s : State) (c : ChannelId) cue role ignore discard x, (s.channel c).job = some (.start cue role ignore discard) →
     Grants s (channelPosition c) → FoundAt s cue.key x → startRefusal (s.record x) cue role ignore s.hold.latches = none →
     let r := s.record x
     let cur := startedCue cue x r
     (discard = false → r.held s.hold.latches = false →
       exec (.startResolution c) s = .next (finishJob (settle c
         ((s.setEngagement c (some x)).setChannel c
           { s.channel c with
             job := none, queue := (s.channel c).queue.tail, current := some cur,
             runs := (resolveRun r cur.f0 cur.f1).toList })))) ∧
     (discard = false → r.held s.hold.latches = false → (s.channel c).delivering = true → cur.f0 < cur.f1 →
       ∃ t, exec (.startResolution c) s = .next t ∧ t.engagedSlot c = some x ∧ (t.channel c).current = some cur ∧
         (t.channel c).state = (s.channel c).state ∧ (t.channel c).queue = (s.channel c).queue.tail ∧ t.memory = s.memory) ∧
     (discard = true → (s.channel c).state = .stopping → (s.channel c).current = none →
       ∃ t, exec (.startResolution c) s = .next t ∧ t.engagedSlot c = some x ∧ (t.channel c).current = none ∧
         (t.channel c).queue = (s.channel c).queue ∧ (t.channel c).job = some .disengage ∧ t.memory = s.memory))

/-- SEGMENT_RESOLUTION once the arbiter has granted it (R14, R48, R61, R77, R78, R88): of an engaged slot found intact, the run from the
frame to the lesser of F1 and the end of its segment, with the pass, the pass frame f − start + offset and the pass's extents as they stand,
joins the channel's runs; an engaged slot already faulted gives FAULTED, whose crossing is the frame; a discarded answer writes nothing; and
then the channel goes on and the engine is free for the next job. A message already assembled that ends at the crossing is marked as the
cue's last: read from the spec (log 16).
A lost word that the resolution itself finds (R78, R146), of the rendition or of the pass entry that the run needs, flags the slot, is
reported, and gives FAULTED; each word read that can be corrected is written back (R144). Which words are read, also beside a lost one, and
that a lost rendition leaves the pass entry unread, is the model's reading (log 8), and which words stand together its choice (log 7). -/
def Obligations.SegmentResolution : Prop :=
  ∀ (s : State) (c : ChannelId) frame stop discard x, (s.channel c).job = some (.segment frame stop discard) →
    Grants s (channelPosition c) → s.engagedSlot c = some x →
    let ch := s.channel c
    let r := s.record x
    let ends := fun (u : State) => exec (.segmentResolution c) s = .next (finishJob (settle c u))
    let crossed : Channel :=
      { ch with
        job := none
        current := ch.current.map fun cur => { cur with crossing := some frame }
        message := ch.message.map fun m => if m.first + m.count = frame then { m with lastOfCue := true } else m }
    (discard = true → s.isFaulted x = true ∨ r.intact → ends (s.setChannel c { ch with job := none })) ∧
    (discard = false → s.isFaulted x = true → ends (s.setChannel c crossed)) ∧
    (discard = false → s.isFaulted x = false → r.intact → ∀ g, segmentOf r.rendition frame = some g →
      let keep := fun (source : RunSource) => ends (s.setChannel c
        { ch with job := none, runs := ch.runs ++ [{ start := frame, stop := min stop (g.start + g.length), source := source, issued := 0 }] })
      (g.source = .gap → keep .gap) ∧
      ∀ (i : Fin 4) o, g.source = .pass i.val o → keep (.pass i.val (frame - g.start + o) (r.pass i).extents)) ∧
    (s.isFaulted x = false →
      let lost := fun (part : RecordPart) (words : List RecordWord) =>
        ends ((recordFault (.channel c) part x (readWords x words s).2).setChannel c
            (if discard then { ch with job := none } else crossed)) ∧
          ∃ t, exec (.segmentResolution c) s = .next t ∧ FaultReported s t x (.channel c) part ∧ t.record x = r.repair words ∧
            (∀ y, y ≠ x → t.record y = s.record y) ∧ t.memory.header = s.memory.header ∧
            (1 ≤ r.repairs words → hasCause t.attention.flags .recordRepaired = true) ∧
            (r.repairs words = 0 → t.memory = s.memory)
      ((r.condition .rendition).lost = true → lost .rendition [.rendition]) ∧
      ((r.condition .rendition).lost = false → ∀ g (i : Fin 4) o, segmentOf r.rendition frame = some g → g.source = .pass i.val o →
        (r.condition (.pass i)).lost = true → lost .passTable [.rendition, .pass i]))

/-- DISENGAGE once the arbiter has granted it (R14, R15, R140): the entry is emptied; where another entry names the slot, or the item is not
RETIRING, or the slot is faulted, nothing else of the catalogue changes; and the last engagement of a RETIRING item frees its slot, with
RETIRED to the retiring port; that the record written FREE keeps its pass entries is the model's inference (log 2). -/
def Obligations.Disengage : Prop :=
  ∀ (s : State) (c : ChannelId) x, (s.channel c).job = some .disengage → Grants s (channelPosition c) → s.engagedSlot c = some x →
    let r := s.record x
    let last := ∀ d, d ≠ c → s.engagedSlot d ≠ some x
    (¬ last ∨ s.isFaulted x = true ∨ (r.intact ∧ r.state ≠ .retiring) →
      exec (.disengage c) s = .next (finishJob (settle c
        ((s.setEngagement c none).setChannel c { s.channel c with job := none })))) ∧
    (last → s.isFaulted x = false → r.intact → r.state = .retiring →
      ∃ t, exec (.disengage c) s = .next t ∧ t.engagedSlot c = none ∧ (∀ d, d ≠ c → t.engagedSlot d = s.engagedSlot d) ∧
        t.record x = { r with state := .free, rendition := [] } ∧ (∀ y, y ≠ x → t.record y = s.record y) ∧
        t.engine.freeStack = x :: s.engine.freeStack ∧
        (SparseWf [] s.engine.directory → ∀ b, t.engine.chain b = (s.engine.chain b).filter fun y => y ≠ x) ∧
        t.engine.faulted = s.engine.faulted ∧
        (∀ p : PortId, r.retiringPort = p.val →
          Reached (.retired r.key x (r.passes.toList.countP fun e => e.state ≠ .empty)
            (r.passes.toList.map fun e => e.extents.length).sum (r.passes.toList.map fun e => blockTotal e.extents).sum) p t) ∧
        ∀ d, d ≠ c → t.channel d = s.channel d)

/-! ### Bulk store reads -/

/-- BLOCK_DATA (R106, R111, R114, R117): a free slot, or data that are not a block, change nothing, and neither does a tag above 7, which
names no slot: the model's inference (log 20); a stale slot is freed, the stall, if any, ends, and no channel or request is touched; and an
active slot is freed and its request ends, its buffer filled with the data, or, where the channel has discarded it, released; and then
waiting requests are granted and the channel goes on. That the freed slot is granted before the channel goes on is the model's choice (log
17). -/
def Obligations.BlockData : Prop :=
  ∀ (s : State) (tag : Byte) data,
    (data.length ≠ 65536 ∨ 8 ≤ tag.toNat → exec (.blockData tag data) s = .next s) ∧
    (data.length = 65536 → ∀ g : ReadTag, tag.toNat = g.val →
      (s.readSlot g = .free → exec (.blockData tag data) s = .next s) ∧
      (∀ block, s.readSlot g = .stale block →
        ∃ t, exec (.blockData tag data) s = .next t ∧ t = grantAll { s.setReadSlot g .free with
            attention := { s.attention with stalled := false } } ∧ t.channels = s.channels ∧ t.ports = s.ports) ∧
      (∀ c b block attempt remaining, s.readSlot g = .active c b block attempt remaining →
        let u := forgetRequest c b (s.setReadSlot g .free)
        (∀ place, (s.channel c).buffer b = .inFlight place →
          exec (.blockData tag data) s =
            .next (settle c (grantAll (u.setChannel c ((s.channel c).withBuffer b (.filled place data)))))) ∧
        ((s.channel c).buffer b = .draining →
          exec (.blockData tag data) s = .next (settle c (grantAll (u.setChannel c ((s.channel c).withBuffer b .free)))))))

/-- A failed attempt, by BLOCK_FAIL, whose slot is freed, or by READ_TIMEOUT, whose slot goes stale (R112, R113, R115, R116, R117): the
request ends missing where it is abandoned or its channel is STOPPING; waits again, with one more failed attempt, while the retry limit
allows; and else ends concealed, with the first CONCEALED notice of the cue; where the slot is the eighth to go stale, the stall then
begins, naming the block; and then waiting requests are granted and the channel goes on. The order of the grants and of the channel is the
model's choice (log 17), and that a READ_TIMEOUT on a slot whose timer has not run out does nothing is log 1. -/
def Obligations.FailedAttempts : Prop :=
  ∀ (s : State) (tag : Byte) (g : ReadTag) c b block attempt remaining request, tag.toNat = g.val →
    s.readSlot g = .active c b block attempt remaining → s.requestOf c b = some request →
    (remaining ≠ 0 → exec (.readTimeout g) s = .next s) ∧
    ∀ i left failure (stall : State → State),
      (∃ reason, i = .blockFail tag reason ∧ left = .free ∧ failure = failureOf reason ∧ stall = id) ∨
        (i = .readTimeout g ∧ remaining = 0 ∧ left = .stale block ∧ failure = .timeout ∧
          ((∃ h, h ≠ g ∧ ∀ k, s.readSlot h ≠ .stale k) ∧ stall = id ∨
            (∀ h, h ≠ g → ∃ k, s.readSlot h = .stale k) ∧ stall = stallBegins block)) →
      let u := s.setReadSlot g left
      let ends := fun (w : State) => exec i s = .next (settle c (grantAll (stall w)))
      (request.abandoned = true ∨ (s.channel c).state = .stopping → ends (endMissing c b u)) ∧
      (request.abandoned = false → (s.channel c).state ≠ .stopping → request.failed + 1 ≤ s.timing.retry →
        ends (changeRequest c b (fun x => { x with failed := x.failed + 1, lastFailure := some failure, active := false }) u)) ∧
      (request.abandoned = false → (s.channel c).state ≠ .stopping → s.timing.retry < request.failed + 1 →
        ∀ place cur, (s.channel c).buffer b = .inFlight place → (s.channel c).current = some cur →
          let concealed := (s.channel c).withBuffer b (.concealed place)
          let w := forgetRequest c b u
          (cur.concealNoticed = true → ends (w.setChannel c concealed)) ∧
          (cur.concealNoticed = false → ∀ p, (s.channel c).port = some p →
            ends (notify p (.concealed c cur.tag request.block failure)
              (w.setChannel c { concealed with current := some { cur with concealNoticed := true } }))))

/-- The eighth slot to go stale begins the stall (R117): STORE_STALLED holds, and, once the walk has ended, its flag is set and the event
is of the alarm class: an empty first-fault record names the slot's block, and a clear suppress latch is set with ALARM asserted; no slot
is free, so nothing is granted.
STORE_RESET (R119): no slot is stale after it, the stall condition does not hold, and the reply carries the numbers of active and stale
slots it found, and of requests concealed; catalogue memory, the engine, the latches, the pins and the timing are as they were; and one that
finds every slot free and no grant due changes nothing. Each attempt cancelled is decided as a failed attempt whose last failure is
CANCELLED (R112): its request ends missing, waits again, or ends concealed, and the concealed count is the number that end concealed. The
order of the cancellations is free (log 6), and that of the grants and channels that follow is the model's choice (log 17). -/
def Obligations.StallAndStoreReset : Prop :=
  (∀ (s : State) (g : ReadTag) c b block attempt, s.readSlot g = .active c b block attempt 0 →
     (∀ h, h ≠ g → ∃ k, s.readSlot h = .stale k) → s.attention.stalled = false → s.inWalk = false →
     ∃ t, exec (.readTimeout g) s = .next t ∧ t.attention.stalled = true ∧ hasCause t.attention.flags .storeStalled = true ∧
       (s.attention.suppress = false → t.attention.alarm = true ∧ t.attention.suppress = true) ∧
       (s.attention.suppress = true → t.attention.alarm = s.attention.alarm) ∧
       (s.attention.record = none →
         t.attention.record = some { time := s.attention.faultTime, detail := .storeStalled block }) ∧
       (∀ f, s.attention.record = some f → t.attention.record = some f ∧ hasCause t.attention.further .storeStalled = true) ∧
       t.store.sent = s.store.sent ∧ ∀ h, ∃ k, t.readSlot h = .stale k) ∧
  (∀ p v s, Serves s p v .storeReset →
     let count := fun (f : ReadSlot → Bool) => s.store.slots.toList.countP f
     let active := count fun x => match x with | .active .. => true | _ => false
     let stale := count fun x => match x with | .stale _ => true | _ => false
     (∃ (order : List (ReadTag × ChannelId × BufferId)) (moments : Nat), order.Perm s.activeSlots ∧
       let cancelled := order.foldl cancelSlot (0, { s with moments := moments })
       exec (.storeReset p) s = .next (answered p v .ok [.u8 active, .u8 stale, .u8 cancelled.1]
         (grantAll (order.foldl (fun w x => settleChannel x.2.1 w) (grantAll (stallEnds (clearStale cancelled.2))))))) ∧
     ((s.activeSlots.map Prod.snd).Nodup →
       (∀ x ∈ s.activeSlots, (∃ r, s.requestOf x.2.1 x.2.2 = some r) ∧ ((s.channel x.2.1).buffer x.2.2).isInFlight = true) →
       ∃ t, exec (.storeReset p) s = .next t ∧ (t.port p).replies = (s.port p).replies ++
         [{ kind := v.kind, tag := v.tag, code := .ok, fields := [.u8 active, .u8 stale, .u8 (s.activeSlots.countP fun x =>
           match s.requestOf x.2.1 x.2.2, (s.channel x.2.1).buffer x.2.2 with
           | some r, .inFlight _ =>
             !r.abandoned && decide ((s.channel x.2.1).state ≠ .stopping ∧ s.timing.retry < r.failed + 1)
           | _, _ => false)] }]) ∧
     (∃ t concealed, exec (.storeReset p) s = .next t ∧ concealed ≤ active ∧ (∀ g k, t.readSlot g ≠ .stale k) ∧
       t.attention.stalled = false ∧ (t.port p).service = none ∧
       (t.port p).replies = (s.port p).replies ++
         [{ kind := v.kind, tag := v.tag, code := .ok, fields := [.u8 active, .u8 stale, .u8 concealed] }] ∧
       SameElsewhere s t) ∧
     ((∀ g, s.readSlot g = .free) → NoGrantDue s → s.attention.stalled = false →
       exec (.storeReset p) s = .next (answered p v .ok [.u8 0, .u8 0, .u8 0] s))) ∧
  (∀ (s : State) (n : Nat) (g : ReadTag) c b r, s.requestOf c b = some r →
     let u := s.setReadSlot g .free
     (r.abandoned = true ∨ (s.channel c).state = .stopping → cancelSlot (n, s) (g, c, b) = (n, endMissing c b u)) ∧
     (r.abandoned = false → (s.channel c).state ≠ .stopping → r.failed + 1 ≤ s.timing.retry →
       ((s.channel c).buffer b).isInFlight = true →
       cancelSlot (n, s) (g, c, b) = (n, changeRequest c b
         (fun x => { x with failed := x.failed + 1, lastFailure := some .cancelled, active := false }) u)) ∧
     (r.abandoned = false → (s.channel c).state ≠ .stopping → s.timing.retry < r.failed + 1 →
       ∀ place cur, (s.channel c).buffer b = .inFlight place → (s.channel c).current = some cur →
         let concealed := (s.channel c).withBuffer b (.concealed place)
         let w := forgetRequest c b u
         (cur.concealNoticed = true → cancelSlot (n, s) (g, c, b) = (n + 1, w.setChannel c concealed)) ∧
         (cur.concealNoticed = false → ∀ p, (s.channel c).port = some p →
           cancelSlot (n, s) (g, c, b) = (n + 1, notify p (.concealed c cur.tag r.block .cancelled)
             (w.setChannel c { concealed with current := some { cur with concealNoticed := true } })))))

/-- One grant (R109, R110): the slot becomes active with the request's channel, buffer and block, the attempt number one above its failed
attempts and the read timeout in effect; BLOCK_READ goes out with the slot's tag and the block; the channel becomes the one last granted;
and the request becomes active. Where a slot is free and a request waits, the lowest free slot and the next channel's earliest request are
the ones granted first.
One block request (R64, R66, R79): a channel issues one only in RUNNING and HALTING, with a current cue and a free buffer, for the next block
of the first of its runs, in timeline order, that has one left; it asks for the store block that the extent walk gives, into a
free buffer, which is then in flight for that block, kept for the last frame of the run that takes bytes from it. That of the free buffers it
takes the lowest-numbered is the model's choice (log 17). -/
def Obligations.GrantOfASlot : Prop :=
  (∀ (s : State) (n : Nat) (g : ReadTag) (r : BlockRequest),
     (s.freeTag = some g → s.nextRequest = some r → grantSlots (n + 1) s = grantSlots n (grantTo g r s)) ∧
     (s.freeTag = some g → s.readSlot g = .free ∧ ∀ h, h < g → s.readSlot h ≠ .free) ∧
     (s.nextRequest = some r → r ∈ s.store.requests ∧ r.active = false ∧
       (∀ x ∈ s.store.requests, x.channel = r.channel → x.active = false → x.earlier r = false) ∧
       ∀ k : Fin 8, k < r.channel - (s.store.lastChannel + 1) →
         ∀ x ∈ s.store.requests, x.channel = s.store.lastChannel + 1 + k → x.active = true) ∧
     (grantTo g r s).readSlot g = .active r.channel r.buffer r.block (r.failed + 1) (s.timing.read * 10) ∧
     (∀ h, h ≠ g → (grantTo g r s).readSlot h = s.readSlot h) ∧
     (grantTo g r s).store.sent = s.store.sent ++ [blockReadMessage g r.block] ∧
     (grantTo g r s).store.lastChannel = r.channel ∧
     ∀ x ∈ (grantTo g r s).store.requests, x.channel = r.channel → x.buffer = r.buffer → x.active = true) ∧
  (∀ (s : State) (c : ChannelId),
     let ch := s.channel c
     (¬ (ch.state = .running ∨ ch.state = .halting) ∨ ch.current = none ∨ (∀ b, ch.buffer b ≠ .free) → issueOne c s = s) ∧
     ∀ cur b, (ch.state = .running ∨ ch.state = .halting) → ch.current = some cur → ch.buffer b = .free →
       (∀ a, a < b → ch.buffer a ≠ .free) →
       ((∀ r ∈ ch.runs, r.allIssued cur.frameBytes = true) → issueOne c s = s) ∧
       ∀ i run p q extents, ch.runs[i]? = some run → run.allIssued cur.frameBytes = false →
         (∀ j r, j < i → ch.runs[j]? = some r → r.allIssued cur.frameBytes = true) → run.source = .pass p q extents →
         let n := q * cur.frameBytes / 65536 + run.issued
         (storeBlock extents n = none → issueOne c s = s) ∧
         ∀ block, storeBlock extents n = some block →
           ∃ place, place.runStart = run.start ∧ place.passBlock = n ∧
             (1 ≤ cur.frameBytes → ∀ f, run.start ≤ f → f < run.stop →
               (f ≤ place.lastFrame ↔ (q + (f - run.start)) * cur.frameBytes < (n + 1) * 65536)) ∧
             issueOne c s = (s.setStore { s.store with requests := s.store.requests ++
                 [{ channel := c, buffer := b, block := block, runStart := run.start, passBlock := n, failed := 0, lastFailure := none,
                    abandoned := false, active := false }] }).setChannel c
               { ch.withBuffer b (.inFlight place) with runs := ch.runs.set i { run with issued := run.issued + 1 } })

/-- COLLECTION_TIMEOUT of a wait that has run out on a playing channel (R94, R127): the channel is STOPPED, its message and runs are dropped
and its filled and concealed buffers released; a cue that is not muted is the remainder, at the frame that was next, with its engagement
kept, and COLLECTION_TIMEOUT reaches the bound port; a muted cue ends CUT. A pending cutoff behaviour takes effect as the message is dropped
(R93); that the STOPPED remainder is then judged under it (R126, R129) is the model's inference (log 14). That a wait that still runs does
nothing is the model's choice (log 1), and that a crossing is forgotten with the remainder the model's inference (log 16). -/
def Obligations.CollectionTimeout : Prop :=
  ∀ (s : State) (c : ChannelId) cur, (s.channel c).current = some cur →
    let ch := s.channel c
    (∀ n, ch.wait = some (n + 1) → exec (.collectionTimeout c) s = .next s) ∧
    (ch.wait = none → exec (.collectionTimeout c) s = .next s) ∧
    (ch.wait = some 0 → ch.state = .running ∨ ch.state = .stopping ∨ ch.state = .halting → ch.pendingCutoff = none →
      ∃ t, exec (.collectionTimeout c) s = .next t ∧ (t.channel c).state = .stopped ∧ (t.channel c).message = none ∧
        (t.channel c).runs = [] ∧ (t.channel c).queue = ch.queue ∧ (t.channel c).port = ch.port ∧
        (∀ b, ((t.channel c).buffer b).place = none) ∧
        (cur.muted = false → (t.channel c).current = some { cur with crossing := none }) ∧
        (cur.muted = true → (t.channel c).current = none) ∧
        (∀ p, ch.port = some p → Reached (.collectionTimeout cur.tag cur.next) p t ∧
          (cur.muted = true → Reached (.cueEnded cur.tag .cut cur.delivered cur.gap cur.concealed) p t)) ∧
        SameElsewhere s t ∧ ∀ d, d ≠ c → t.channel d = s.channel d) ∧
    (∀ b m, ch.wait = some 0 → ch.state = .running ∨ ch.state = .stopping ∨ ch.state = .halting → ch.pendingCutoff = some b →
      ch.message = some m →
      ∃ t, exec (.collectionTimeout c) s = .next t ∧ (t.channel c).message = none ∧ (t.channel c).runs = [] ∧
        (t.channel c).cutoff = b ∧ (t.channel c).pendingCutoff = none ∧
        (∀ p, ch.port = some p → Reached (.collectionTimeout cur.tag cur.next) p t) ∧
        (cur.muted = true → (t.channel c).state = .stopped ∧ (t.channel c).current = none) ∧
        (cur.muted = false → b = .ignore ∨ cur.held s.hold.latches = false →
          (t.channel c).state = .stopped ∧ (t.channel c).current = some { cur with crossing := none }) ∧
        (cur.muted = false → b ≠ .ignore → cur.held s.hold.latches = true →
          CutEffect s.store.requests { ch with state := .stopped, cutoff := b } cur s.hold.latches c t) ∧
        SameElsewhere s t ∧ ∀ d, d ≠ c → t.channel d = s.channel d)

/-! ### Station ports -/

/-- REQUEST_ARRIVAL and CREDIT (R155, R157, R161): with fewer than 4 requests waiting the body joins the intake; with 4 waiting and at most
2 replies a BUSY reply with the kind and tag joins the reply queue; with 4 waiting and 3 or more replies the request is discarded as a
link fault; and a CREDIT adds to the port's credit for a channel bound to it, up to 65,535, and does nothing for any other.
A unit in bad form is discarded: on the store link it changes nothing (R106); on a station link it sets the port's link-fault flag and,
once the walk has ended, raises LINK_FAULT, and is neither queued nor answered (R155).
What is in good form (R106, R155, R170): on a station link, a frame with its length field and check whose body is of at most 1,040 bytes, a
REQUEST of 2 bytes or more or a CREDIT of 3; on the store link, a BLOCK_DATA of 65,540 bytes or a BLOCK_FAIL of 5 whose check matches. Each
such unit stands for the command of its kind, with the fields it carries; a BLOCK_FAIL with another reason byte is discarded: the model's
choice (log 20). -/
def Obligations.ArrivalsCreditAndDiscards : Prop :=
  (∀ (s : State) (p : PortId),
     (∀ body, 2 ≤ body.length → body.length ≤ 1040 →
       ((s.port p).intake.length < 4 →
         exec (.requestArrival p body) s = .next (s.setPort p { s.port p with intake := (s.port p).intake ++ [body] })) ∧
       (4 ≤ (s.port p).intake.length → (s.port p).replies.length ≤ 2 →
         exec (.requestArrival p body) s = .next (s.setPort p { s.port p with
           replies := (s.port p).replies ++ [{ kind := byteAt body 0, tag := byteAt body 1, code := .busy, fields := [] }] })) ∧
       (4 ≤ (s.port p).intake.length → 3 ≤ (s.port p).replies.length →
         ∃ t, exec (.requestArrival p body) s = .next t ∧ t.port p = { s.port p with linkFault := true } ∧
           (∀ q, q ≠ p → t.port q = s.port q) ∧ (s.inWalk = false → hasCause t.attention.flags .linkFault = true) ∧
           t.channels = s.channels ∧ t.store = s.store ∧ SameElsewhere s t)) ∧
     ∀ (channel : Byte) (amount : BitVec 16),
       (∀ c : ChannelId, channel.toNat = c.val → (s.channel c).port = some p →
         ∃ t, exec (.credit p channel amount) s = .next t ∧
           (t.port p).creditFor c = min 65535 ((s.port p).creditFor c + amount.toNat) ∧
           (∀ d, d ≠ c → (t.port p).creditFor d = (s.port p).creditFor d) ∧
           (∀ q, q ≠ p → t.port q = s.port q) ∧
           t = s.setPort p { s.port p with credit := (t.port p).credit }) ∧
       (8 ≤ channel.toNat ∨ (∃ c : ChannelId, channel.toNat = c.val ∧ (s.channel c).port ≠ some p) →
         exec (.credit p channel amount) s = .next s)) ∧
  (∀ (s : State) (bytes : List Byte) (p : PortId),
     exec (.storeMessageDiscard bytes) s = .next s ∧
     (discardsUnit bytes = true →
       ∃ t, exec (.messageDiscard p bytes) s = .next t ∧ t.port p = { s.port p with linkFault := true } ∧
         (∀ q, q ≠ p → t.port q = s.port q) ∧ (s.inWalk = false → hasCause t.attention.flags .linkFault = true) ∧
         (s.inWalk = true → t.attention = s.attention) ∧ t.channels = s.channels ∧ t.memory = s.memory ∧ t.engine = s.engine ∧
         t.store = s.store ∧ t.hold = s.hold ∧ t.pinTable = s.pinTable)) ∧
  (∀ (p : PortId) (unit : List Byte),
     (discardsUnit unit = false ↔ ∃ kind body, unit = frameMessage kind body ∧ body.length ≤ 1040 ∧
       (kind = 0x01 ∧ 2 ≤ body.length ∨ kind = 0x05 ∧ body.length = 3)) ∧
     (discardsUnit unit = true → stationCommand p unit = .messageDiscard p unit) ∧
     (∀ body, 2 ≤ body.length → body.length ≤ 1040 → stationCommand p (frameMessage 0x01 body) = .requestArrival p body) ∧
     ∀ (channel : Byte) (amount : BitVec 16),
       stationCommand p (frameMessage 0x05 (channel :: leBytes 2 amount.toNat)) = .credit p channel amount) ∧
  (∀ unit : List Byte,
     let checked := fun head : List Byte => head ++ leBytes 2 (checkSum head)
     (discardsStoreUnit unit = false ↔
       (∃ (tag : Byte) (data : List Byte), data.length = 65536 ∧ unit = checked (0x11 :: tag :: data)) ∨
         ∃ tag reason : Byte, unit = checked [0x12, tag, reason]) ∧
     (discardsStoreUnit unit = true → storeCommand unit = .storeMessageDiscard unit) ∧
     (∀ (tag : Byte) (data : List Byte), data.length = 65536 → storeCommand (checked (0x11 :: tag :: data)) = .blockData tag data) ∧
     ∀ tag reason : Byte,
       storeCommand (checked [0x12, tag, reason]) =
         if reason = 0x00 then .blockFail tag .unreadable
         else if reason = 0x01 then .blockFail tag .absent
         else .storeMessageDiscard (checked [0x12, tag, reason]))

/-- REQUEST_DISPATCH (R14, R16, R158, R159): nothing while a request is in service, the intake is empty or 4 replies wait; else the head of
the intake leaves it: BAD_REQUEST for a body that spells no request, and ROLE for one that the port's role does not admit, each at once; a
catalogue job that meets the walk, or a format that has been granted, is answered STARTING at once, and one but FORMAT_CATALOGUE that meets
the OFFLINE catalogue OFFLINE; and else the request is in service with the port's role, and a catalogue job waits for the engine, which
takes it at once where it is free.
A body spells a request exactly where its kind is one of the table of R171 and its length the one the table gives; SET_LANES needs 5 bytes
for the port to take it (R158).
The roles that admit each request (R159): every role but NONE looks up items and makes channel requests; and each other class is admitted
for the roles that the table marks. -/
def Obligations.DispatchByRole : Prop :=
  (∀ (s : State) (p : PortId),
     let q := s.port p
     (q.service ≠ none ∨ q.intake = [] ∨ 4 ≤ q.replies.length → exec (.requestDispatch p) s = .next s) ∧
     ∀ body rest, q.service = none → q.intake = body :: rest → q.replies.length ≤ 3 →
       let ended := fun code => exec (.requestDispatch p) s = .next (s.setPort p { q with
         intake := rest
         replies := q.replies ++ [{ kind := byteAt body 0, tag := byteAt body 1, code := code, fields := [] }] })
       (parseRequest body = none → ended .badRequest) ∧
       ∀ r, parseRequest body = some r →
         (q.role.admits r.class = false → ended .role) ∧
         (q.role.admits r.class = true →
           let taken := s.setPort p { q with
             intake := rest
             service := some { kind := byteAt body 0, tag := byteAt body 1, role := q.role, request := r } }
           (r.presentsJob = false → exec (.requestDispatch p) s = .next taken) ∧
           (r.presentsJob = true →
             (s.starting = true ∨ s.formatGranted = true → ended .starting) ∧
             (s.engine.condition = .offline → s.formatGranted = false → r ≠ .formatCatalogue → ended .offline) ∧
             (s.engine.condition = .offline → s.formatGranted = false → r = .formatCatalogue →
               exec (.requestDispatch p) s = .next (grantJob taken)) ∧
             (s.engine.condition = .ready → s.formatGranted = false → exec (.requestDispatch p) s = .next (grantJob taken))))) ∧
  (∀ body : List Byte,
     let table : List (Nat × Nat) :=
       [(0x10, 18), (0x11, 8), (0x12, 8), (0x13, 8), (0x14, 8), (0x15, 22), (0x16, 8), (0x17, 15), (0x18, 13), (0x19, 9), (0x1A, 8),
         (0x1B, 8), (0x1C, 9), (0x1D, 8), (0x1E, 886), (0x1F, 4), (0x20, 2), (0x28, 12), (0x29, 5), (0x30, 4), (0x31, 19), (0x32, 3),
         (0x33, 3), (0x34, 3), (0x35, 3), (0x36, 3), (0x38, 4), (0x39, 3), (0x40, 3), (0x41, 3), (0x48, 2), (0x50, 3), (0x51, 3),
         (0x52, 2), (0x53, 2), (0x54, 2), (0x55, 2), (0x58, 4), (0x59, 5)]
     let kind := (byteAt body 0).toNat
     (parseRequest body ≠ none ↔ (kind, body.length) ∈ table ∨ kind = 0x37 ∧ 5 ≤ body.length) ∧
       ∀ r, parseRequest body = some r → r.kindCode = byteAt body 0) ∧
  (∀ (role : Role) (r : Request),
     let table : List Role := match r with
       | .findItem .. | .describeItem .. | .queueCue .. | .stopChannel .. | .haltChannel .. | .resumeChannel .. | .clearCut ..
       | .flushChannel .. | .setLanes .. | .setCutoff .. | .channelStatus .. => [.production, .transfer, .catalogue, .control]
       | .pinItem .. | .unpinItem .. => [.production, .catalogue, .control]
       | .openPass .. | .addExtent .. | .closePass .. => [.transfer, .control]
       | .withdrawPass .. => [.transfer, .catalogue, .control]
       | .enterItem .. | .releaseItem .. | .reopenItem .. | .splice .. | .holdItem .. | .liftItem .. | .setGroups ..
       | .retireItem .. => [.catalogue, .control]
       | _ => [.control]
     (role.admits r.class = true ↔ role ∈ table))

/-- OUTGOING_ARBITRATION (R162, R165): while a message is being sent, nothing; else the oldest reply goes out; else the head notice, with
the notices-lost mark, which it clears; else the message of the first channel after the audio pointer that is bound to the port, holds a
message and has credit: it takes one unit of credit, its first piece goes out, the channel becomes the audio pointer and holds it no more,
what waited for the message boundary takes effect (R93, R99), and the cue's next frame and counts advance by the message's (R82). A cue with
nothing more due ends (R83, R84). One in STOPPING with nothing more on hand in its delivery run is the remainder once nothing is awaited,
whatever a read-ahead run holds (R86, R88; log 26), and stays in STOPPING while a read is in flight (R86); that its crossing is forgotten is
the model's inference (log 16). A pending cutoff behaviour is judged (R126 to R129) after the end of a cue that is complete, and before
STOPPING ends: the model's reading (log 13). With no message to send, nothing. AUDIO_PIECE (R162): the next piece goes out; with none left,
nothing. That a send with nothing to send does nothing is the model's choice (log 1).
A notice joins the tail of a queue of fewer than 16, and at 16 is dropped, with the notices-lost mark set and NOTICE_OVERFLOW raised (R165).
An audio message is cut into pieces of floor(1,024 / (lanes × word)) frames and a last one of the rest, each a frame of kind 04h with the
header of R170 and its frames' samples, the pieces together carrying every sample once, in order (R97, R162, R170). That
01h is the mark of lost notices is the model's choice (log 27). -/
def Obligations.OutgoingLink : Prop :=
  (∀ (s : State) (p : PortId),
     let q := s.port p
     let eligible := fun c : ChannelId =>
       (s.channel c).port = some p ∧ 1 ≤ q.creditFor c ∧ (s.channel c).message.isSome = true
     (q.sending ≠ [] → exec (.outgoingArbitration p) s = .next s) ∧
     (q.sending = [] →
       (∀ r rest, q.replies = r :: rest →
         exec (.outgoingArbitration p) s = .next (s.setPort p { q with replies := rest, sent := q.sent ++ [r.message] })) ∧
       (∀ n rest, q.replies = [] → q.notices = n :: rest →
         exec (.outgoingArbitration p) s = .next (s.setPort p
           { q with notices := rest, noticesLost := false, sent := q.sent ++ [n.message q.noticesLost] })) ∧
       (q.replies = [] → q.notices = [] →
         ((∀ c, ¬ eligible c) → exec (.outgoingArbitration p) s = .next s) ∧
         ∀ k : Fin 8, (∀ j : Fin 8, j < k → ¬ eligible (q.audioPointer + 1 + j)) →
           let c := q.audioPointer + 1 + k
           let ch := s.channel c
           ∀ m cur, ch.port = some p → 1 ≤ q.creditFor c → ch.message = some m → ch.current = some cur →
             let advanced := { cur with
               next := cur.next + m.count, delivered := cur.delivered + m.count, gap := cur.gap + m.gapFrames,
               concealed := cur.concealed + m.concealedFrames }
             let cutoff := ch.pendingCutoff.getD ch.cutoff
             let spared := ch.pendingCutoff = none ∨ cur.muted = true ∨ cutoff = .ignore ∨ cur.held s.hold.latches = false
             ∃ t, exec (.outgoingArbitration p) s = .next t ∧ (t.port p).creditFor c = q.creditFor c - 1 ∧
               (t.port p).audioPointer = c ∧ (t.port p).sent = q.sent ++ (m.pieces c).take 1 ∧
               (t.port p).sending = (m.pieces c).drop 1 ∧ SameElsewhere s t ∧ (∀ d, d ≠ c → t.channel d = s.channel d) ∧
               (t.channel c).lanes = ch.pendingLanes.getD ch.lanes ∧ (t.channel c).pendingLanes = none ∧
               (t.channel c).cutoff = cutoff ∧ (t.channel c).pendingCutoff = none ∧
               (ch.delivering = true →
                 (cur.next + m.count < cur.limit → spared →
                   (t.channel c).current = some advanced ∧ (t.channel c).state = ch.state) ∧
                 (cur.next + m.count = cur.limit → (t.channel c).current = none ∧
                   Reached (.cueEnded cur.tag cur.endStatus advanced.delivered advanced.gap advanced.concealed) p t ∧
                   (ch.state = .running → (t.channel c).state = if ch.queue = [] then .idle else .running) ∧
                   (ch.state = .halting → (t.channel c).state = .halted ∧ Reached .channelHalted p t))) ∧
               (ch.state = .stopping → cur.next + m.count < cur.limit → spared →
                 ((∃ b, (ch.buffer b).isInFlight = true) →
                   (t.channel c).state = .stopping ∧ (t.channel c).current = some advanced) ∧
                 ((∀ b, (ch.buffer b).isInFlight = false) → ch.job.any ChannelJob.isResolution = false → cur.muted = false →
                   (∀ r, ch.runs.head? = some r → r.stop ≤ advanced.next ∨ advanced.next < r.start) →
                   (t.channel c).state = .stopped ∧ (t.channel c).current = some { advanced with crossing := none } ∧
                     (t.channel c).message = none ∧ (t.channel c).runs = [] ∧ (∀ b, (t.channel c).buffer b = .free) ∧
                     Reached (.channelStopped (some (cur.tag, advanced.next))) p t)) ∧
               (¬ spared → cur.next + m.count < cur.limit →
                 CutEffect s.store.requests { ch with cutoff := cutoff } advanced s.hold.latches c t)))) ∧
  (∀ (s : State) (p : PortId),
     ((s.port p).sending = [] → exec (.audioPiece p) s = .next s) ∧
     ∀ piece rest, (s.port p).sending = piece :: rest →
       exec (.audioPiece p) s = .next (s.setPort p { s.port p with sending := rest, sent := (s.port p).sent ++ [piece] })) ∧
  (∀ (s : State) (p : PortId) (n : Notice),
     ((s.port p).notices.length < 16 → notify p n s = s.setPort p { s.port p with notices := (s.port p).notices ++ [n] }) ∧
     (16 ≤ (s.port p).notices.length →
       (notify p n s).port p = { s.port p with noticesLost := true } ∧ (∀ q, q ≠ p → (notify p n s).port q = s.port q) ∧
         (s.inWalk = false → hasCause (notify p n s).attention.flags .noticeOverflow = true) ∧
         (notify p n s).channels = s.channels)) ∧
  (∀ (m : Message) (c : ChannelId), 1 ≤ m.lanes → m.lanes ≤ 8 → 2 ≤ m.word → m.word ≤ 4 → m.samples.length = m.count * m.lanes →
     let size := 1024 / (m.lanes * m.word)
     let total := (m.count + size - 1) / size
     let frames := fun i => min size (m.count - i * size)
     let samples := fun i => (m.samples.drop (i * size * m.lanes)).take (frames i * m.lanes)
     (m.pieces c).length = total ∧ (List.range total).flatMap samples = m.samples ∧
       (∀ last, let flags := m.flags last
         flags < 32 ∧ flags.testBit 0 = m.lastOfCue ∧ flags.testBit 1 = m.hasGap ∧ flags.testBit 2 = m.hasConcealment ∧
           flags.testBit 3 = m.hasCutoff ∧ flags.testBit 4 = last) ∧
       ∀ i < total, 1 ≤ frames i ∧ (m.pieces c)[i]? = some (frameMessage 0x04
         ([BitVec.ofNat 8 c.val, BitVec.ofNat 8 (m.flags (decide (i + 1 = total))), BitVec.ofNat 8 m.lanes, BitVec.ofNat 8 m.word] ++
           leBytes 2 m.tag.toNat ++ leBytes 2 (frames i) ++ leBytes 4 (m.first + i * size) ++ leBytes 2 m.count ++
           [BitVec.ofNat 8 i, BitVec.ofNat 8 total] ++
           (samples i).flatMap fun v => leBytes m.word (v % 2 ^ (8 * m.word)).toNat)))

/-- ASSIGN_ROLE and SET_TIMING (R160, R163): BAD_FIELD for a field at fault; PORT_BUSY with the channels that play, in rising order: the
model's choice of the order (log 27); and else every channel bound to the target is UNBOUND with an empty queue and no cue, the target's
pins are gone and no others, it has the new role, no other port's role changes, and the reply carries the old role and the counts.
SET_TIMING names the first field at fault and changes nothing, or sets all three. -/
def Obligations.AssignRoleAndSetTiming : Prop :=
  ∀ p v s,
    (∀ (port code : Byte), Serves s p v (.assignRole port code) →
      (16 ≤ port.toNat ∨ 5 ≤ code.toNat → exec (.assignRole p) s = .next (answered p v .badField [] s)) ∧
      ∀ (q : PortId) (role : Role), port.toNat = q.val → role.code = code.toNat →
        let bound := (List.finRange 8).filter fun c => decide ((s.channel c).port = some q)
        let busy := bound.filter fun c => (s.channel c).state.playing
        (busy ≠ [] → exec (.assignRole p) s =
          .next (answered p v .portBusy (.u8 busy.length :: busy.map fun c => .u8 c.val) s)) ∧
        (busy = [] → ∃ t, exec (.assignRole p) s = .next t ∧ (t.port q).role = role ∧
          (∀ z, z ≠ q → (t.port z).role = (s.port z).role) ∧
          (∀ c, (s.channel c).port = some q → (t.channel c).state = .unbound ∧ (t.channel c).port = none ∧
            (t.channel c).queue = [] ∧ (t.channel c).current = none ∧ (t.channel c).cutoff = .stop ∧
            (t.port q).creditFor c = 0 ∧
            ∀ cur, (s.channel c).current = some cur →
              Reached (.cueEnded cur.tag .flushed cur.delivered cur.gap cur.concealed) q t) ∧
          (∀ c, (s.channel c).port ≠ some q → t.channel c = s.channel c) ∧
          t.pinTable = { s.pinTable with pins := s.pinTable.pins.filter fun x => x.port ≠ q } ∧
          (t.port q).intake = (s.port q).intake ∧ (t.port p).service = none ∧
          (t.port p).replies = (s.port p).replies ++ [{ kind := v.kind, tag := v.tag, code := .ok, fields :=
            [.u8 (s.port q).role.code, .u8 bound.length, .u8 (bound.countP fun c => (s.channel c).current.isSome),
              .u8 (s.pinTable.pins.countP fun x => x.port = q)] }] ∧
          t.memory = s.memory ∧ t.engine = s.engine ∧ t.hold = s.hold ∧ t.timing = s.timing)) ∧
    ∀ collection read retry : Byte, Serves s p v (.setTiming collection read retry) →
      (read.toNat = 0 → exec (.setTiming p) s = .next (answered p v .badField [.u8 1] s)) ∧
      (1 ≤ read.toNat → 8 ≤ retry.toNat → exec (.setTiming p) s = .next (answered p v .badField [.u8 2] s)) ∧
      (1 ≤ read.toNat → retry.toNat ≤ 7 →
        exec (.setTiming p) s = .next (answered p v .ok [.u8 collection.toNat, .u8 read.toNat, .u8 retry.toNat]
          { s with timing := { collection := collection.toNat, read := read.toNat, retry := retry.toNat } }))

/-! ### Attention -/

/-- ACK_ATTENTION, SET_ATTENTION_MASK and ATTENTION_SUMMARY (R166, R167): an acknowledgement clears each named flag but that of a level
cause whose condition holds, and the ports' link-fault flags where it names LINK_FAULT; a mask replaces the eight enables and no flag;
ATTENTION follows at once; and the summary changes nothing.
REARM_ALARM, READ_FAULT_RECORD and CLEAR_FAULT_RECORD (R168, R169): a rearm releases ALARM and clears the suppress latch, and states whether
the line had been asserted; a read carries the record, or its absence, and the further-kinds set, and changes nothing; a clear empties both,
and states whether the record had been occupied. That ATTENTION_SUMMARY sends the two conditions as two yes-or-no bytes
and the link-fault flags as sixteen, and the presence bytes of READ_FAULT_RECORD, are presumed (log 9); that 01h is yes or set in every
reply here is the model's choice (log 27). -/
def Obligations.AttentionAndFaultRecordRequests : Prop :=
  (∀ p v s,
     (∀ causes, Serves s p v (.ackAttention causes) →
       ∃ t flags, exec (.ackAttention p) s = .next t ∧
         (∀ k : Fin 8, flags.getLsbD k.val = (s.attention.flags.getLsbD k.val &&
           !(causes.getLsbD k.val && !(decide (k = 2) && s.attention.stalled) && !(decide (k = 3) && s.attention.offline)))) ∧
         t.attention = { s.attention with flags := flags, attention := decide (flags &&& s.attention.enables ≠ 0) } ∧
         (∀ q, (t.port q).linkFault = ((s.port q).linkFault && !causes.getLsbD 4)) ∧
         (∀ q, q ≠ p → t.port q = { s.port q with linkFault := (t.port q).linkFault }) ∧ (t.port p).service = none ∧
         (t.port p).replies = (s.port p).replies ++
           [{ kind := v.kind, tag := v.tag, code := .ok, fields := [.u8 flags.toNat] }] ∧
         t.channels = s.channels ∧ t.store = s.store ∧ SameElsewhere s t) ∧
     (∀ enables, Serves s p v (.setAttentionMask enables) →
       exec (.setAttentionMask p) s = .next (answered p v .ok [.u8 s.attention.enables.toNat, .u8 enables.toNat]
         { s with attention := { s.attention with
           enables := enables, attention := decide (s.attention.flags &&& enables ≠ 0) } })) ∧
     (Serves s p v .attentionSummary →
       exec (.attentionSummary p) s = .next (answered p v .ok
         ([.u8 s.attention.flags.toNat, .u8 s.attention.enables.toNat, Field.flag s.attention.stalled,
             Field.flag s.attention.offline] ++
           ((List.finRange 16).map fun q => Field.flag (s.port q).linkFault) ++
           [Field.flag s.attention.alarm, Field.flag s.attention.suppress, Field.flag s.attention.record.isSome]) s))) ∧
  (∀ p v s,
     (Serves s p v .rearmAlarm →
       exec (.rearmAlarm p) s = .next (answered p v .ok [Field.flag s.attention.alarm]
         { s with attention := { s.attention with alarm := false, suppress := false } })) ∧
     (Serves s p v .readFaultRecord →
       (s.attention.record = none →
         exec (.readFaultRecord p) s = .next (answered p v .ok [.u8 0, .u8 s.attention.further.toNat] s)) ∧
       ∀ f, s.attention.record = some f →
         exec (.readFaultRecord p) s =
           .next (answered p v .ok (.u8 1 :: f.fields ++ [.u8 s.attention.further.toNat]) s)) ∧
     (Serves s p v .clearFaultRecord →
       exec (.clearFaultRecord p) s = .next (answered p v .ok [Field.flag s.attention.record.isSome]
         { s with attention := { s.attention with record := none, further := 0 } })))
end

