-- ==== Sys2Proof/Laws/State.lean ====
section
/-! SUPPORT. One lemma for each field of the state under each named update, and for each accessor, true by `rfl`. -/

namespace Sys2Proof.Machine

variable (s : State)

/-! ### WordCondition -/

@[simp] theorem clean_damaged : WordCondition.clean.damaged = 0 := rfl
@[simp] theorem clean_lost : WordCondition.clean.lost = false := rfl
@[simp] theorem afterRead_damaged (k : WordCondition) : k.afterRead.damaged = 0 := rfl
@[simp] theorem afterRead_lost (k : WordCondition) : k.afterRead.lost = k.lost := rfl
@[simp] theorem afterRead_clean : WordCondition.clean.afterRead = .clean := rfl

/-! ### The runs of a channel in STOPPING, and else -/

theorem deliveryRuns_of_stopping {ch : Channel} (h : ch.state = .stopping) : ch.deliveryRuns = ch.runs.take 1 := if_pos h
theorem deliveryRuns_of_not_stopping {ch : Channel} (h : ch.state ≠ .stopping) : ch.deliveryRuns = ch.runs := if_neg h
theorem runsAfter_of_stopping {ch : Channel} (h : ch.state = .stopping) (n : Nat) : ch.runsAfter n = ch.runs := if_pos h
theorem runsAfter_of_not_stopping {ch : Channel} (h : ch.state ≠ .stopping) (n : Nat) :
    ch.runsAfter n = ch.runs.dropWhile fun r => decide (r.stop ≤ n) := if_neg h

/-! ### State.setPort -/

@[simp] theorem setPort_memory (p : PortId) (q : Port) : (s.setPort p q).memory = s.memory := rfl
@[simp] theorem setPort_engine (p : PortId) (q : Port) : (s.setPort p q).engine = s.engine := rfl
@[simp] theorem setPort_arbiter (p : PortId) (q : Port) : (s.setPort p q).arbiter = s.arbiter := rfl
@[simp] theorem setPort_hold (p : PortId) (q : Port) : (s.setPort p q).hold = s.hold := rfl
@[simp] theorem setPort_pinTable (p : PortId) (q : Port) : (s.setPort p q).pinTable = s.pinTable := rfl
@[simp] theorem setPort_attention (p : PortId) (q : Port) : (s.setPort p q).attention = s.attention := rfl
@[simp] theorem setPort_store (p : PortId) (q : Port) : (s.setPort p q).store = s.store := rfl
@[simp] theorem setPort_timing (p : PortId) (q : Port) : (s.setPort p q).timing = s.timing := rfl
@[simp] theorem setPort_ports (p : PortId) (q : Port) : (s.setPort p q).ports = rowSet s.ports p q := rfl
@[simp] theorem setPort_channels (p : PortId) (q : Port) : (s.setPort p q).channels = s.channels := rfl
@[simp] theorem setPort_moments (p : PortId) (q : Port) : (s.setPort p q).moments = s.moments := rfl
@[simp] theorem setPort_pending (p : PortId) (q : Port) : (s.setPort p q).pending = s.pending := rfl
@[simp] theorem setPort_channel (p : PortId) (q : Port) (y : ChannelId) : (s.setPort p q).channel y = s.channel y := rfl
@[simp] theorem setPort_record (p : PortId) (q : Port) (y : Slot) : (s.setPort p q).record y = s.record y := rfl
@[simp] theorem setPort_isFaulted (p : PortId) (q : Port) (y : Slot) : (s.setPort p q).isFaulted y = s.isFaulted y := rfl
@[simp] theorem setPort_engagedSlot (p : PortId) (q : Port) (y : ChannelId) : (s.setPort p q).engagedSlot y = s.engagedSlot y := rfl
@[simp] theorem setPort_readSlot (p : PortId) (q : Port) (y : ReadTag) : (s.setPort p q).readSlot y = s.readSlot y := rfl
@[simp] theorem setPort_inWalk (p : PortId) (q : Port) : (s.setPort p q).inWalk = s.inWalk := rfl
@[simp] theorem setPort_starting (p : PortId) (q : Port) : (s.setPort p q).starting = s.starting := rfl
@[simp] theorem setPort_isOffline (p : PortId) (q : Port) : (s.setPort p q).isOffline = s.isOffline := rfl

/-! ### State.setChannel -/

@[simp] theorem setChannel_memory (c : ChannelId) (x : Channel) : (s.setChannel c x).memory = s.memory := rfl
@[simp] theorem setChannel_engine (c : ChannelId) (x : Channel) : (s.setChannel c x).engine = s.engine := rfl
@[simp] theorem setChannel_arbiter (c : ChannelId) (x : Channel) : (s.setChannel c x).arbiter = s.arbiter := rfl
@[simp] theorem setChannel_hold (c : ChannelId) (x : Channel) : (s.setChannel c x).hold = s.hold := rfl
@[simp] theorem setChannel_pinTable (c : ChannelId) (x : Channel) : (s.setChannel c x).pinTable = s.pinTable := rfl
@[simp] theorem setChannel_attention (c : ChannelId) (x : Channel) : (s.setChannel c x).attention = s.attention := rfl
@[simp] theorem setChannel_store (c : ChannelId) (x : Channel) : (s.setChannel c x).store = s.store := rfl
@[simp] theorem setChannel_timing (c : ChannelId) (x : Channel) : (s.setChannel c x).timing = s.timing := rfl
@[simp] theorem setChannel_ports (c : ChannelId) (x : Channel) : (s.setChannel c x).ports = s.ports := rfl
@[simp] theorem setChannel_channels (c : ChannelId) (x : Channel) : (s.setChannel c x).channels = rowSet s.channels c x := rfl
@[simp] theorem setChannel_moments (c : ChannelId) (x : Channel) : (s.setChannel c x).moments = s.moments := rfl
@[simp] theorem setChannel_pending (c : ChannelId) (x : Channel) : (s.setChannel c x).pending = s.pending := rfl
@[simp] theorem setChannel_port (c : ChannelId) (x : Channel) (y : PortId) : (s.setChannel c x).port y = s.port y := rfl
@[simp] theorem setChannel_record (c : ChannelId) (x : Channel) (y : Slot) : (s.setChannel c x).record y = s.record y := rfl
@[simp] theorem setChannel_isFaulted (c : ChannelId) (x : Channel) (y : Slot) : (s.setChannel c x).isFaulted y = s.isFaulted y := rfl
@[simp] theorem setChannel_engagedSlot (c : ChannelId) (x : Channel) (y : ChannelId) : (s.setChannel c x).engagedSlot y = s.engagedSlot y := rfl
@[simp] theorem setChannel_readSlot (c : ChannelId) (x : Channel) (y : ReadTag) : (s.setChannel c x).readSlot y = s.readSlot y := rfl
@[simp] theorem setChannel_inWalk (c : ChannelId) (x : Channel) : (s.setChannel c x).inWalk = s.inWalk := rfl
@[simp] theorem setChannel_starting (c : ChannelId) (x : Channel) : (s.setChannel c x).starting = s.starting := rfl
@[simp] theorem setChannel_isOffline (c : ChannelId) (x : Channel) : (s.setChannel c x).isOffline = s.isOffline := rfl

/-! ### State.setEngine -/

@[simp] theorem setEngine_memory (e : Engine) : (s.setEngine e).memory = s.memory := rfl
@[simp] theorem setEngine_engine (e : Engine) : (s.setEngine e).engine = e := rfl
@[simp] theorem setEngine_arbiter (e : Engine) : (s.setEngine e).arbiter = s.arbiter := rfl
@[simp] theorem setEngine_hold (e : Engine) : (s.setEngine e).hold = s.hold := rfl
@[simp] theorem setEngine_pinTable (e : Engine) : (s.setEngine e).pinTable = s.pinTable := rfl
@[simp] theorem setEngine_attention (e : Engine) : (s.setEngine e).attention = s.attention := rfl
@[simp] theorem setEngine_store (e : Engine) : (s.setEngine e).store = s.store := rfl
@[simp] theorem setEngine_timing (e : Engine) : (s.setEngine e).timing = s.timing := rfl
@[simp] theorem setEngine_ports (e : Engine) : (s.setEngine e).ports = s.ports := rfl
@[simp] theorem setEngine_channels (e : Engine) : (s.setEngine e).channels = s.channels := rfl
@[simp] theorem setEngine_moments (e : Engine) : (s.setEngine e).moments = s.moments := rfl
@[simp] theorem setEngine_pending (e : Engine) : (s.setEngine e).pending = s.pending := rfl
@[simp] theorem setEngine_port (e : Engine) (y : PortId) : (s.setEngine e).port y = s.port y := rfl
@[simp] theorem setEngine_channel (e : Engine) (y : ChannelId) : (s.setEngine e).channel y = s.channel y := rfl
@[simp] theorem setEngine_record (e : Engine) (y : Slot) : (s.setEngine e).record y = s.record y := rfl
@[simp] theorem setEngine_readSlot (e : Engine) (y : ReadTag) : (s.setEngine e).readSlot y = s.readSlot y := rfl

/-! ### State.setEngagement -/

@[simp] theorem setEngagement_memory (c : ChannelId) (x : Option Slot) : (s.setEngagement c x).memory = s.memory := rfl
@[simp] theorem setEngagement_engine (c : ChannelId) (x : Option Slot) : (s.setEngagement c x).engine = { s.engine with engagement := rowSet s.engine.engagement c x } := rfl
@[simp] theorem setEngagement_arbiter (c : ChannelId) (x : Option Slot) : (s.setEngagement c x).arbiter = s.arbiter := rfl
@[simp] theorem setEngagement_hold (c : ChannelId) (x : Option Slot) : (s.setEngagement c x).hold = s.hold := rfl
@[simp] theorem setEngagement_pinTable (c : ChannelId) (x : Option Slot) : (s.setEngagement c x).pinTable = s.pinTable := rfl
@[simp] theorem setEngagement_attention (c : ChannelId) (x : Option Slot) : (s.setEngagement c x).attention = s.attention := rfl
@[simp] theorem setEngagement_store (c : ChannelId) (x : Option Slot) : (s.setEngagement c x).store = s.store := rfl
@[simp] theorem setEngagement_timing (c : ChannelId) (x : Option Slot) : (s.setEngagement c x).timing = s.timing := rfl
@[simp] theorem setEngagement_ports (c : ChannelId) (x : Option Slot) : (s.setEngagement c x).ports = s.ports := rfl
@[simp] theorem setEngagement_channels (c : ChannelId) (x : Option Slot) : (s.setEngagement c x).channels = s.channels := rfl
@[simp] theorem setEngagement_moments (c : ChannelId) (x : Option Slot) : (s.setEngagement c x).moments = s.moments := rfl
@[simp] theorem setEngagement_pending (c : ChannelId) (x : Option Slot) : (s.setEngagement c x).pending = s.pending := rfl
@[simp] theorem setEngagement_port (c : ChannelId) (x : Option Slot) (y : PortId) : (s.setEngagement c x).port y = s.port y := rfl
@[simp] theorem setEngagement_channel (c : ChannelId) (x : Option Slot) (y : ChannelId) : (s.setEngagement c x).channel y = s.channel y := rfl
@[simp] theorem setEngagement_record (c : ChannelId) (x : Option Slot) (y : Slot) : (s.setEngagement c x).record y = s.record y := rfl
@[simp] theorem setEngagement_readSlot (c : ChannelId) (x : Option Slot) (y : ReadTag) : (s.setEngagement c x).readSlot y = s.readSlot y := rfl

/-! ### State.writeRecord -/

@[simp] theorem writeRecord_memory (x : Slot) (r : Record) : (s.writeRecord x r).memory = { s.memory with records := sparseSet Record.freed s.memory.records x.val r } := rfl
@[simp] theorem writeRecord_engine (x : Slot) (r : Record) : (s.writeRecord x r).engine = s.engine := rfl
@[simp] theorem writeRecord_arbiter (x : Slot) (r : Record) : (s.writeRecord x r).arbiter = s.arbiter := rfl
@[simp] theorem writeRecord_hold (x : Slot) (r : Record) : (s.writeRecord x r).hold = s.hold := rfl
@[simp] theorem writeRecord_pinTable (x : Slot) (r : Record) : (s.writeRecord x r).pinTable = s.pinTable := rfl
@[simp] theorem writeRecord_attention (x : Slot) (r : Record) : (s.writeRecord x r).attention = s.attention := rfl
@[simp] theorem writeRecord_store (x : Slot) (r : Record) : (s.writeRecord x r).store = s.store := rfl
@[simp] theorem writeRecord_timing (x : Slot) (r : Record) : (s.writeRecord x r).timing = s.timing := rfl
@[simp] theorem writeRecord_ports (x : Slot) (r : Record) : (s.writeRecord x r).ports = s.ports := rfl
@[simp] theorem writeRecord_channels (x : Slot) (r : Record) : (s.writeRecord x r).channels = s.channels := rfl
@[simp] theorem writeRecord_moments (x : Slot) (r : Record) : (s.writeRecord x r).moments = s.moments := rfl
@[simp] theorem writeRecord_pending (x : Slot) (r : Record) : (s.writeRecord x r).pending = s.pending := rfl
@[simp] theorem writeRecord_port (x : Slot) (r : Record) (y : PortId) : (s.writeRecord x r).port y = s.port y := rfl
@[simp] theorem writeRecord_channel (x : Slot) (r : Record) (y : ChannelId) : (s.writeRecord x r).channel y = s.channel y := rfl
@[simp] theorem writeRecord_isFaulted (x : Slot) (r : Record) (y : Slot) : (s.writeRecord x r).isFaulted y = s.isFaulted y := rfl
@[simp] theorem writeRecord_engagedSlot (x : Slot) (r : Record) (y : ChannelId) : (s.writeRecord x r).engagedSlot y = s.engagedSlot y := rfl
@[simp] theorem writeRecord_readSlot (x : Slot) (r : Record) (y : ReadTag) : (s.writeRecord x r).readSlot y = s.readSlot y := rfl
@[simp] theorem writeRecord_inWalk (x : Slot) (r : Record) : (s.writeRecord x r).inWalk = s.inWalk := rfl
@[simp] theorem writeRecord_starting (x : Slot) (r : Record) : (s.writeRecord x r).starting = s.starting := rfl
@[simp] theorem writeRecord_isOffline (x : Slot) (r : Record) : (s.writeRecord x r).isOffline = s.isOffline := rfl

/-! ### State.setStore -/

@[simp] theorem setStore_memory (r : StoreReader) : (s.setStore r).memory = s.memory := rfl
@[simp] theorem setStore_engine (r : StoreReader) : (s.setStore r).engine = s.engine := rfl
@[simp] theorem setStore_arbiter (r : StoreReader) : (s.setStore r).arbiter = s.arbiter := rfl
@[simp] theorem setStore_hold (r : StoreReader) : (s.setStore r).hold = s.hold := rfl
@[simp] theorem setStore_pinTable (r : StoreReader) : (s.setStore r).pinTable = s.pinTable := rfl
@[simp] theorem setStore_attention (r : StoreReader) : (s.setStore r).attention = s.attention := rfl
@[simp] theorem setStore_store (r : StoreReader) : (s.setStore r).store = r := rfl
@[simp] theorem setStore_timing (r : StoreReader) : (s.setStore r).timing = s.timing := rfl
@[simp] theorem setStore_ports (r : StoreReader) : (s.setStore r).ports = s.ports := rfl
@[simp] theorem setStore_channels (r : StoreReader) : (s.setStore r).channels = s.channels := rfl
@[simp] theorem setStore_moments (r : StoreReader) : (s.setStore r).moments = s.moments := rfl
@[simp] theorem setStore_pending (r : StoreReader) : (s.setStore r).pending = s.pending := rfl
@[simp] theorem setStore_port (r : StoreReader) (y : PortId) : (s.setStore r).port y = s.port y := rfl
@[simp] theorem setStore_channel (r : StoreReader) (y : ChannelId) : (s.setStore r).channel y = s.channel y := rfl
@[simp] theorem setStore_record (r : StoreReader) (y : Slot) : (s.setStore r).record y = s.record y := rfl
@[simp] theorem setStore_isFaulted (r : StoreReader) (y : Slot) : (s.setStore r).isFaulted y = s.isFaulted y := rfl
@[simp] theorem setStore_engagedSlot (r : StoreReader) (y : ChannelId) : (s.setStore r).engagedSlot y = s.engagedSlot y := rfl
@[simp] theorem setStore_inWalk (r : StoreReader) : (s.setStore r).inWalk = s.inWalk := rfl
@[simp] theorem setStore_starting (r : StoreReader) : (s.setStore r).starting = s.starting := rfl
@[simp] theorem setStore_isOffline (r : StoreReader) : (s.setStore r).isOffline = s.isOffline := rfl

/-! ### State.setReadSlot -/

@[simp] theorem setReadSlot_memory (t : ReadTag) (x : ReadSlot) : (s.setReadSlot t x).memory = s.memory := rfl
@[simp] theorem setReadSlot_engine (t : ReadTag) (x : ReadSlot) : (s.setReadSlot t x).engine = s.engine := rfl
@[simp] theorem setReadSlot_arbiter (t : ReadTag) (x : ReadSlot) : (s.setReadSlot t x).arbiter = s.arbiter := rfl
@[simp] theorem setReadSlot_hold (t : ReadTag) (x : ReadSlot) : (s.setReadSlot t x).hold = s.hold := rfl
@[simp] theorem setReadSlot_pinTable (t : ReadTag) (x : ReadSlot) : (s.setReadSlot t x).pinTable = s.pinTable := rfl
@[simp] theorem setReadSlot_attention (t : ReadTag) (x : ReadSlot) : (s.setReadSlot t x).attention = s.attention := rfl
@[simp] theorem setReadSlot_store (t : ReadTag) (x : ReadSlot) : (s.setReadSlot t x).store = { s.store with slots := rowSet s.store.slots t x } := rfl
@[simp] theorem setReadSlot_timing (t : ReadTag) (x : ReadSlot) : (s.setReadSlot t x).timing = s.timing := rfl
@[simp] theorem setReadSlot_ports (t : ReadTag) (x : ReadSlot) : (s.setReadSlot t x).ports = s.ports := rfl
@[simp] theorem setReadSlot_channels (t : ReadTag) (x : ReadSlot) : (s.setReadSlot t x).channels = s.channels := rfl
@[simp] theorem setReadSlot_moments (t : ReadTag) (x : ReadSlot) : (s.setReadSlot t x).moments = s.moments := rfl
@[simp] theorem setReadSlot_pending (t : ReadTag) (x : ReadSlot) : (s.setReadSlot t x).pending = s.pending := rfl
@[simp] theorem setReadSlot_port (t : ReadTag) (x : ReadSlot) (y : PortId) : (s.setReadSlot t x).port y = s.port y := rfl
@[simp] theorem setReadSlot_channel (t : ReadTag) (x : ReadSlot) (y : ChannelId) : (s.setReadSlot t x).channel y = s.channel y := rfl
@[simp] theorem setReadSlot_record (t : ReadTag) (x : ReadSlot) (y : Slot) : (s.setReadSlot t x).record y = s.record y := rfl
@[simp] theorem setReadSlot_isFaulted (t : ReadTag) (x : ReadSlot) (y : Slot) : (s.setReadSlot t x).isFaulted y = s.isFaulted y := rfl
@[simp] theorem setReadSlot_engagedSlot (t : ReadTag) (x : ReadSlot) (y : ChannelId) : (s.setReadSlot t x).engagedSlot y = s.engagedSlot y := rfl
@[simp] theorem setReadSlot_inWalk (t : ReadTag) (x : ReadSlot) : (s.setReadSlot t x).inWalk = s.inWalk := rfl
@[simp] theorem setReadSlot_starting (t : ReadTag) (x : ReadSlot) : (s.setReadSlot t x).starting = s.starting := rfl
@[simp] theorem setReadSlot_isOffline (t : ReadTag) (x : ReadSlot) : (s.setReadSlot t x).isOffline = s.isOffline := rfl

/-! ### State.setHold -/

@[simp] theorem setHold_memory (h : HoldUnit) : (s.setHold h).memory = s.memory := rfl
@[simp] theorem setHold_engine (h : HoldUnit) : (s.setHold h).engine = s.engine := rfl
@[simp] theorem setHold_arbiter (h : HoldUnit) : (s.setHold h).arbiter = s.arbiter := rfl
@[simp] theorem setHold_hold (h : HoldUnit) : (s.setHold h).hold = h := rfl
@[simp] theorem setHold_pinTable (h : HoldUnit) : (s.setHold h).pinTable = s.pinTable := rfl
@[simp] theorem setHold_attention (h : HoldUnit) : (s.setHold h).attention = s.attention := rfl
@[simp] theorem setHold_store (h : HoldUnit) : (s.setHold h).store = s.store := rfl
@[simp] theorem setHold_timing (h : HoldUnit) : (s.setHold h).timing = s.timing := rfl
@[simp] theorem setHold_ports (h : HoldUnit) : (s.setHold h).ports = s.ports := rfl
@[simp] theorem setHold_channels (h : HoldUnit) : (s.setHold h).channels = s.channels := rfl
@[simp] theorem setHold_moments (h : HoldUnit) : (s.setHold h).moments = s.moments := rfl
@[simp] theorem setHold_pending (h : HoldUnit) : (s.setHold h).pending = s.pending := rfl
@[simp] theorem setHold_port (h : HoldUnit) (y : PortId) : (s.setHold h).port y = s.port y := rfl
@[simp] theorem setHold_channel (h : HoldUnit) (y : ChannelId) : (s.setHold h).channel y = s.channel y := rfl
@[simp] theorem setHold_record (h : HoldUnit) (y : Slot) : (s.setHold h).record y = s.record y := rfl
@[simp] theorem setHold_isFaulted (h : HoldUnit) (y : Slot) : (s.setHold h).isFaulted y = s.isFaulted y := rfl
@[simp] theorem setHold_engagedSlot (h : HoldUnit) (y : ChannelId) : (s.setHold h).engagedSlot y = s.engagedSlot y := rfl
@[simp] theorem setHold_readSlot (h : HoldUnit) (y : ReadTag) : (s.setHold h).readSlot y = s.readSlot y := rfl
@[simp] theorem setHold_inWalk (h : HoldUnit) : (s.setHold h).inWalk = s.inWalk := rfl
@[simp] theorem setHold_starting (h : HoldUnit) : (s.setHold h).starting = s.starting := rfl
@[simp] theorem setHold_isOffline (h : HoldUnit) : (s.setHold h).isOffline = s.isOffline := rfl

/-! ### State.setPins -/

@[simp] theorem setPins_memory (l : List Pin) : (s.setPins l).memory = s.memory := rfl
@[simp] theorem setPins_engine (l : List Pin) : (s.setPins l).engine = s.engine := rfl
@[simp] theorem setPins_arbiter (l : List Pin) : (s.setPins l).arbiter = s.arbiter := rfl
@[simp] theorem setPins_hold (l : List Pin) : (s.setPins l).hold = s.hold := rfl
@[simp] theorem setPins_pinTable (l : List Pin) : (s.setPins l).pinTable = { s.pinTable with pins := l } := rfl
@[simp] theorem setPins_attention (l : List Pin) : (s.setPins l).attention = s.attention := rfl
@[simp] theorem setPins_store (l : List Pin) : (s.setPins l).store = s.store := rfl
@[simp] theorem setPins_timing (l : List Pin) : (s.setPins l).timing = s.timing := rfl
@[simp] theorem setPins_ports (l : List Pin) : (s.setPins l).ports = s.ports := rfl
@[simp] theorem setPins_channels (l : List Pin) : (s.setPins l).channels = s.channels := rfl
@[simp] theorem setPins_moments (l : List Pin) : (s.setPins l).moments = s.moments := rfl
@[simp] theorem setPins_pending (l : List Pin) : (s.setPins l).pending = s.pending := rfl
@[simp] theorem setPins_port (l : List Pin) (y : PortId) : (s.setPins l).port y = s.port y := rfl
@[simp] theorem setPins_channel (l : List Pin) (y : ChannelId) : (s.setPins l).channel y = s.channel y := rfl
@[simp] theorem setPins_record (l : List Pin) (y : Slot) : (s.setPins l).record y = s.record y := rfl
@[simp] theorem setPins_isFaulted (l : List Pin) (y : Slot) : (s.setPins l).isFaulted y = s.isFaulted y := rfl
@[simp] theorem setPins_engagedSlot (l : List Pin) (y : ChannelId) : (s.setPins l).engagedSlot y = s.engagedSlot y := rfl
@[simp] theorem setPins_readSlot (l : List Pin) (y : ReadTag) : (s.setPins l).readSlot y = s.readSlot y := rfl
@[simp] theorem setPins_inWalk (l : List Pin) : (s.setPins l).inWalk = s.inWalk := rfl
@[simp] theorem setPins_starting (l : List Pin) : (s.setPins l).starting = s.starting := rfl
@[simp] theorem setPins_isOffline (l : List Pin) : (s.setPins l).isOffline = s.isOffline := rfl

/-! ### State.setAttention -/

@[simp] theorem setAttention_memory (a : Attention) : (s.setAttention a).memory = s.memory := rfl
@[simp] theorem setAttention_engine (a : Attention) : (s.setAttention a).engine = s.engine := rfl
@[simp] theorem setAttention_arbiter (a : Attention) : (s.setAttention a).arbiter = s.arbiter := rfl
@[simp] theorem setAttention_hold (a : Attention) : (s.setAttention a).hold = s.hold := rfl
@[simp] theorem setAttention_pinTable (a : Attention) : (s.setAttention a).pinTable = s.pinTable := rfl
@[simp] theorem setAttention_attention (a : Attention) : (s.setAttention a).attention = a := rfl
@[simp] theorem setAttention_store (a : Attention) : (s.setAttention a).store = s.store := rfl
@[simp] theorem setAttention_timing (a : Attention) : (s.setAttention a).timing = s.timing := rfl
@[simp] theorem setAttention_ports (a : Attention) : (s.setAttention a).ports = s.ports := rfl
@[simp] theorem setAttention_channels (a : Attention) : (s.setAttention a).channels = s.channels := rfl
@[simp] theorem setAttention_moments (a : Attention) : (s.setAttention a).moments = s.moments := rfl
@[simp] theorem setAttention_pending (a : Attention) : (s.setAttention a).pending = s.pending := rfl
@[simp] theorem setAttention_port (a : Attention) (y : PortId) : (s.setAttention a).port y = s.port y := rfl
@[simp] theorem setAttention_channel (a : Attention) (y : ChannelId) : (s.setAttention a).channel y = s.channel y := rfl
@[simp] theorem setAttention_record (a : Attention) (y : Slot) : (s.setAttention a).record y = s.record y := rfl
@[simp] theorem setAttention_isFaulted (a : Attention) (y : Slot) : (s.setAttention a).isFaulted y = s.isFaulted y := rfl
@[simp] theorem setAttention_engagedSlot (a : Attention) (y : ChannelId) : (s.setAttention a).engagedSlot y = s.engagedSlot y := rfl
@[simp] theorem setAttention_readSlot (a : Attention) (y : ReadTag) : (s.setAttention a).readSlot y = s.readSlot y := rfl
@[simp] theorem setAttention_inWalk (a : Attention) : (s.setAttention a).inWalk = s.inWalk := rfl
@[simp] theorem setAttention_starting (a : Attention) : (s.setAttention a).starting = s.starting := rfl
@[simp] theorem setAttention_isOffline (a : Attention) : (s.setAttention a).isOffline = s.isOffline := rfl

/-! ### State.withPending -/

@[simp] theorem withPending_memory (l : List Instr) : (s.withPending l).memory = s.memory := rfl
@[simp] theorem withPending_engine (l : List Instr) : (s.withPending l).engine = s.engine := rfl
@[simp] theorem withPending_arbiter (l : List Instr) : (s.withPending l).arbiter = s.arbiter := rfl
@[simp] theorem withPending_hold (l : List Instr) : (s.withPending l).hold = s.hold := rfl
@[simp] theorem withPending_pinTable (l : List Instr) : (s.withPending l).pinTable = s.pinTable := rfl
@[simp] theorem withPending_attention (l : List Instr) : (s.withPending l).attention = s.attention := rfl
@[simp] theorem withPending_store (l : List Instr) : (s.withPending l).store = s.store := rfl
@[simp] theorem withPending_timing (l : List Instr) : (s.withPending l).timing = s.timing := rfl
@[simp] theorem withPending_ports (l : List Instr) : (s.withPending l).ports = s.ports := rfl
@[simp] theorem withPending_channels (l : List Instr) : (s.withPending l).channels = s.channels := rfl
@[simp] theorem withPending_moments (l : List Instr) : (s.withPending l).moments = s.moments := rfl
@[simp] theorem withPending_pending (l : List Instr) : (s.withPending l).pending = l := rfl
@[simp] theorem withPending_port (l : List Instr) (y : PortId) : (s.withPending l).port y = s.port y := rfl
@[simp] theorem withPending_channel (l : List Instr) (y : ChannelId) : (s.withPending l).channel y = s.channel y := rfl
@[simp] theorem withPending_record (l : List Instr) (y : Slot) : (s.withPending l).record y = s.record y := rfl
@[simp] theorem withPending_isFaulted (l : List Instr) (y : Slot) : (s.withPending l).isFaulted y = s.isFaulted y := rfl
@[simp] theorem withPending_engagedSlot (l : List Instr) (y : ChannelId) : (s.withPending l).engagedSlot y = s.engagedSlot y := rfl
@[simp] theorem withPending_readSlot (l : List Instr) (y : ReadTag) : (s.withPending l).readSlot y = s.readSlot y := rfl
@[simp] theorem withPending_inWalk (l : List Instr) : (s.withPending l).inWalk = s.inWalk := rfl
@[simp] theorem withPending_starting (l : List Instr) : (s.withPending l).starting = s.starting := rfl
@[simp] theorem withPending_isOffline (l : List Instr) : (s.withPending l).isOffline = s.isOffline := rfl

end Sys2Proof.Machine
end

