-- ==== Sys2Proof/Laws/Tables.lean ====
section
/-! SUPPORT. The laws of the tables of the state: fixed rows and sparse tables, read after write, and that a write keeps the
canonical form of catalogue memory and of the directory. -/

namespace Sys2Proof.Machine

/-! ### Fixed rows -/

@[simp] theorem rowGet_rowSet_self {α : Type} {n : Nat} (v : Vector α n) (i : Fin n) (x : α) :
    rowGet (rowSet v i x) i = x := by
  simp [rowGet, rowSet]

theorem rowGet_rowSet_ne {α : Type} {n : Nat} (v : Vector α n) {i j : Fin n} (x : α) (h : j ≠ i) :
    rowGet (rowSet v i x) j = rowGet v j := by
  have : i.val ≠ j.val := fun e => h (Fin.ext e.symm)
  simp [rowGet, rowSet, this]

theorem rowGet_rowSet {α : Type} {n : Nat} (v : Vector α n) (i j : Fin n) (x : α) :
    rowGet (rowSet v i x) j = if j = i then x else rowGet v j := by
  by_cases h : j = i
  · subst h; simp
  · simp [rowGet_rowSet_ne v x h, h]

theorem row_ext {α : Type} {n : Nat} {v w : Vector α n} (h : ∀ i, rowGet v i = rowGet w i) : v = w := by
  ext i hi
  exact h ⟨i, hi⟩

@[simp] theorem rowSet_rowSet {α : Type} {n : Nat} (v : Vector α n) (i : Fin n) (x y : α) :
    rowSet (rowSet v i x) i y = rowSet v i y :=
  row_ext fun j => by by_cases h : j = i <;> simp [rowGet_rowSet, h]

@[simp] theorem rowSet_rowGet {α : Type} {n : Nat} (v : Vector α n) (i : Fin n) : rowSet v i (rowGet v i) = v :=
  row_ext fun j => by
    by_cases h : j = i
    · subst h; simp
    · simp [rowGet_rowSet, h]

@[simp] theorem rowGet_map {α β : Type} {n : Nat} (f : α → β) (v : Vector α n) (i : Fin n) :
    rowGet (v.map f) i = f (rowGet v i) := by
  simp [rowGet]

@[simp] theorem rowGet_ofFn {α : Type} {n : Nat} (f : Fin n → α) (i : Fin n) : rowGet (Vector.ofFn f) i = f i := by
  simp [rowGet]

@[simp] theorem rowGet_replicate {α : Type} {n : Nat} (x : α) (i : Fin n) : rowGet (Vector.replicate n x) i = x := by
  simp [rowGet]

theorem mem_toList_iff {α : Type} {n : Nat} (v : Vector α n) (x : α) : x ∈ v.toList ↔ ∃ i, rowGet v i = x := by
  rw [Vector.mem_toList_iff, Vector.mem_iff_getElem]
  constructor
  · rintro ⟨i, hi, h⟩; exact ⟨⟨i, hi⟩, h⟩
  · rintro ⟨i, h⟩; exact ⟨i.val, i.isLt, h⟩

/-! ### Ports, channels, read slots, engagements -/

theorem port_setPort (s : State) (p y : PortId) (q : Port) : (s.setPort p q).port y = if y = p then q else s.port y :=
  rowGet_rowSet ..

@[simp] theorem port_setPort_self (s : State) (p : PortId) (q : Port) : (s.setPort p q).port p = q := by
  simp [port_setPort]

@[simp] theorem setPort_setPort (s : State) (p : PortId) (q r : Port) : (s.setPort p q).setPort p r = s.setPort p r := by
  simp [State.setPort]

@[simp] theorem setPort_port (s : State) (p : PortId) : s.setPort p (s.port p) = s := by
  simp [State.setPort, State.port]

theorem channel_setChannel (s : State) (c y : ChannelId) (x : Channel) :
    (s.setChannel c x).channel y = if y = c then x else s.channel y :=
  rowGet_rowSet ..

@[simp] theorem channel_setChannel_self (s : State) (c : ChannelId) (x : Channel) : (s.setChannel c x).channel c = x := by
  simp [channel_setChannel]

@[simp] theorem setChannel_setChannel (s : State) (c : ChannelId) (x y : Channel) :
    (s.setChannel c x).setChannel c y = s.setChannel c y := by
  simp [State.setChannel]

@[simp] theorem setChannel_channel (s : State) (c : ChannelId) : s.setChannel c (s.channel c) = s := by
  simp [State.setChannel, State.channel]

theorem readSlot_setReadSlot (s : State) (t y : ReadTag) (x : ReadSlot) :
    (s.setReadSlot t x).readSlot y = if y = t then x else s.readSlot y :=
  rowGet_rowSet ..

theorem engagedSlot_setEngagement (s : State) (c y : ChannelId) (x : Option Slot) :
    (s.setEngagement c x).engagedSlot y = if y = c then x else s.engagedSlot y :=
  rowGet_rowSet ..

theorem creditFor_withCredit (q : Port) (c y : ChannelId) (n : Nat) :
    (q.withCredit c n).creditFor y = if y = c then n else q.creditFor y :=
  rowGet_rowSet ..

/-! ### Sparse tables -/

section Sparse

variable {α : Type} (d : α)

theorem sparseGet_insert (table : List (Nat × α)) (n m : Nat) (x : α) :
    sparseGet d (sparseInsert n x table) m = if m = n then x else sparseGet d table m := by
  induction table with
  | nil => simp [sparseInsert, sparseGet]
  | cons e rest ih =>
    obtain ⟨k, v⟩ := e
    simp only [sparseInsert]
    split
    · simp [sparseGet]
    · split
      · next h => subst h; simp only [sparseGet]; split <;> simp_all
      · next hn =>
        simp only [sparseGet, ih]
        split
        · next h => subst h; simp [Ne.symm hn]
        · rfl

theorem sparseGet_of_not_mem (table : List (Nat × α)) (n : Nat) (h : ∀ e ∈ table, e.1 ≠ n) : sparseGet d table n = d := by
  induction table with
  | nil => rfl
  | cons e rest ih =>
    obtain ⟨k, v⟩ := e
    have hk : n ≠ k := fun eq => h (k, v) (by simp) eq.symm
    simp only [sparseGet, hk, if_false]
    exact ih fun e he => h e (by simp [he])

theorem sparseGet_filter (table : List (Nat × α)) (n m : Nat) :
    sparseGet d (table.filter fun e => e.1 ≠ n) m = if m = n then d else sparseGet d table m := by
  induction table with
  | nil => simp [sparseGet]
  | cons e rest ih =>
    obtain ⟨k, v⟩ := e
    by_cases hk : k = n
    · subst hk
      simp only [ne_eq, not_true_eq_false, decide_false, Bool.false_eq_true, not_false_eq_true, List.filter_cons_of_neg]
      rw [ih]
      split
      · rfl
      · next hm => simp [sparseGet, hm]
    · rw [List.filter_cons_of_pos (by simpa using hk)]
      simp only [sparseGet, ih]
      by_cases hm : m = k
      · subst hm; simp [hk]
      · simp [hm]

/-- Read after write in a sparse table. -/
theorem sparseGet_sparseSet [DecidableEq α] (table : List (Nat × α)) (n m : Nat) (x : α) :
    sparseGet d (sparseSet d table n x) m = if m = n then x else sparseGet d table m := by
  unfold sparseSet
  split
  · next hx => rw [sparseGet_filter d table n m, hx]
  · exact sparseGet_insert d table n m x

theorem mem_sparseInsert (table : List (Nat × α)) (n : Nat) (x : α) (e : Nat × α) (h : e ∈ sparseInsert n x table) :
    e = (n, x) ∨ e ∈ table := by
  induction table with
  | nil => simpa [sparseInsert] using h
  | cons f rest ih =>
    obtain ⟨k, v⟩ := f
    simp only [sparseInsert] at h
    split at h
    · simpa using h
    · split at h
      · rcases List.mem_cons.1 h with h | h
        · exact .inl h
        · exact .inr (by simp [h])
      · rcases List.mem_cons.1 h with h | h
        · exact .inr (by simp [h])
        · rcases ih h with h | h
          · exact .inl h
          · exact .inr (by simp [h])

theorem pairwise_sparseInsert (table : List (Nat × α)) (n : Nat) (x : α) (h : table.Pairwise fun a b => a.1 < b.1) :
    (sparseInsert n x table).Pairwise fun a b => a.1 < b.1 := by
  induction table with
  | nil => simp [sparseInsert]
  | cons f rest ih =>
    obtain ⟨k, v⟩ := f
    rw [List.pairwise_cons] at h
    simp only [sparseInsert]
    split
    · next hn =>
      refine List.pairwise_cons.2 ⟨fun e he => ?_, List.pairwise_cons.2 h⟩
      rcases List.mem_cons.1 he with he | he
      · subst he; exact hn
      · exact lt_trans hn (h.1 e he)
    · split
      · next hk => exact List.pairwise_cons.2 ⟨fun e he => by subst hk; exact h.1 e he, h.2⟩
      · next hn hk =>
        refine List.pairwise_cons.2 ⟨fun e he => ?_, ih h.2⟩
        rcases mem_sparseInsert _ _ _ _ he with he | he
        · subst he; simp only; omega
        · exact h.1 e he

/-- A write to a sparse table keeps its canonical form. -/
theorem sparseWf_sparseSet [DecidableEq α] (table : List (Nat × α)) (n : Nat) (x : α) (h : SparseWf d table) :
    SparseWf d (sparseSet d table n x) := by
  unfold sparseSet
  split
  · exact ⟨h.1.filter _, fun e he => h.2 e (List.mem_filter.1 he).1⟩
  · next hx =>
    refine ⟨pairwise_sparseInsert table n x h.1, fun e he => ?_⟩
    rcases mem_sparseInsert _ _ _ _ he with he | he
    · subst he; exact hx
    · exact h.2 e he

/-- A write to a sparse table lists no key but the one written and those listed before. -/
theorem mem_sparseSet [DecidableEq α] (table : List (Nat × α)) (n : Nat) (x : α) (e : Nat × α)
    (h : e ∈ sparseSet d table n x) : e.1 = n ∨ e ∈ table := by
  unfold sparseSet at h
  split at h
  · exact .inr (List.mem_filter.1 h).1
  · rcases mem_sparseInsert _ _ _ _ h with h | h
    · exact .inl (by simp [h])
    · exact .inr h

/-- Equal contents in canonical form are equal tables. -/
theorem sparse_ext (t u : List (Nat × α)) (ht : SparseWf d t) (hu : SparseWf d u)
    (h : ∀ n, sparseGet d t n = sparseGet d u n) : t = u := by
  induction t generalizing u with
  | nil =>
    match u with
    | [] => rfl
    | (k, v) :: rest =>
      have := h k
      simp only [sparseGet, if_true] at this
      exact absurd this.symm (hu.2 (k, v) (by simp))
  | cons e rest ih =>
    obtain ⟨k, v⟩ := e
    have ht' := List.pairwise_cons.1 ht.1
    have out : ∀ n, n < k → sparseGet d ((k, v) :: rest) n = d := fun n hn =>
      sparseGet_of_not_mem d _ n fun e he => by
        rcases List.mem_cons.1 he with he | he
        · subst he; simp only; omega
        · have := ht'.1 e he; simp only at this; omega
    match u with
    | [] =>
      have := h k
      simp only [sparseGet, if_true] at this
      exact absurd this (ht.2 (k, v) (by simp))
    | (l, w) :: tail =>
      have hu' := List.pairwise_cons.1 hu.1
      have out' : ∀ n, n < l → sparseGet d ((l, w) :: tail) n = d := fun n hn =>
        sparseGet_of_not_mem d _ n fun e he => by
          rcases List.mem_cons.1 he with he | he
          · subst he; simp only; omega
          · have := hu'.1 e he; simp only at this; omega
      have hk : k = l := by
        rcases Nat.lt_trichotomy k l with lt | eq | gt
        · have := h k; rw [out' k lt] at this
          simp only [sparseGet, if_true] at this
          exact absurd this (ht.2 (k, v) (by simp))
        · exact eq
        · have := h l; rw [out l gt] at this
          simp only [sparseGet, if_true] at this
          exact absurd this.symm (hu.2 (l, w) (by simp))
      subst hk
      have hv : v = w := by have := h k; simpa [sparseGet] using this
      subst hv
      have : rest = tail := ih tail ⟨ht'.2, fun e he => ht.2 e (by simp [he])⟩
        ⟨hu'.2, fun e he => hu.2 e (by simp [he])⟩ fun n => by
          by_cases hn : n = k
          · subst hn
            rw [sparseGet_of_not_mem d rest n fun e he => by have := ht'.1 e he; simp only at this; omega,
              sparseGet_of_not_mem d tail n fun e he => by have := hu'.1 e he; simp only at this; omega]
          · simpa [sparseGet, hn] using h n
      rw [this]

end Sparse

/-! ### Catalogue memory -/

/-- A write to a slot's record keeps catalogue memory in canonical form. -/
theorem writeRecord_wf (s : State) (x : Slot) (r : Record) (h : s.memory.wf) : (s.writeRecord x r).memory.wf := by
  refine ⟨sparseWf_sparseSet _ _ _ _ h.1, fun e he => ?_⟩
  rcases mem_sparseSet _ _ _ _ _ he with he | he
  · rw [he]; exact x.isLt
  · exact h.2 e he

/-- Read after write in catalogue memory. -/
theorem record_writeRecord (s : State) (x y : Slot) (r : Record) :
    (s.writeRecord x r).record y = if y = x then r else s.record y := by
  have := sparseGet_sparseSet Record.freed s.memory.records x.val y.val r
  simp only [State.record, writeRecord_memory, this, Fin.ext_iff]

/-- Catalogue memory at reset is in canonical form. -/
theorem reset_memory_wf : State.reset.memory.wf := by
  refine ⟨⟨List.Pairwise.nil, ?_⟩, ?_⟩ <;> intro e he <;> cases he

end Sys2Proof.Machine
end

