-- ==== Sys2Proof/Laws/Frames.lean ====
section
/-! SUPPORT. What the shared operations of Machine/Ops.lean and Machine/Flags.lean leave unchanged. -/

namespace Sys2Proof.Machine

variable (s : State)

/-! ### raiseCause -/

@[simp] theorem raiseCause_memory (c : Cause) : (raiseCause c s).memory = s.memory := by unfold raiseCause; split <;> rfl
@[simp] theorem raiseCause_engine (c : Cause) : (raiseCause c s).engine = s.engine := by unfold raiseCause; split <;> rfl
@[simp] theorem raiseCause_arbiter (c : Cause) : (raiseCause c s).arbiter = s.arbiter := by unfold raiseCause; split <;> rfl
@[simp] theorem raiseCause_hold (c : Cause) : (raiseCause c s).hold = s.hold := by unfold raiseCause; split <;> rfl
@[simp] theorem raiseCause_pinTable (c : Cause) : (raiseCause c s).pinTable = s.pinTable := by unfold raiseCause; split <;> rfl
@[simp] theorem raiseCause_store (c : Cause) : (raiseCause c s).store = s.store := by unfold raiseCause; split <;> rfl
@[simp] theorem raiseCause_timing (c : Cause) : (raiseCause c s).timing = s.timing := by unfold raiseCause; split <;> rfl
@[simp] theorem raiseCause_ports (c : Cause) : (raiseCause c s).ports = s.ports := by unfold raiseCause; split <;> rfl
@[simp] theorem raiseCause_channels (c : Cause) : (raiseCause c s).channels = s.channels := by unfold raiseCause; split <;> rfl
@[simp] theorem raiseCause_moments (c : Cause) : (raiseCause c s).moments = s.moments := by unfold raiseCause; split <;> rfl
@[simp] theorem raiseCause_pending (c : Cause) : (raiseCause c s).pending = s.pending := by unfold raiseCause; split <;> rfl

/-! ### alarmEvent -/

@[simp] theorem alarmEvent_memory (d : FaultDetail) : (alarmEvent d s).memory = s.memory := by unfold alarmEvent; split <;> simp
@[simp] theorem alarmEvent_engine (d : FaultDetail) : (alarmEvent d s).engine = s.engine := by unfold alarmEvent; split <;> simp
@[simp] theorem alarmEvent_arbiter (d : FaultDetail) : (alarmEvent d s).arbiter = s.arbiter := by unfold alarmEvent; split <;> simp
@[simp] theorem alarmEvent_hold (d : FaultDetail) : (alarmEvent d s).hold = s.hold := by unfold alarmEvent; split <;> simp
@[simp] theorem alarmEvent_pinTable (d : FaultDetail) : (alarmEvent d s).pinTable = s.pinTable := by unfold alarmEvent; split <;> simp
@[simp] theorem alarmEvent_store (d : FaultDetail) : (alarmEvent d s).store = s.store := by unfold alarmEvent; split <;> simp
@[simp] theorem alarmEvent_timing (d : FaultDetail) : (alarmEvent d s).timing = s.timing := by unfold alarmEvent; split <;> simp
@[simp] theorem alarmEvent_ports (d : FaultDetail) : (alarmEvent d s).ports = s.ports := by unfold alarmEvent; split <;> simp
@[simp] theorem alarmEvent_channels (d : FaultDetail) : (alarmEvent d s).channels = s.channels := by unfold alarmEvent; split <;> simp
@[simp] theorem alarmEvent_moments (d : FaultDetail) : (alarmEvent d s).moments = s.moments := by unfold alarmEvent; split <;> simp
@[simp] theorem alarmEvent_pending (d : FaultDetail) : (alarmEvent d s).pending = s.pending := by unfold alarmEvent; split <;> simp

/-! ### advanceFaultTime -/

@[simp] theorem advanceFaultTime_memory : (advanceFaultTime s).memory = s.memory := by unfold advanceFaultTime; split <;> rfl
@[simp] theorem advanceFaultTime_engine : (advanceFaultTime s).engine = s.engine := by unfold advanceFaultTime; split <;> rfl
@[simp] theorem advanceFaultTime_arbiter : (advanceFaultTime s).arbiter = s.arbiter := by unfold advanceFaultTime; split <;> rfl
@[simp] theorem advanceFaultTime_hold : (advanceFaultTime s).hold = s.hold := by unfold advanceFaultTime; split <;> rfl
@[simp] theorem advanceFaultTime_pinTable : (advanceFaultTime s).pinTable = s.pinTable := by unfold advanceFaultTime; split <;> rfl
@[simp] theorem advanceFaultTime_store : (advanceFaultTime s).store = s.store := by unfold advanceFaultTime; split <;> rfl
@[simp] theorem advanceFaultTime_timing : (advanceFaultTime s).timing = s.timing := by unfold advanceFaultTime; split <;> rfl
@[simp] theorem advanceFaultTime_ports : (advanceFaultTime s).ports = s.ports := by unfold advanceFaultTime; split <;> rfl
@[simp] theorem advanceFaultTime_channels : (advanceFaultTime s).channels = s.channels := by unfold advanceFaultTime; split <;> rfl
@[simp] theorem advanceFaultTime_moments : (advanceFaultTime s).moments = s.moments := by unfold advanceFaultTime; split <;> rfl
@[simp] theorem advanceFaultTime_pending : (advanceFaultTime s).pending = s.pending := by unfold advanceFaultTime; split <;> rfl

/-! ### setStalled -/

@[simp] theorem setStalled_memory (b : Bool) : (setStalled b s).memory = s.memory := rfl
@[simp] theorem setStalled_engine (b : Bool) : (setStalled b s).engine = s.engine := rfl
@[simp] theorem setStalled_arbiter (b : Bool) : (setStalled b s).arbiter = s.arbiter := rfl
@[simp] theorem setStalled_hold (b : Bool) : (setStalled b s).hold = s.hold := rfl
@[simp] theorem setStalled_pinTable (b : Bool) : (setStalled b s).pinTable = s.pinTable := rfl
@[simp] theorem setStalled_store (b : Bool) : (setStalled b s).store = s.store := rfl
@[simp] theorem setStalled_timing (b : Bool) : (setStalled b s).timing = s.timing := rfl
@[simp] theorem setStalled_ports (b : Bool) : (setStalled b s).ports = s.ports := rfl
@[simp] theorem setStalled_channels (b : Bool) : (setStalled b s).channels = s.channels := rfl
@[simp] theorem setStalled_moments (b : Bool) : (setStalled b s).moments = s.moments := rfl
@[simp] theorem setStalled_pending (b : Bool) : (setStalled b s).pending = s.pending := rfl

/-! ### stallBegins -/

@[simp] theorem stallBegins_memory (n : Nat) : (stallBegins n s).memory = s.memory := by unfold stallBegins; split <;> simp
@[simp] theorem stallBegins_engine (n : Nat) : (stallBegins n s).engine = s.engine := by unfold stallBegins; split <;> simp
@[simp] theorem stallBegins_arbiter (n : Nat) : (stallBegins n s).arbiter = s.arbiter := by unfold stallBegins; split <;> simp
@[simp] theorem stallBegins_hold (n : Nat) : (stallBegins n s).hold = s.hold := by unfold stallBegins; split <;> simp
@[simp] theorem stallBegins_pinTable (n : Nat) : (stallBegins n s).pinTable = s.pinTable := by unfold stallBegins; split <;> simp
@[simp] theorem stallBegins_store (n : Nat) : (stallBegins n s).store = s.store := by unfold stallBegins; split <;> simp
@[simp] theorem stallBegins_timing (n : Nat) : (stallBegins n s).timing = s.timing := by unfold stallBegins; split <;> simp
@[simp] theorem stallBegins_ports (n : Nat) : (stallBegins n s).ports = s.ports := by unfold stallBegins; split <;> simp
@[simp] theorem stallBegins_channels (n : Nat) : (stallBegins n s).channels = s.channels := by unfold stallBegins; split <;> simp
@[simp] theorem stallBegins_moments (n : Nat) : (stallBegins n s).moments = s.moments := by unfold stallBegins; split <;> simp
@[simp] theorem stallBegins_pending (n : Nat) : (stallBegins n s).pending = s.pending := by unfold stallBegins; split <;> simp

/-! ### stallEnds -/

@[simp] theorem stallEnds_memory : (stallEnds s).memory = s.memory := by unfold stallEnds; split <;> simp
@[simp] theorem stallEnds_engine : (stallEnds s).engine = s.engine := by unfold stallEnds; split <;> simp
@[simp] theorem stallEnds_arbiter : (stallEnds s).arbiter = s.arbiter := by unfold stallEnds; split <;> simp
@[simp] theorem stallEnds_hold : (stallEnds s).hold = s.hold := by unfold stallEnds; split <;> simp
@[simp] theorem stallEnds_pinTable : (stallEnds s).pinTable = s.pinTable := by unfold stallEnds; split <;> simp
@[simp] theorem stallEnds_store : (stallEnds s).store = s.store := by unfold stallEnds; split <;> simp
@[simp] theorem stallEnds_timing : (stallEnds s).timing = s.timing := by unfold stallEnds; split <;> simp
@[simp] theorem stallEnds_ports : (stallEnds s).ports = s.ports := by unfold stallEnds; split <;> simp
@[simp] theorem stallEnds_channels : (stallEnds s).channels = s.channels := by unfold stallEnds; split <;> simp
@[simp] theorem stallEnds_moments : (stallEnds s).moments = s.moments := by unfold stallEnds; split <;> simp
@[simp] theorem stallEnds_pending : (stallEnds s).pending = s.pending := by unfold stallEnds; split <;> simp

/-! ### notify -/

@[simp] theorem notify_memory (p : PortId) (n : Notice) : (notify p n s).memory = s.memory := by unfold notify; dsimp only; split <;> simp
@[simp] theorem notify_engine (p : PortId) (n : Notice) : (notify p n s).engine = s.engine := by unfold notify; dsimp only; split <;> simp
@[simp] theorem notify_arbiter (p : PortId) (n : Notice) : (notify p n s).arbiter = s.arbiter := by unfold notify; dsimp only; split <;> simp
@[simp] theorem notify_hold (p : PortId) (n : Notice) : (notify p n s).hold = s.hold := by unfold notify; dsimp only; split <;> simp
@[simp] theorem notify_pinTable (p : PortId) (n : Notice) : (notify p n s).pinTable = s.pinTable := by unfold notify; dsimp only; split <;> simp
@[simp] theorem notify_store (p : PortId) (n : Notice) : (notify p n s).store = s.store := by unfold notify; dsimp only; split <;> simp
@[simp] theorem notify_timing (p : PortId) (n : Notice) : (notify p n s).timing = s.timing := by unfold notify; dsimp only; split <;> simp
@[simp] theorem notify_channels (p : PortId) (n : Notice) : (notify p n s).channels = s.channels := by unfold notify; dsimp only; split <;> simp
@[simp] theorem notify_moments (p : PortId) (n : Notice) : (notify p n s).moments = s.moments := by unfold notify; dsimp only; split <;> simp
@[simp] theorem notify_pending (p : PortId) (n : Notice) : (notify p n s).pending = s.pending := by unfold notify; dsimp only; split <;> simp

/-! ### notifyControl -/

@[simp] theorem notifyControl_memory (n : Notice) : (notifyControl n s).memory = s.memory := by
  unfold notifyControl
  refine List.foldlRecOn (motive := fun (t : State) => t.memory = s.memory) _ _ rfl fun t h p _ => ?_
  split <;> simp [h]
@[simp] theorem notifyControl_engine (n : Notice) : (notifyControl n s).engine = s.engine := by
  unfold notifyControl
  refine List.foldlRecOn (motive := fun (t : State) => t.engine = s.engine) _ _ rfl fun t h p _ => ?_
  split <;> simp [h]
@[simp] theorem notifyControl_arbiter (n : Notice) : (notifyControl n s).arbiter = s.arbiter := by
  unfold notifyControl
  refine List.foldlRecOn (motive := fun (t : State) => t.arbiter = s.arbiter) _ _ rfl fun t h p _ => ?_
  split <;> simp [h]
@[simp] theorem notifyControl_hold (n : Notice) : (notifyControl n s).hold = s.hold := by
  unfold notifyControl
  refine List.foldlRecOn (motive := fun (t : State) => t.hold = s.hold) _ _ rfl fun t h p _ => ?_
  split <;> simp [h]
@[simp] theorem notifyControl_pinTable (n : Notice) : (notifyControl n s).pinTable = s.pinTable := by
  unfold notifyControl
  refine List.foldlRecOn (motive := fun (t : State) => t.pinTable = s.pinTable) _ _ rfl fun t h p _ => ?_
  split <;> simp [h]
@[simp] theorem notifyControl_store (n : Notice) : (notifyControl n s).store = s.store := by
  unfold notifyControl
  refine List.foldlRecOn (motive := fun (t : State) => t.store = s.store) _ _ rfl fun t h p _ => ?_
  split <;> simp [h]
@[simp] theorem notifyControl_timing (n : Notice) : (notifyControl n s).timing = s.timing := by
  unfold notifyControl
  refine List.foldlRecOn (motive := fun (t : State) => t.timing = s.timing) _ _ rfl fun t h p _ => ?_
  split <;> simp [h]
@[simp] theorem notifyControl_channels (n : Notice) : (notifyControl n s).channels = s.channels := by
  unfold notifyControl
  refine List.foldlRecOn (motive := fun (t : State) => t.channels = s.channels) _ _ rfl fun t h p _ => ?_
  split <;> simp [h]
@[simp] theorem notifyControl_moments (n : Notice) : (notifyControl n s).moments = s.moments := by
  unfold notifyControl
  refine List.foldlRecOn (motive := fun (t : State) => t.moments = s.moments) _ _ rfl fun t h p _ => ?_
  split <;> simp [h]
@[simp] theorem notifyControl_pending (n : Notice) : (notifyControl n s).pending = s.pending := by
  unfold notifyControl
  refine List.foldlRecOn (motive := fun (t : State) => t.pending = s.pending) _ _ rfl fun t h p _ => ?_
  split <;> simp [h]

/-! ### notifyBound -/

@[simp] theorem notifyBound_memory (c : ChannelId) (n : Notice) : (notifyBound c n s).memory = s.memory := by unfold notifyBound; split <;> simp
@[simp] theorem notifyBound_engine (c : ChannelId) (n : Notice) : (notifyBound c n s).engine = s.engine := by unfold notifyBound; split <;> simp
@[simp] theorem notifyBound_arbiter (c : ChannelId) (n : Notice) : (notifyBound c n s).arbiter = s.arbiter := by unfold notifyBound; split <;> simp
@[simp] theorem notifyBound_hold (c : ChannelId) (n : Notice) : (notifyBound c n s).hold = s.hold := by unfold notifyBound; split <;> simp
@[simp] theorem notifyBound_pinTable (c : ChannelId) (n : Notice) : (notifyBound c n s).pinTable = s.pinTable := by unfold notifyBound; split <;> simp
@[simp] theorem notifyBound_store (c : ChannelId) (n : Notice) : (notifyBound c n s).store = s.store := by unfold notifyBound; split <;> simp
@[simp] theorem notifyBound_timing (c : ChannelId) (n : Notice) : (notifyBound c n s).timing = s.timing := by unfold notifyBound; split <;> simp
@[simp] theorem notifyBound_channels (c : ChannelId) (n : Notice) : (notifyBound c n s).channels = s.channels := by unfold notifyBound; split <;> simp
@[simp] theorem notifyBound_moments (c : ChannelId) (n : Notice) : (notifyBound c n s).moments = s.moments := by unfold notifyBound; split <;> simp
@[simp] theorem notifyBound_pending (c : ChannelId) (n : Notice) : (notifyBound c n s).pending = s.pending := by unfold notifyBound; split <;> simp

/-! ### reply -/

@[simp] theorem reply_memory (p : PortId) (code : ReplyCode) (fs : List Field) : (reply p code fs s).memory = s.memory := by unfold reply; dsimp only; split <;> simp
@[simp] theorem reply_engine (p : PortId) (code : ReplyCode) (fs : List Field) : (reply p code fs s).engine = s.engine := by unfold reply; dsimp only; split <;> simp
@[simp] theorem reply_arbiter (p : PortId) (code : ReplyCode) (fs : List Field) : (reply p code fs s).arbiter = s.arbiter := by unfold reply; dsimp only; split <;> simp
@[simp] theorem reply_hold (p : PortId) (code : ReplyCode) (fs : List Field) : (reply p code fs s).hold = s.hold := by unfold reply; dsimp only; split <;> simp
@[simp] theorem reply_pinTable (p : PortId) (code : ReplyCode) (fs : List Field) : (reply p code fs s).pinTable = s.pinTable := by unfold reply; dsimp only; split <;> simp
@[simp] theorem reply_attention (p : PortId) (code : ReplyCode) (fs : List Field) : (reply p code fs s).attention = s.attention := by unfold reply; dsimp only; split <;> simp
@[simp] theorem reply_store (p : PortId) (code : ReplyCode) (fs : List Field) : (reply p code fs s).store = s.store := by unfold reply; dsimp only; split <;> simp
@[simp] theorem reply_timing (p : PortId) (code : ReplyCode) (fs : List Field) : (reply p code fs s).timing = s.timing := by unfold reply; dsimp only; split <;> simp
@[simp] theorem reply_channels (p : PortId) (code : ReplyCode) (fs : List Field) : (reply p code fs s).channels = s.channels := by unfold reply; dsimp only; split <;> simp
@[simp] theorem reply_moments (p : PortId) (code : ReplyCode) (fs : List Field) : (reply p code fs s).moments = s.moments := by unfold reply; dsimp only; split <;> simp
@[simp] theorem reply_pending (p : PortId) (code : ReplyCode) (fs : List Field) : (reply p code fs s).pending = s.pending := by unfold reply; dsimp only; split <;> simp

/-! ### linkFault -/

@[simp] theorem linkFault_memory (p : PortId) : (linkFault p s).memory = s.memory := by simp [linkFault]
@[simp] theorem linkFault_engine (p : PortId) : (linkFault p s).engine = s.engine := by simp [linkFault]
@[simp] theorem linkFault_arbiter (p : PortId) : (linkFault p s).arbiter = s.arbiter := by simp [linkFault]
@[simp] theorem linkFault_hold (p : PortId) : (linkFault p s).hold = s.hold := by simp [linkFault]
@[simp] theorem linkFault_pinTable (p : PortId) : (linkFault p s).pinTable = s.pinTable := by simp [linkFault]
@[simp] theorem linkFault_store (p : PortId) : (linkFault p s).store = s.store := by simp [linkFault]
@[simp] theorem linkFault_timing (p : PortId) : (linkFault p s).timing = s.timing := by simp [linkFault]
@[simp] theorem linkFault_channels (p : PortId) : (linkFault p s).channels = s.channels := by simp [linkFault]
@[simp] theorem linkFault_moments (p : PortId) : (linkFault p s).moments = s.moments := by simp [linkFault]
@[simp] theorem linkFault_pending (p : PortId) : (linkFault p s).pending = s.pending := by simp [linkFault]

/-! ### flagFaulted -/

@[simp] theorem flagFaulted_memory (x : Slot) : (flagFaulted x s).memory = s.memory := rfl
@[simp] theorem flagFaulted_arbiter (x : Slot) : (flagFaulted x s).arbiter = s.arbiter := rfl
@[simp] theorem flagFaulted_hold (x : Slot) : (flagFaulted x s).hold = s.hold := rfl
@[simp] theorem flagFaulted_pinTable (x : Slot) : (flagFaulted x s).pinTable = s.pinTable := rfl
@[simp] theorem flagFaulted_attention (x : Slot) : (flagFaulted x s).attention = s.attention := rfl
@[simp] theorem flagFaulted_store (x : Slot) : (flagFaulted x s).store = s.store := rfl
@[simp] theorem flagFaulted_timing (x : Slot) : (flagFaulted x s).timing = s.timing := rfl
@[simp] theorem flagFaulted_ports (x : Slot) : (flagFaulted x s).ports = s.ports := rfl
@[simp] theorem flagFaulted_channels (x : Slot) : (flagFaulted x s).channels = s.channels := rfl
@[simp] theorem flagFaulted_moments (x : Slot) : (flagFaulted x s).moments = s.moments := rfl
@[simp] theorem flagFaulted_pending (x : Slot) : (flagFaulted x s).pending = s.pending := rfl

/-! ### clearFaulted -/

@[simp] theorem clearFaulted_memory (x : Slot) : (clearFaulted x s).memory = s.memory := rfl
@[simp] theorem clearFaulted_arbiter (x : Slot) : (clearFaulted x s).arbiter = s.arbiter := rfl
@[simp] theorem clearFaulted_hold (x : Slot) : (clearFaulted x s).hold = s.hold := rfl
@[simp] theorem clearFaulted_pinTable (x : Slot) : (clearFaulted x s).pinTable = s.pinTable := rfl
@[simp] theorem clearFaulted_attention (x : Slot) : (clearFaulted x s).attention = s.attention := rfl
@[simp] theorem clearFaulted_store (x : Slot) : (clearFaulted x s).store = s.store := rfl
@[simp] theorem clearFaulted_timing (x : Slot) : (clearFaulted x s).timing = s.timing := rfl
@[simp] theorem clearFaulted_ports (x : Slot) : (clearFaulted x s).ports = s.ports := rfl
@[simp] theorem clearFaulted_channels (x : Slot) : (clearFaulted x s).channels = s.channels := rfl
@[simp] theorem clearFaulted_moments (x : Slot) : (clearFaulted x s).moments = s.moments := rfl
@[simp] theorem clearFaulted_pending (x : Slot) : (clearFaulted x s).pending = s.pending := rfl

/-! ### walkLinkedFault -/

@[simp] theorem walkLinkedFault_memory (x : Slot) : (walkLinkedFault x s).memory = s.memory := rfl
@[simp] theorem walkLinkedFault_arbiter (x : Slot) : (walkLinkedFault x s).arbiter = s.arbiter := rfl
@[simp] theorem walkLinkedFault_hold (x : Slot) : (walkLinkedFault x s).hold = s.hold := rfl
@[simp] theorem walkLinkedFault_pinTable (x : Slot) : (walkLinkedFault x s).pinTable = s.pinTable := rfl
@[simp] theorem walkLinkedFault_attention (x : Slot) : (walkLinkedFault x s).attention = s.attention := rfl
@[simp] theorem walkLinkedFault_store (x : Slot) : (walkLinkedFault x s).store = s.store := rfl
@[simp] theorem walkLinkedFault_timing (x : Slot) : (walkLinkedFault x s).timing = s.timing := rfl
@[simp] theorem walkLinkedFault_ports (x : Slot) : (walkLinkedFault x s).ports = s.ports := rfl
@[simp] theorem walkLinkedFault_channels (x : Slot) : (walkLinkedFault x s).channels = s.channels := rfl
@[simp] theorem walkLinkedFault_moments (x : Slot) : (walkLinkedFault x s).moments = s.moments := rfl
@[simp] theorem walkLinkedFault_pending (x : Slot) : (walkLinkedFault x s).pending = s.pending := rfl

/-! ### recordFault -/

@[simp] theorem recordFault_memory (w : Requester) (part : RecordPart) (x : Slot) : (recordFault w part x s).memory = s.memory := by simp [recordFault]
@[simp] theorem recordFault_arbiter (w : Requester) (part : RecordPart) (x : Slot) : (recordFault w part x s).arbiter = s.arbiter := by simp [recordFault]
@[simp] theorem recordFault_hold (w : Requester) (part : RecordPart) (x : Slot) : (recordFault w part x s).hold = s.hold := by simp [recordFault]
@[simp] theorem recordFault_pinTable (w : Requester) (part : RecordPart) (x : Slot) : (recordFault w part x s).pinTable = s.pinTable := by simp [recordFault]
@[simp] theorem recordFault_store (w : Requester) (part : RecordPart) (x : Slot) : (recordFault w part x s).store = s.store := by simp [recordFault]
@[simp] theorem recordFault_timing (w : Requester) (part : RecordPart) (x : Slot) : (recordFault w part x s).timing = s.timing := by simp [recordFault]
@[simp] theorem recordFault_channels (w : Requester) (part : RecordPart) (x : Slot) : (recordFault w part x s).channels = s.channels := by simp [recordFault]
@[simp] theorem recordFault_moments (w : Requester) (part : RecordPart) (x : Slot) : (recordFault w part x s).moments = s.moments := by simp [recordFault]
@[simp] theorem recordFault_pending (w : Requester) (part : RecordPart) (x : Slot) : (recordFault w part x s).pending = s.pending := by simp [recordFault]

/-! ### noteRepairs -/

@[simp] theorem noteRepairs_memory (n : Nat) : (noteRepairs n s).memory = s.memory := by unfold noteRepairs; split <;> simp
@[simp] theorem noteRepairs_arbiter (n : Nat) : (noteRepairs n s).arbiter = s.arbiter := by unfold noteRepairs; split <;> simp
@[simp] theorem noteRepairs_hold (n : Nat) : (noteRepairs n s).hold = s.hold := by unfold noteRepairs; split <;> simp
@[simp] theorem noteRepairs_pinTable (n : Nat) : (noteRepairs n s).pinTable = s.pinTable := by unfold noteRepairs; split <;> simp
@[simp] theorem noteRepairs_store (n : Nat) : (noteRepairs n s).store = s.store := by unfold noteRepairs; split <;> simp
@[simp] theorem noteRepairs_timing (n : Nat) : (noteRepairs n s).timing = s.timing := by unfold noteRepairs; split <;> simp
@[simp] theorem noteRepairs_ports (n : Nat) : (noteRepairs n s).ports = s.ports := by unfold noteRepairs; split <;> simp
@[simp] theorem noteRepairs_channels (n : Nat) : (noteRepairs n s).channels = s.channels := by unfold noteRepairs; split <;> simp
@[simp] theorem noteRepairs_moments (n : Nat) : (noteRepairs n s).moments = s.moments := by unfold noteRepairs; split <;> simp
@[simp] theorem noteRepairs_pending (n : Nat) : (noteRepairs n s).pending = s.pending := by unfold noteRepairs; split <;> simp

/-! ### readWord -/

@[simp] theorem readWord_arbiter (x : Slot) (w : RecordWord) : ((readWord x w s).2).arbiter = s.arbiter := by unfold readWord; dsimp only; split <;> simp
@[simp] theorem readWord_hold (x : Slot) (w : RecordWord) : ((readWord x w s).2).hold = s.hold := by unfold readWord; dsimp only; split <;> simp
@[simp] theorem readWord_pinTable (x : Slot) (w : RecordWord) : ((readWord x w s).2).pinTable = s.pinTable := by unfold readWord; dsimp only; split <;> simp
@[simp] theorem readWord_store (x : Slot) (w : RecordWord) : ((readWord x w s).2).store = s.store := by unfold readWord; dsimp only; split <;> simp
@[simp] theorem readWord_timing (x : Slot) (w : RecordWord) : ((readWord x w s).2).timing = s.timing := by unfold readWord; dsimp only; split <;> simp
@[simp] theorem readWord_ports (x : Slot) (w : RecordWord) : ((readWord x w s).2).ports = s.ports := by unfold readWord; dsimp only; split <;> simp
@[simp] theorem readWord_channels (x : Slot) (w : RecordWord) : ((readWord x w s).2).channels = s.channels := by unfold readWord; dsimp only; split <;> simp
@[simp] theorem readWord_moments (x : Slot) (w : RecordWord) : ((readWord x w s).2).moments = s.moments := by unfold readWord; dsimp only; split <;> simp
@[simp] theorem readWord_pending (x : Slot) (w : RecordWord) : ((readWord x w s).2).pending = s.pending := by unfold readWord; dsimp only; split <;> simp

/-! ### readWords -/

@[simp] theorem readWords_arbiter (x : Slot) (l : List RecordWord) : ((readWords x l s).2).arbiter = s.arbiter := by
  induction l generalizing s with
  | nil => rfl
  | cons w rest ih =>
    unfold readWords
    split
    · next t h => rw [ih]; have := congrArg (fun r => r.2.arbiter) h; simpa using this.symm
    · next t h => rw [ih]; have := congrArg (fun r => r.2.arbiter) h; simpa using this.symm
@[simp] theorem readWords_hold (x : Slot) (l : List RecordWord) : ((readWords x l s).2).hold = s.hold := by
  induction l generalizing s with
  | nil => rfl
  | cons w rest ih =>
    unfold readWords
    split
    · next t h => rw [ih]; have := congrArg (fun r => r.2.hold) h; simpa using this.symm
    · next t h => rw [ih]; have := congrArg (fun r => r.2.hold) h; simpa using this.symm
@[simp] theorem readWords_pinTable (x : Slot) (l : List RecordWord) : ((readWords x l s).2).pinTable = s.pinTable := by
  induction l generalizing s with
  | nil => rfl
  | cons w rest ih =>
    unfold readWords
    split
    · next t h => rw [ih]; have := congrArg (fun r => r.2.pinTable) h; simpa using this.symm
    · next t h => rw [ih]; have := congrArg (fun r => r.2.pinTable) h; simpa using this.symm
@[simp] theorem readWords_store (x : Slot) (l : List RecordWord) : ((readWords x l s).2).store = s.store := by
  induction l generalizing s with
  | nil => rfl
  | cons w rest ih =>
    unfold readWords
    split
    · next t h => rw [ih]; have := congrArg (fun r => r.2.store) h; simpa using this.symm
    · next t h => rw [ih]; have := congrArg (fun r => r.2.store) h; simpa using this.symm
@[simp] theorem readWords_timing (x : Slot) (l : List RecordWord) : ((readWords x l s).2).timing = s.timing := by
  induction l generalizing s with
  | nil => rfl
  | cons w rest ih =>
    unfold readWords
    split
    · next t h => rw [ih]; have := congrArg (fun r => r.2.timing) h; simpa using this.symm
    · next t h => rw [ih]; have := congrArg (fun r => r.2.timing) h; simpa using this.symm
@[simp] theorem readWords_ports (x : Slot) (l : List RecordWord) : ((readWords x l s).2).ports = s.ports := by
  induction l generalizing s with
  | nil => rfl
  | cons w rest ih =>
    unfold readWords
    split
    · next t h => rw [ih]; have := congrArg (fun r => r.2.ports) h; simpa using this.symm
    · next t h => rw [ih]; have := congrArg (fun r => r.2.ports) h; simpa using this.symm
@[simp] theorem readWords_channels (x : Slot) (l : List RecordWord) : ((readWords x l s).2).channels = s.channels := by
  induction l generalizing s with
  | nil => rfl
  | cons w rest ih =>
    unfold readWords
    split
    · next t h => rw [ih]; have := congrArg (fun r => r.2.channels) h; simpa using this.symm
    · next t h => rw [ih]; have := congrArg (fun r => r.2.channels) h; simpa using this.symm
@[simp] theorem readWords_moments (x : Slot) (l : List RecordWord) : ((readWords x l s).2).moments = s.moments := by
  induction l generalizing s with
  | nil => rfl
  | cons w rest ih =>
    unfold readWords
    split
    · next t h => rw [ih]; have := congrArg (fun r => r.2.moments) h; simpa using this.symm
    · next t h => rw [ih]; have := congrArg (fun r => r.2.moments) h; simpa using this.symm
@[simp] theorem readWords_pending (x : Slot) (l : List RecordWord) : ((readWords x l s).2).pending = s.pending := by
  induction l generalizing s with
  | nil => rfl
  | cons w rest ih =>
    unfold readWords
    split
    · next t h => rw [ih]; have := congrArg (fun r => r.2.pending) h; simpa using this.symm
    · next t h => rw [ih]; have := congrArg (fun r => r.2.pending) h; simpa using this.symm

/-! ### grantJob -/

@[simp] theorem grantJob_memory : (grantJob s).memory = s.memory := by unfold grantJob; (repeat' split) <;> rfl
@[simp] theorem grantJob_engine : (grantJob s).engine = s.engine := by unfold grantJob; (repeat' split) <;> rfl
@[simp] theorem grantJob_hold : (grantJob s).hold = s.hold := by unfold grantJob; (repeat' split) <;> rfl
@[simp] theorem grantJob_pinTable : (grantJob s).pinTable = s.pinTable := by unfold grantJob; (repeat' split) <;> rfl
@[simp] theorem grantJob_attention : (grantJob s).attention = s.attention := by unfold grantJob; (repeat' split) <;> rfl
@[simp] theorem grantJob_store : (grantJob s).store = s.store := by unfold grantJob; (repeat' split) <;> rfl
@[simp] theorem grantJob_timing : (grantJob s).timing = s.timing := by unfold grantJob; (repeat' split) <;> rfl
@[simp] theorem grantJob_ports : (grantJob s).ports = s.ports := by unfold grantJob; (repeat' split) <;> rfl
@[simp] theorem grantJob_channels : (grantJob s).channels = s.channels := by unfold grantJob; (repeat' split) <;> rfl
@[simp] theorem grantJob_moments : (grantJob s).moments = s.moments := by unfold grantJob; (repeat' split) <;> rfl
@[simp] theorem grantJob_pending : (grantJob s).pending = s.pending := by unfold grantJob; (repeat' split) <;> rfl

/-! ### finishJob -/

@[simp] theorem finishJob_memory : (finishJob s).memory = s.memory := by simp [finishJob]
@[simp] theorem finishJob_engine : (finishJob s).engine = s.engine := by simp [finishJob]
@[simp] theorem finishJob_hold : (finishJob s).hold = s.hold := by simp [finishJob]
@[simp] theorem finishJob_pinTable : (finishJob s).pinTable = s.pinTable := by simp [finishJob]
@[simp] theorem finishJob_attention : (finishJob s).attention = s.attention := by simp [finishJob]
@[simp] theorem finishJob_store : (finishJob s).store = s.store := by simp [finishJob]
@[simp] theorem finishJob_timing : (finishJob s).timing = s.timing := by simp [finishJob]
@[simp] theorem finishJob_ports : (finishJob s).ports = s.ports := by simp [finishJob]
@[simp] theorem finishJob_channels : (finishJob s).channels = s.channels := by simp [finishJob]
@[simp] theorem finishJob_moments : (finishJob s).moments = s.moments := by simp [finishJob]
@[simp] theorem finishJob_pending : (finishJob s).pending = s.pending := by simp [finishJob]

/-! ### presentMirror -/

@[simp] theorem presentMirror_memory : (presentMirror s).memory = s.memory := by simp [presentMirror]
@[simp] theorem presentMirror_engine : (presentMirror s).engine = s.engine := by simp [presentMirror]
@[simp] theorem presentMirror_pinTable : (presentMirror s).pinTable = s.pinTable := by simp [presentMirror]
@[simp] theorem presentMirror_attention : (presentMirror s).attention = s.attention := by simp [presentMirror]
@[simp] theorem presentMirror_store : (presentMirror s).store = s.store := by simp [presentMirror]
@[simp] theorem presentMirror_timing : (presentMirror s).timing = s.timing := by simp [presentMirror]
@[simp] theorem presentMirror_ports : (presentMirror s).ports = s.ports := by simp [presentMirror]
@[simp] theorem presentMirror_channels : (presentMirror s).channels = s.channels := by simp [presentMirror]
@[simp] theorem presentMirror_moments : (presentMirror s).moments = s.moments := by simp [presentMirror]
@[simp] theorem presentMirror_pending : (presentMirror s).pending = s.pending := by simp [presentMirror]

/-! ### freeOrder -/

@[simp] theorem freeOrder_memory {α : Type} (rank : α → Nat) (l : List α) : ((freeOrder rank l s).2).memory = s.memory := by unfold freeOrder; split <;> rfl
@[simp] theorem freeOrder_engine {α : Type} (rank : α → Nat) (l : List α) : ((freeOrder rank l s).2).engine = s.engine := by unfold freeOrder; split <;> rfl
@[simp] theorem freeOrder_arbiter {α : Type} (rank : α → Nat) (l : List α) : ((freeOrder rank l s).2).arbiter = s.arbiter := by unfold freeOrder; split <;> rfl
@[simp] theorem freeOrder_hold {α : Type} (rank : α → Nat) (l : List α) : ((freeOrder rank l s).2).hold = s.hold := by unfold freeOrder; split <;> rfl
@[simp] theorem freeOrder_pinTable {α : Type} (rank : α → Nat) (l : List α) : ((freeOrder rank l s).2).pinTable = s.pinTable := by unfold freeOrder; split <;> rfl
@[simp] theorem freeOrder_attention {α : Type} (rank : α → Nat) (l : List α) : ((freeOrder rank l s).2).attention = s.attention := by unfold freeOrder; split <;> rfl
@[simp] theorem freeOrder_store {α : Type} (rank : α → Nat) (l : List α) : ((freeOrder rank l s).2).store = s.store := by unfold freeOrder; split <;> rfl
@[simp] theorem freeOrder_timing {α : Type} (rank : α → Nat) (l : List α) : ((freeOrder rank l s).2).timing = s.timing := by unfold freeOrder; split <;> rfl
@[simp] theorem freeOrder_ports {α : Type} (rank : α → Nat) (l : List α) : ((freeOrder rank l s).2).ports = s.ports := by unfold freeOrder; split <;> rfl
@[simp] theorem freeOrder_channels {α : Type} (rank : α → Nat) (l : List α) : ((freeOrder rank l s).2).channels = s.channels := by unfold freeOrder; split <;> rfl
@[simp] theorem freeOrder_pending {α : Type} (rank : α → Nat) (l : List α) : ((freeOrder rank l s).2).pending = s.pending := by unfold freeOrder; split <;> rfl

end Sys2Proof.Machine
end

