-- ==== Sys2Proof/Laws/PlaybackFrames.lean ====
section
/-! SUPPORT. What the operations of the store reader and of the channels leave unchanged. -/

namespace Sys2Proof.Machine

variable (s : State)

/-! ### changeRequest -/

@[simp] theorem changeRequest_memory (c : ChannelId) (b : BufferId) (f : BlockRequest → BlockRequest) : (changeRequest c b f s).memory = s.memory := rfl
@[simp] theorem changeRequest_engine (c : ChannelId) (b : BufferId) (f : BlockRequest → BlockRequest) : (changeRequest c b f s).engine = s.engine := rfl
@[simp] theorem changeRequest_arbiter (c : ChannelId) (b : BufferId) (f : BlockRequest → BlockRequest) : (changeRequest c b f s).arbiter = s.arbiter := rfl
@[simp] theorem changeRequest_hold (c : ChannelId) (b : BufferId) (f : BlockRequest → BlockRequest) : (changeRequest c b f s).hold = s.hold := rfl
@[simp] theorem changeRequest_pinTable (c : ChannelId) (b : BufferId) (f : BlockRequest → BlockRequest) : (changeRequest c b f s).pinTable = s.pinTable := rfl
@[simp] theorem changeRequest_attention (c : ChannelId) (b : BufferId) (f : BlockRequest → BlockRequest) : (changeRequest c b f s).attention = s.attention := rfl
@[simp] theorem changeRequest_timing (c : ChannelId) (b : BufferId) (f : BlockRequest → BlockRequest) : (changeRequest c b f s).timing = s.timing := rfl
@[simp] theorem changeRequest_ports (c : ChannelId) (b : BufferId) (f : BlockRequest → BlockRequest) : (changeRequest c b f s).ports = s.ports := rfl
@[simp] theorem changeRequest_channels (c : ChannelId) (b : BufferId) (f : BlockRequest → BlockRequest) : (changeRequest c b f s).channels = s.channels := rfl
@[simp] theorem changeRequest_moments (c : ChannelId) (b : BufferId) (f : BlockRequest → BlockRequest) : (changeRequest c b f s).moments = s.moments := rfl
@[simp] theorem changeRequest_pending (c : ChannelId) (b : BufferId) (f : BlockRequest → BlockRequest) : (changeRequest c b f s).pending = s.pending := rfl

/-! ### forgetRequest -/

@[simp] theorem forgetRequest_memory (c : ChannelId) (b : BufferId) : (forgetRequest c b s).memory = s.memory := rfl
@[simp] theorem forgetRequest_engine (c : ChannelId) (b : BufferId) : (forgetRequest c b s).engine = s.engine := rfl
@[simp] theorem forgetRequest_arbiter (c : ChannelId) (b : BufferId) : (forgetRequest c b s).arbiter = s.arbiter := rfl
@[simp] theorem forgetRequest_hold (c : ChannelId) (b : BufferId) : (forgetRequest c b s).hold = s.hold := rfl
@[simp] theorem forgetRequest_pinTable (c : ChannelId) (b : BufferId) : (forgetRequest c b s).pinTable = s.pinTable := rfl
@[simp] theorem forgetRequest_attention (c : ChannelId) (b : BufferId) : (forgetRequest c b s).attention = s.attention := rfl
@[simp] theorem forgetRequest_timing (c : ChannelId) (b : BufferId) : (forgetRequest c b s).timing = s.timing := rfl
@[simp] theorem forgetRequest_ports (c : ChannelId) (b : BufferId) : (forgetRequest c b s).ports = s.ports := rfl
@[simp] theorem forgetRequest_channels (c : ChannelId) (b : BufferId) : (forgetRequest c b s).channels = s.channels := rfl
@[simp] theorem forgetRequest_moments (c : ChannelId) (b : BufferId) : (forgetRequest c b s).moments = s.moments := rfl
@[simp] theorem forgetRequest_pending (c : ChannelId) (b : BufferId) : (forgetRequest c b s).pending = s.pending := rfl

/-! ### grantTo -/

@[simp] theorem grantTo_memory (t : ReadTag) (r : BlockRequest) : (grantTo t r s).memory = s.memory := by simp [grantTo]
@[simp] theorem grantTo_engine (t : ReadTag) (r : BlockRequest) : (grantTo t r s).engine = s.engine := by simp [grantTo]
@[simp] theorem grantTo_arbiter (t : ReadTag) (r : BlockRequest) : (grantTo t r s).arbiter = s.arbiter := by simp [grantTo]
@[simp] theorem grantTo_hold (t : ReadTag) (r : BlockRequest) : (grantTo t r s).hold = s.hold := by simp [grantTo]
@[simp] theorem grantTo_pinTable (t : ReadTag) (r : BlockRequest) : (grantTo t r s).pinTable = s.pinTable := by simp [grantTo]
@[simp] theorem grantTo_attention (t : ReadTag) (r : BlockRequest) : (grantTo t r s).attention = s.attention := by simp [grantTo]
@[simp] theorem grantTo_timing (t : ReadTag) (r : BlockRequest) : (grantTo t r s).timing = s.timing := by simp [grantTo]
@[simp] theorem grantTo_ports (t : ReadTag) (r : BlockRequest) : (grantTo t r s).ports = s.ports := by simp [grantTo]
@[simp] theorem grantTo_channels (t : ReadTag) (r : BlockRequest) : (grantTo t r s).channels = s.channels := by simp [grantTo]
@[simp] theorem grantTo_moments (t : ReadTag) (r : BlockRequest) : (grantTo t r s).moments = s.moments := by simp [grantTo]
@[simp] theorem grantTo_pending (t : ReadTag) (r : BlockRequest) : (grantTo t r s).pending = s.pending := by simp [grantTo]

/-! ### grantSlots -/

@[simp] theorem grantSlots_memory (n : Nat) : (grantSlots n s).memory = s.memory := by
  induction n generalizing s with
  | zero => rfl
  | succ n ih => unfold grantSlots; split <;> simp [ih]
@[simp] theorem grantSlots_engine (n : Nat) : (grantSlots n s).engine = s.engine := by
  induction n generalizing s with
  | zero => rfl
  | succ n ih => unfold grantSlots; split <;> simp [ih]
@[simp] theorem grantSlots_arbiter (n : Nat) : (grantSlots n s).arbiter = s.arbiter := by
  induction n generalizing s with
  | zero => rfl
  | succ n ih => unfold grantSlots; split <;> simp [ih]
@[simp] theorem grantSlots_hold (n : Nat) : (grantSlots n s).hold = s.hold := by
  induction n generalizing s with
  | zero => rfl
  | succ n ih => unfold grantSlots; split <;> simp [ih]
@[simp] theorem grantSlots_pinTable (n : Nat) : (grantSlots n s).pinTable = s.pinTable := by
  induction n generalizing s with
  | zero => rfl
  | succ n ih => unfold grantSlots; split <;> simp [ih]
@[simp] theorem grantSlots_attention (n : Nat) : (grantSlots n s).attention = s.attention := by
  induction n generalizing s with
  | zero => rfl
  | succ n ih => unfold grantSlots; split <;> simp [ih]
@[simp] theorem grantSlots_timing (n : Nat) : (grantSlots n s).timing = s.timing := by
  induction n generalizing s with
  | zero => rfl
  | succ n ih => unfold grantSlots; split <;> simp [ih]
@[simp] theorem grantSlots_ports (n : Nat) : (grantSlots n s).ports = s.ports := by
  induction n generalizing s with
  | zero => rfl
  | succ n ih => unfold grantSlots; split <;> simp [ih]
@[simp] theorem grantSlots_channels (n : Nat) : (grantSlots n s).channels = s.channels := by
  induction n generalizing s with
  | zero => rfl
  | succ n ih => unfold grantSlots; split <;> simp [ih]
@[simp] theorem grantSlots_moments (n : Nat) : (grantSlots n s).moments = s.moments := by
  induction n generalizing s with
  | zero => rfl
  | succ n ih => unfold grantSlots; split <;> simp [ih]
@[simp] theorem grantSlots_pending (n : Nat) : (grantSlots n s).pending = s.pending := by
  induction n generalizing s with
  | zero => rfl
  | succ n ih => unfold grantSlots; split <;> simp [ih]

/-! ### grantAll -/

@[simp] theorem grantAll_memory : (grantAll s).memory = s.memory := by simp [grantAll]
@[simp] theorem grantAll_engine : (grantAll s).engine = s.engine := by simp [grantAll]
@[simp] theorem grantAll_arbiter : (grantAll s).arbiter = s.arbiter := by simp [grantAll]
@[simp] theorem grantAll_hold : (grantAll s).hold = s.hold := by simp [grantAll]
@[simp] theorem grantAll_pinTable : (grantAll s).pinTable = s.pinTable := by simp [grantAll]
@[simp] theorem grantAll_attention : (grantAll s).attention = s.attention := by simp [grantAll]
@[simp] theorem grantAll_timing : (grantAll s).timing = s.timing := by simp [grantAll]
@[simp] theorem grantAll_ports : (grantAll s).ports = s.ports := by simp [grantAll]
@[simp] theorem grantAll_channels : (grantAll s).channels = s.channels := by simp [grantAll]
@[simp] theorem grantAll_moments : (grantAll s).moments = s.moments := by simp [grantAll]
@[simp] theorem grantAll_pending : (grantAll s).pending = s.pending := by simp [grantAll]

/-! ### endMissing -/

@[simp] theorem endMissing_memory (c : ChannelId) (b : BufferId) : (endMissing c b s).memory = s.memory := by simp [endMissing]
@[simp] theorem endMissing_engine (c : ChannelId) (b : BufferId) : (endMissing c b s).engine = s.engine := by simp [endMissing]
@[simp] theorem endMissing_arbiter (c : ChannelId) (b : BufferId) : (endMissing c b s).arbiter = s.arbiter := by simp [endMissing]
@[simp] theorem endMissing_hold (c : ChannelId) (b : BufferId) : (endMissing c b s).hold = s.hold := by simp [endMissing]
@[simp] theorem endMissing_pinTable (c : ChannelId) (b : BufferId) : (endMissing c b s).pinTable = s.pinTable := by simp [endMissing]
@[simp] theorem endMissing_attention (c : ChannelId) (b : BufferId) : (endMissing c b s).attention = s.attention := by simp [endMissing]
@[simp] theorem endMissing_timing (c : ChannelId) (b : BufferId) : (endMissing c b s).timing = s.timing := by simp [endMissing]
@[simp] theorem endMissing_ports (c : ChannelId) (b : BufferId) : (endMissing c b s).ports = s.ports := by simp [endMissing]
@[simp] theorem endMissing_moments (c : ChannelId) (b : BufferId) : (endMissing c b s).moments = s.moments := by simp [endMissing]
@[simp] theorem endMissing_pending (c : ChannelId) (b : BufferId) : (endMissing c b s).pending = s.pending := by simp [endMissing]

/-! ### endData -/

@[simp] theorem endData_memory (c : ChannelId) (b : BufferId) (l : List Byte) : (endData c b l s).memory = s.memory := by unfold endData; split <;> simp
@[simp] theorem endData_engine (c : ChannelId) (b : BufferId) (l : List Byte) : (endData c b l s).engine = s.engine := by unfold endData; split <;> simp
@[simp] theorem endData_arbiter (c : ChannelId) (b : BufferId) (l : List Byte) : (endData c b l s).arbiter = s.arbiter := by unfold endData; split <;> simp
@[simp] theorem endData_hold (c : ChannelId) (b : BufferId) (l : List Byte) : (endData c b l s).hold = s.hold := by unfold endData; split <;> simp
@[simp] theorem endData_pinTable (c : ChannelId) (b : BufferId) (l : List Byte) : (endData c b l s).pinTable = s.pinTable := by unfold endData; split <;> simp
@[simp] theorem endData_attention (c : ChannelId) (b : BufferId) (l : List Byte) : (endData c b l s).attention = s.attention := by unfold endData; split <;> simp
@[simp] theorem endData_timing (c : ChannelId) (b : BufferId) (l : List Byte) : (endData c b l s).timing = s.timing := by unfold endData; split <;> simp
@[simp] theorem endData_ports (c : ChannelId) (b : BufferId) (l : List Byte) : (endData c b l s).ports = s.ports := by unfold endData; split <;> simp
@[simp] theorem endData_moments (c : ChannelId) (b : BufferId) (l : List Byte) : (endData c b l s).moments = s.moments := by unfold endData; split <;> simp
@[simp] theorem endData_pending (c : ChannelId) (b : BufferId) (l : List Byte) : (endData c b l s).pending = s.pending := by unfold endData; split <;> simp

/-! ### endConcealed -/

@[simp] theorem endConcealed_memory (c : ChannelId) (b : BufferId) (n : Nat) (x : Failure) : (endConcealed c b n x s).memory = s.memory := by
  unfold endConcealed
  dsimp only
  split
  · split
    · split <;> simp
    · simp
  · simp
@[simp] theorem endConcealed_engine (c : ChannelId) (b : BufferId) (n : Nat) (x : Failure) : (endConcealed c b n x s).engine = s.engine := by
  unfold endConcealed
  dsimp only
  split
  · split
    · split <;> simp
    · simp
  · simp
@[simp] theorem endConcealed_arbiter (c : ChannelId) (b : BufferId) (n : Nat) (x : Failure) : (endConcealed c b n x s).arbiter = s.arbiter := by
  unfold endConcealed
  dsimp only
  split
  · split
    · split <;> simp
    · simp
  · simp
@[simp] theorem endConcealed_hold (c : ChannelId) (b : BufferId) (n : Nat) (x : Failure) : (endConcealed c b n x s).hold = s.hold := by
  unfold endConcealed
  dsimp only
  split
  · split
    · split <;> simp
    · simp
  · simp
@[simp] theorem endConcealed_pinTable (c : ChannelId) (b : BufferId) (n : Nat) (x : Failure) : (endConcealed c b n x s).pinTable = s.pinTable := by
  unfold endConcealed
  dsimp only
  split
  · split
    · split <;> simp
    · simp
  · simp
@[simp] theorem endConcealed_timing (c : ChannelId) (b : BufferId) (n : Nat) (x : Failure) : (endConcealed c b n x s).timing = s.timing := by
  unfold endConcealed
  dsimp only
  split
  · split
    · split <;> simp
    · simp
  · simp
@[simp] theorem endConcealed_moments (c : ChannelId) (b : BufferId) (n : Nat) (x : Failure) : (endConcealed c b n x s).moments = s.moments := by
  unfold endConcealed
  dsimp only
  split
  · split
    · split <;> simp
    · simp
  · simp
@[simp] theorem endConcealed_pending (c : ChannelId) (b : BufferId) (n : Nat) (x : Failure) : (endConcealed c b n x s).pending = s.pending := by
  unfold endConcealed
  dsimp only
  split
  · split
    · split <;> simp
    · simp
  · simp

/-! ### failAttempt -/

@[simp] theorem failAttempt_memory (c : ChannelId) (b : BufferId) (x : Failure) : (failAttempt c b x s).memory = s.memory := by
  unfold failAttempt
  split
  · rfl
  · (repeat' split) <;> simp
@[simp] theorem failAttempt_engine (c : ChannelId) (b : BufferId) (x : Failure) : (failAttempt c b x s).engine = s.engine := by
  unfold failAttempt
  split
  · rfl
  · (repeat' split) <;> simp
@[simp] theorem failAttempt_arbiter (c : ChannelId) (b : BufferId) (x : Failure) : (failAttempt c b x s).arbiter = s.arbiter := by
  unfold failAttempt
  split
  · rfl
  · (repeat' split) <;> simp
@[simp] theorem failAttempt_hold (c : ChannelId) (b : BufferId) (x : Failure) : (failAttempt c b x s).hold = s.hold := by
  unfold failAttempt
  split
  · rfl
  · (repeat' split) <;> simp
@[simp] theorem failAttempt_pinTable (c : ChannelId) (b : BufferId) (x : Failure) : (failAttempt c b x s).pinTable = s.pinTable := by
  unfold failAttempt
  split
  · rfl
  · (repeat' split) <;> simp
@[simp] theorem failAttempt_timing (c : ChannelId) (b : BufferId) (x : Failure) : (failAttempt c b x s).timing = s.timing := by
  unfold failAttempt
  split
  · rfl
  · (repeat' split) <;> simp
@[simp] theorem failAttempt_moments (c : ChannelId) (b : BufferId) (x : Failure) : (failAttempt c b x s).moments = s.moments := by
  unfold failAttempt
  split
  · rfl
  · (repeat' split) <;> simp
@[simp] theorem failAttempt_pending (c : ChannelId) (b : BufferId) (x : Failure) : (failAttempt c b x s).pending = s.pending := by
  unfold failAttempt
  split
  · rfl
  · (repeat' split) <;> simp

/-! ### discardBuffers -/

@[simp] theorem discardBuffers_memory (c : ChannelId) : (discardBuffers c s).memory = s.memory := by simp [discardBuffers]
@[simp] theorem discardBuffers_engine (c : ChannelId) : (discardBuffers c s).engine = s.engine := by simp [discardBuffers]
@[simp] theorem discardBuffers_arbiter (c : ChannelId) : (discardBuffers c s).arbiter = s.arbiter := by simp [discardBuffers]
@[simp] theorem discardBuffers_hold (c : ChannelId) : (discardBuffers c s).hold = s.hold := by simp [discardBuffers]
@[simp] theorem discardBuffers_pinTable (c : ChannelId) : (discardBuffers c s).pinTable = s.pinTable := by simp [discardBuffers]
@[simp] theorem discardBuffers_attention (c : ChannelId) : (discardBuffers c s).attention = s.attention := by simp [discardBuffers]
@[simp] theorem discardBuffers_timing (c : ChannelId) : (discardBuffers c s).timing = s.timing := by simp [discardBuffers]
@[simp] theorem discardBuffers_ports (c : ChannelId) : (discardBuffers c s).ports = s.ports := by simp [discardBuffers]
@[simp] theorem discardBuffers_moments (c : ChannelId) : (discardBuffers c s).moments = s.moments := by simp [discardBuffers]
@[simp] theorem discardBuffers_pending (c : ChannelId) : (discardBuffers c s).pending = s.pending := by simp [discardBuffers]

/-! ### endRetries -/

@[simp] theorem endRetries_memory (c : ChannelId) : (endRetries c s).memory = s.memory := by
  unfold endRetries
  refine List.foldlRecOn (motive := fun (t : State) => t.memory = s.memory) _ _ rfl fun t h b _ => ?_
  (repeat' split) <;> simp [h]
@[simp] theorem endRetries_engine (c : ChannelId) : (endRetries c s).engine = s.engine := by
  unfold endRetries
  refine List.foldlRecOn (motive := fun (t : State) => t.engine = s.engine) _ _ rfl fun t h b _ => ?_
  (repeat' split) <;> simp [h]
@[simp] theorem endRetries_arbiter (c : ChannelId) : (endRetries c s).arbiter = s.arbiter := by
  unfold endRetries
  refine List.foldlRecOn (motive := fun (t : State) => t.arbiter = s.arbiter) _ _ rfl fun t h b _ => ?_
  (repeat' split) <;> simp [h]
@[simp] theorem endRetries_hold (c : ChannelId) : (endRetries c s).hold = s.hold := by
  unfold endRetries
  refine List.foldlRecOn (motive := fun (t : State) => t.hold = s.hold) _ _ rfl fun t h b _ => ?_
  (repeat' split) <;> simp [h]
@[simp] theorem endRetries_pinTable (c : ChannelId) : (endRetries c s).pinTable = s.pinTable := by
  unfold endRetries
  refine List.foldlRecOn (motive := fun (t : State) => t.pinTable = s.pinTable) _ _ rfl fun t h b _ => ?_
  (repeat' split) <;> simp [h]
@[simp] theorem endRetries_attention (c : ChannelId) : (endRetries c s).attention = s.attention := by
  unfold endRetries
  refine List.foldlRecOn (motive := fun (t : State) => t.attention = s.attention) _ _ rfl fun t h b _ => ?_
  (repeat' split) <;> simp [h]
@[simp] theorem endRetries_timing (c : ChannelId) : (endRetries c s).timing = s.timing := by
  unfold endRetries
  refine List.foldlRecOn (motive := fun (t : State) => t.timing = s.timing) _ _ rfl fun t h b _ => ?_
  (repeat' split) <;> simp [h]
@[simp] theorem endRetries_ports (c : ChannelId) : (endRetries c s).ports = s.ports := by
  unfold endRetries
  refine List.foldlRecOn (motive := fun (t : State) => t.ports = s.ports) _ _ rfl fun t h b _ => ?_
  (repeat' split) <;> simp [h]
@[simp] theorem endRetries_moments (c : ChannelId) : (endRetries c s).moments = s.moments := by
  unfold endRetries
  refine List.foldlRecOn (motive := fun (t : State) => t.moments = s.moments) _ _ rfl fun t h b _ => ?_
  (repeat' split) <;> simp [h]
@[simp] theorem endRetries_pending (c : ChannelId) : (endRetries c s).pending = s.pending := by
  unfold endRetries
  refine List.foldlRecOn (motive := fun (t : State) => t.pending = s.pending) _ _ rfl fun t h b _ => ?_
  (repeat' split) <;> simp [h]

/-! ### enterState -/

@[simp] theorem enterState_memory (c : ChannelId) (x : ChannelState) : (enterState c x s).memory = s.memory := rfl
@[simp] theorem enterState_engine (c : ChannelId) (x : ChannelState) : (enterState c x s).engine = s.engine := rfl
@[simp] theorem enterState_arbiter (c : ChannelId) (x : ChannelState) : (enterState c x s).arbiter = s.arbiter := rfl
@[simp] theorem enterState_hold (c : ChannelId) (x : ChannelState) : (enterState c x s).hold = s.hold := rfl
@[simp] theorem enterState_pinTable (c : ChannelId) (x : ChannelState) : (enterState c x s).pinTable = s.pinTable := rfl
@[simp] theorem enterState_attention (c : ChannelId) (x : ChannelState) : (enterState c x s).attention = s.attention := rfl
@[simp] theorem enterState_store (c : ChannelId) (x : ChannelState) : (enterState c x s).store = s.store := rfl
@[simp] theorem enterState_timing (c : ChannelId) (x : ChannelState) : (enterState c x s).timing = s.timing := rfl
@[simp] theorem enterState_ports (c : ChannelId) (x : ChannelState) : (enterState c x s).ports = s.ports := rfl
@[simp] theorem enterState_moments (c : ChannelId) (x : ChannelState) : (enterState c x s).moments = s.moments := rfl
@[simp] theorem enterState_pending (c : ChannelId) (x : ChannelState) : (enterState c x s).pending = s.pending := rfl

/-! ### letGo -/

@[simp] theorem letGo_memory (c : ChannelId) : (letGo c s).memory = s.memory := by simp [letGo]
@[simp] theorem letGo_engine (c : ChannelId) : (letGo c s).engine = s.engine := by simp [letGo]
@[simp] theorem letGo_arbiter (c : ChannelId) : (letGo c s).arbiter = s.arbiter := by simp [letGo]
@[simp] theorem letGo_hold (c : ChannelId) : (letGo c s).hold = s.hold := by simp [letGo]
@[simp] theorem letGo_pinTable (c : ChannelId) : (letGo c s).pinTable = s.pinTable := by simp [letGo]
@[simp] theorem letGo_attention (c : ChannelId) : (letGo c s).attention = s.attention := by simp [letGo]
@[simp] theorem letGo_timing (c : ChannelId) : (letGo c s).timing = s.timing := by simp [letGo]
@[simp] theorem letGo_ports (c : ChannelId) : (letGo c s).ports = s.ports := by simp [letGo]
@[simp] theorem letGo_moments (c : ChannelId) : (letGo c s).moments = s.moments := by simp [letGo]
@[simp] theorem letGo_pending (c : ChannelId) : (letGo c s).pending = s.pending := by simp [letGo]

/-! ### endCue -/

@[simp] theorem endCue_memory (c : ChannelId) (x : CueStatus) : (endCue c x s).memory = s.memory := by unfold endCue; split <;> simp
@[simp] theorem endCue_engine (c : ChannelId) (x : CueStatus) : (endCue c x s).engine = s.engine := by unfold endCue; split <;> simp
@[simp] theorem endCue_arbiter (c : ChannelId) (x : CueStatus) : (endCue c x s).arbiter = s.arbiter := by unfold endCue; split <;> simp
@[simp] theorem endCue_hold (c : ChannelId) (x : CueStatus) : (endCue c x s).hold = s.hold := by unfold endCue; split <;> simp
@[simp] theorem endCue_pinTable (c : ChannelId) (x : CueStatus) : (endCue c x s).pinTable = s.pinTable := by unfold endCue; split <;> simp
@[simp] theorem endCue_timing (c : ChannelId) (x : CueStatus) : (endCue c x s).timing = s.timing := by unfold endCue; split <;> simp
@[simp] theorem endCue_moments (c : ChannelId) (x : CueStatus) : (endCue c x s).moments = s.moments := by unfold endCue; split <;> simp
@[simp] theorem endCue_pending (c : ChannelId) (x : CueStatus) : (endCue c x s).pending = s.pending := by unfold endCue; split <;> simp

/-! ### goOn -/

@[simp] theorem goOn_memory (c : ChannelId) : (goOn c s).memory = s.memory := by unfold goOn; (repeat' split) <;> simp
@[simp] theorem goOn_engine (c : ChannelId) : (goOn c s).engine = s.engine := by unfold goOn; (repeat' split) <;> simp
@[simp] theorem goOn_arbiter (c : ChannelId) : (goOn c s).arbiter = s.arbiter := by unfold goOn; (repeat' split) <;> simp
@[simp] theorem goOn_hold (c : ChannelId) : (goOn c s).hold = s.hold := by unfold goOn; (repeat' split) <;> simp
@[simp] theorem goOn_pinTable (c : ChannelId) : (goOn c s).pinTable = s.pinTable := by unfold goOn; (repeat' split) <;> simp
@[simp] theorem goOn_store (c : ChannelId) : (goOn c s).store = s.store := by unfold goOn; (repeat' split) <;> simp
@[simp] theorem goOn_timing (c : ChannelId) : (goOn c s).timing = s.timing := by unfold goOn; (repeat' split) <;> simp
@[simp] theorem goOn_moments (c : ChannelId) : (goOn c s).moments = s.moments := by unfold goOn; (repeat' split) <;> simp
@[simp] theorem goOn_pending (c : ChannelId) : (goOn c s).pending = s.pending := by unfold goOn; (repeat' split) <;> simp

/-! ### finishCue -/

@[simp] theorem finishCue_memory (c : ChannelId) : (finishCue c s).memory = s.memory := by unfold finishCue; dsimp only; (repeat' split) <;> simp
@[simp] theorem finishCue_engine (c : ChannelId) : (finishCue c s).engine = s.engine := by unfold finishCue; dsimp only; (repeat' split) <;> simp
@[simp] theorem finishCue_arbiter (c : ChannelId) : (finishCue c s).arbiter = s.arbiter := by unfold finishCue; dsimp only; (repeat' split) <;> simp
@[simp] theorem finishCue_hold (c : ChannelId) : (finishCue c s).hold = s.hold := by unfold finishCue; dsimp only; (repeat' split) <;> simp
@[simp] theorem finishCue_pinTable (c : ChannelId) : (finishCue c s).pinTable = s.pinTable := by unfold finishCue; dsimp only; (repeat' split) <;> simp
@[simp] theorem finishCue_timing (c : ChannelId) : (finishCue c s).timing = s.timing := by unfold finishCue; dsimp only; (repeat' split) <;> simp
@[simp] theorem finishCue_moments (c : ChannelId) : (finishCue c s).moments = s.moments := by unfold finishCue; dsimp only; (repeat' split) <;> simp
@[simp] theorem finishCue_pending (c : ChannelId) : (finishCue c s).pending = s.pending := by unfold finishCue; dsimp only; (repeat' split) <;> simp

/-! ### keepRemainder -/

@[simp] theorem keepRemainder_memory (c : ChannelId) : (keepRemainder c s).memory = s.memory := by simp [keepRemainder]
@[simp] theorem keepRemainder_engine (c : ChannelId) : (keepRemainder c s).engine = s.engine := by simp [keepRemainder]
@[simp] theorem keepRemainder_arbiter (c : ChannelId) : (keepRemainder c s).arbiter = s.arbiter := by simp [keepRemainder]
@[simp] theorem keepRemainder_hold (c : ChannelId) : (keepRemainder c s).hold = s.hold := by simp [keepRemainder]
@[simp] theorem keepRemainder_pinTable (c : ChannelId) : (keepRemainder c s).pinTable = s.pinTable := by simp [keepRemainder]
@[simp] theorem keepRemainder_attention (c : ChannelId) : (keepRemainder c s).attention = s.attention := by simp [keepRemainder]
@[simp] theorem keepRemainder_timing (c : ChannelId) : (keepRemainder c s).timing = s.timing := by simp [keepRemainder]
@[simp] theorem keepRemainder_ports (c : ChannelId) : (keepRemainder c s).ports = s.ports := by simp [keepRemainder]
@[simp] theorem keepRemainder_moments (c : ChannelId) : (keepRemainder c s).moments = s.moments := by simp [keepRemainder]
@[simp] theorem keepRemainder_pending (c : ChannelId) : (keepRemainder c s).pending = s.pending := by simp [keepRemainder]

/-! ### stoppingEnd -/

@[simp] theorem stoppingEnd_memory (c : ChannelId) : (stoppingEnd c s).memory = s.memory := by unfold stoppingEnd; dsimp only; (repeat' split) <;> simp
@[simp] theorem stoppingEnd_engine (c : ChannelId) : (stoppingEnd c s).engine = s.engine := by unfold stoppingEnd; dsimp only; (repeat' split) <;> simp
@[simp] theorem stoppingEnd_arbiter (c : ChannelId) : (stoppingEnd c s).arbiter = s.arbiter := by unfold stoppingEnd; dsimp only; (repeat' split) <;> simp
@[simp] theorem stoppingEnd_hold (c : ChannelId) : (stoppingEnd c s).hold = s.hold := by unfold stoppingEnd; dsimp only; (repeat' split) <;> simp
@[simp] theorem stoppingEnd_pinTable (c : ChannelId) : (stoppingEnd c s).pinTable = s.pinTable := by unfold stoppingEnd; dsimp only; (repeat' split) <;> simp
@[simp] theorem stoppingEnd_timing (c : ChannelId) : (stoppingEnd c s).timing = s.timing := by unfold stoppingEnd; dsimp only; (repeat' split) <;> simp
@[simp] theorem stoppingEnd_moments (c : ChannelId) : (stoppingEnd c s).moments = s.moments := by unfold stoppingEnd; dsimp only; (repeat' split) <;> simp
@[simp] theorem stoppingEnd_pending (c : ChannelId) : (stoppingEnd c s).pending = s.pending := by unfold stoppingEnd; dsimp only; (repeat' split) <;> simp

/-! ### releaseBuffers -/

@[simp] theorem releaseBuffers_memory (c : ChannelId) : (releaseBuffers c s).memory = s.memory := by unfold releaseBuffers; dsimp only; split <;> simp
@[simp] theorem releaseBuffers_engine (c : ChannelId) : (releaseBuffers c s).engine = s.engine := by unfold releaseBuffers; dsimp only; split <;> simp
@[simp] theorem releaseBuffers_arbiter (c : ChannelId) : (releaseBuffers c s).arbiter = s.arbiter := by unfold releaseBuffers; dsimp only; split <;> simp
@[simp] theorem releaseBuffers_hold (c : ChannelId) : (releaseBuffers c s).hold = s.hold := by unfold releaseBuffers; dsimp only; split <;> simp
@[simp] theorem releaseBuffers_pinTable (c : ChannelId) : (releaseBuffers c s).pinTable = s.pinTable := by unfold releaseBuffers; dsimp only; split <;> simp
@[simp] theorem releaseBuffers_attention (c : ChannelId) : (releaseBuffers c s).attention = s.attention := by unfold releaseBuffers; dsimp only; split <;> simp
@[simp] theorem releaseBuffers_store (c : ChannelId) : (releaseBuffers c s).store = s.store := by unfold releaseBuffers; dsimp only; split <;> simp
@[simp] theorem releaseBuffers_timing (c : ChannelId) : (releaseBuffers c s).timing = s.timing := by unfold releaseBuffers; dsimp only; split <;> simp
@[simp] theorem releaseBuffers_ports (c : ChannelId) : (releaseBuffers c s).ports = s.ports := by unfold releaseBuffers; dsimp only; split <;> simp
@[simp] theorem releaseBuffers_moments (c : ChannelId) : (releaseBuffers c s).moments = s.moments := by unfold releaseBuffers; dsimp only; split <;> simp
@[simp] theorem releaseBuffers_pending (c : ChannelId) : (releaseBuffers c s).pending = s.pending := by unfold releaseBuffers; dsimp only; split <;> simp

/-! ### assemble -/

@[simp] theorem assemble_memory (c : ChannelId) : (assemble c s).memory = s.memory := by unfold assemble; dsimp only; (repeat' split) <;> simp
@[simp] theorem assemble_engine (c : ChannelId) : (assemble c s).engine = s.engine := by unfold assemble; dsimp only; (repeat' split) <;> simp
@[simp] theorem assemble_arbiter (c : ChannelId) : (assemble c s).arbiter = s.arbiter := by unfold assemble; dsimp only; (repeat' split) <;> simp
@[simp] theorem assemble_hold (c : ChannelId) : (assemble c s).hold = s.hold := by unfold assemble; dsimp only; (repeat' split) <;> simp
@[simp] theorem assemble_pinTable (c : ChannelId) : (assemble c s).pinTable = s.pinTable := by unfold assemble; dsimp only; (repeat' split) <;> simp
@[simp] theorem assemble_attention (c : ChannelId) : (assemble c s).attention = s.attention := by unfold assemble; dsimp only; (repeat' split) <;> simp
@[simp] theorem assemble_store (c : ChannelId) : (assemble c s).store = s.store := by unfold assemble; dsimp only; (repeat' split) <;> simp
@[simp] theorem assemble_timing (c : ChannelId) : (assemble c s).timing = s.timing := by unfold assemble; dsimp only; (repeat' split) <;> simp
@[simp] theorem assemble_ports (c : ChannelId) : (assemble c s).ports = s.ports := by unfold assemble; dsimp only; (repeat' split) <;> simp
@[simp] theorem assemble_moments (c : ChannelId) : (assemble c s).moments = s.moments := by unfold assemble; dsimp only; (repeat' split) <;> simp
@[simp] theorem assemble_pending (c : ChannelId) : (assemble c s).pending = s.pending := by unfold assemble; dsimp only; (repeat' split) <;> simp

/-! ### issueOne -/

@[simp] theorem issueOne_memory (c : ChannelId) : (issueOne c s).memory = s.memory := by unfold issueOne; dsimp only; (repeat' split) <;> simp
@[simp] theorem issueOne_engine (c : ChannelId) : (issueOne c s).engine = s.engine := by unfold issueOne; dsimp only; (repeat' split) <;> simp
@[simp] theorem issueOne_arbiter (c : ChannelId) : (issueOne c s).arbiter = s.arbiter := by unfold issueOne; dsimp only; (repeat' split) <;> simp
@[simp] theorem issueOne_hold (c : ChannelId) : (issueOne c s).hold = s.hold := by unfold issueOne; dsimp only; (repeat' split) <;> simp
@[simp] theorem issueOne_pinTable (c : ChannelId) : (issueOne c s).pinTable = s.pinTable := by unfold issueOne; dsimp only; (repeat' split) <;> simp
@[simp] theorem issueOne_attention (c : ChannelId) : (issueOne c s).attention = s.attention := by unfold issueOne; dsimp only; (repeat' split) <;> simp
@[simp] theorem issueOne_timing (c : ChannelId) : (issueOne c s).timing = s.timing := by unfold issueOne; dsimp only; (repeat' split) <;> simp
@[simp] theorem issueOne_ports (c : ChannelId) : (issueOne c s).ports = s.ports := by unfold issueOne; dsimp only; (repeat' split) <;> simp
@[simp] theorem issueOne_moments (c : ChannelId) : (issueOne c s).moments = s.moments := by unfold issueOne; dsimp only; (repeat' split) <;> simp
@[simp] theorem issueOne_pending (c : ChannelId) : (issueOne c s).pending = s.pending := by unfold issueOne; dsimp only; (repeat' split) <;> simp

/-! ### issueAll -/

@[simp] theorem issueAll_memory (c : ChannelId) : (issueAll c s).memory = s.memory := by simp [issueAll]
@[simp] theorem issueAll_engine (c : ChannelId) : (issueAll c s).engine = s.engine := by simp [issueAll]
@[simp] theorem issueAll_arbiter (c : ChannelId) : (issueAll c s).arbiter = s.arbiter := by simp [issueAll]
@[simp] theorem issueAll_hold (c : ChannelId) : (issueAll c s).hold = s.hold := by simp [issueAll]
@[simp] theorem issueAll_pinTable (c : ChannelId) : (issueAll c s).pinTable = s.pinTable := by simp [issueAll]
@[simp] theorem issueAll_attention (c : ChannelId) : (issueAll c s).attention = s.attention := by simp [issueAll]
@[simp] theorem issueAll_timing (c : ChannelId) : (issueAll c s).timing = s.timing := by simp [issueAll]
@[simp] theorem issueAll_ports (c : ChannelId) : (issueAll c s).ports = s.ports := by simp [issueAll]
@[simp] theorem issueAll_moments (c : ChannelId) : (issueAll c s).moments = s.moments := by simp [issueAll]
@[simp] theorem issueAll_pending (c : ChannelId) : (issueAll c s).pending = s.pending := by simp [issueAll]

/-! ### presentJob -/

@[simp] theorem presentJob_memory (c : ChannelId) : (presentJob c s).memory = s.memory := by unfold presentJob; dsimp only; split <;> simp
@[simp] theorem presentJob_engine (c : ChannelId) : (presentJob c s).engine = s.engine := by unfold presentJob; dsimp only; split <;> simp
@[simp] theorem presentJob_hold (c : ChannelId) : (presentJob c s).hold = s.hold := by unfold presentJob; dsimp only; split <;> simp
@[simp] theorem presentJob_pinTable (c : ChannelId) : (presentJob c s).pinTable = s.pinTable := by unfold presentJob; dsimp only; split <;> simp
@[simp] theorem presentJob_attention (c : ChannelId) : (presentJob c s).attention = s.attention := by unfold presentJob; dsimp only; split <;> simp
@[simp] theorem presentJob_store (c : ChannelId) : (presentJob c s).store = s.store := by unfold presentJob; dsimp only; split <;> simp
@[simp] theorem presentJob_timing (c : ChannelId) : (presentJob c s).timing = s.timing := by unfold presentJob; dsimp only; split <;> simp
@[simp] theorem presentJob_ports (c : ChannelId) : (presentJob c s).ports = s.ports := by unfold presentJob; dsimp only; split <;> simp
@[simp] theorem presentJob_moments (c : ChannelId) : (presentJob c s).moments = s.moments := by unfold presentJob; dsimp only; split <;> simp
@[simp] theorem presentJob_pending (c : ChannelId) : (presentJob c s).pending = s.pending := by unfold presentJob; dsimp only; split <;> simp

/-! ### settleChannel -/

@[simp] theorem settleChannel_memory (c : ChannelId) : (settleChannel c s).memory = s.memory := by simp [settleChannel]
@[simp] theorem settleChannel_engine (c : ChannelId) : (settleChannel c s).engine = s.engine := by simp [settleChannel]
@[simp] theorem settleChannel_hold (c : ChannelId) : (settleChannel c s).hold = s.hold := by simp [settleChannel]
@[simp] theorem settleChannel_pinTable (c : ChannelId) : (settleChannel c s).pinTable = s.pinTable := by simp [settleChannel]
@[simp] theorem settleChannel_timing (c : ChannelId) : (settleChannel c s).timing = s.timing := by simp [settleChannel]
@[simp] theorem settleChannel_moments (c : ChannelId) : (settleChannel c s).moments = s.moments := by simp [settleChannel]
@[simp] theorem settleChannel_pending (c : ChannelId) : (settleChannel c s).pending = s.pending := by simp [settleChannel]

/-! ### settle -/

@[simp] theorem settle_memory (c : ChannelId) : (settle c s).memory = s.memory := by simp [settle]
@[simp] theorem settle_engine (c : ChannelId) : (settle c s).engine = s.engine := by simp [settle]
@[simp] theorem settle_hold (c : ChannelId) : (settle c s).hold = s.hold := by simp [settle]
@[simp] theorem settle_pinTable (c : ChannelId) : (settle c s).pinTable = s.pinTable := by simp [settle]
@[simp] theorem settle_timing (c : ChannelId) : (settle c s).timing = s.timing := by simp [settle]
@[simp] theorem settle_moments (c : ChannelId) : (settle c s).moments = s.moments := by simp [settle]
@[simp] theorem settle_pending (c : ChannelId) : (settle c s).pending = s.pending := by simp [settle]

/-! ### muteCue -/

@[simp] theorem muteCue_memory (c : ChannelId) : (muteCue c s).memory = s.memory := by simp [muteCue]
@[simp] theorem muteCue_engine (c : ChannelId) : (muteCue c s).engine = s.engine := by simp [muteCue]
@[simp] theorem muteCue_arbiter (c : ChannelId) : (muteCue c s).arbiter = s.arbiter := by simp [muteCue]
@[simp] theorem muteCue_hold (c : ChannelId) : (muteCue c s).hold = s.hold := by simp [muteCue]
@[simp] theorem muteCue_pinTable (c : ChannelId) : (muteCue c s).pinTable = s.pinTable := by simp [muteCue]
@[simp] theorem muteCue_attention (c : ChannelId) : (muteCue c s).attention = s.attention := by simp [muteCue]
@[simp] theorem muteCue_timing (c : ChannelId) : (muteCue c s).timing = s.timing := by simp [muteCue]
@[simp] theorem muteCue_ports (c : ChannelId) : (muteCue c s).ports = s.ports := by simp [muteCue]
@[simp] theorem muteCue_moments (c : ChannelId) : (muteCue c s).moments = s.moments := by simp [muteCue]
@[simp] theorem muteCue_pending (c : ChannelId) : (muteCue c s).pending = s.pending := by simp [muteCue]

/-! ### stopCue -/

@[simp] theorem stopCue_memory (c : ChannelId) : (stopCue c s).memory = s.memory := by unfold stopCue; split <;> simp
@[simp] theorem stopCue_engine (c : ChannelId) : (stopCue c s).engine = s.engine := by unfold stopCue; split <;> simp
@[simp] theorem stopCue_arbiter (c : ChannelId) : (stopCue c s).arbiter = s.arbiter := by unfold stopCue; split <;> simp
@[simp] theorem stopCue_hold (c : ChannelId) : (stopCue c s).hold = s.hold := by unfold stopCue; split <;> simp
@[simp] theorem stopCue_pinTable (c : ChannelId) : (stopCue c s).pinTable = s.pinTable := by unfold stopCue; split <;> simp
@[simp] theorem stopCue_timing (c : ChannelId) : (stopCue c s).timing = s.timing := by unfold stopCue; split <;> simp
@[simp] theorem stopCue_moments (c : ChannelId) : (stopCue c s).moments = s.moments := by unfold stopCue; split <;> simp
@[simp] theorem stopCue_pending (c : ChannelId) : (stopCue c s).pending = s.pending := by unfold stopCue; split <;> simp

/-! ### cutoffEvent -/

@[simp] theorem cutoffEvent_memory (c : ChannelId) : (cutoffEvent c s).memory = s.memory := by unfold cutoffEvent; dsimp only; (repeat' split) <;> simp
@[simp] theorem cutoffEvent_engine (c : ChannelId) : (cutoffEvent c s).engine = s.engine := by unfold cutoffEvent; dsimp only; (repeat' split) <;> simp
@[simp] theorem cutoffEvent_arbiter (c : ChannelId) : (cutoffEvent c s).arbiter = s.arbiter := by unfold cutoffEvent; dsimp only; (repeat' split) <;> simp
@[simp] theorem cutoffEvent_hold (c : ChannelId) : (cutoffEvent c s).hold = s.hold := by unfold cutoffEvent; dsimp only; (repeat' split) <;> simp
@[simp] theorem cutoffEvent_pinTable (c : ChannelId) : (cutoffEvent c s).pinTable = s.pinTable := by unfold cutoffEvent; dsimp only; (repeat' split) <;> simp
@[simp] theorem cutoffEvent_timing (c : ChannelId) : (cutoffEvent c s).timing = s.timing := by unfold cutoffEvent; dsimp only; (repeat' split) <;> simp
@[simp] theorem cutoffEvent_moments (c : ChannelId) : (cutoffEvent c s).moments = s.moments := by unfold cutoffEvent; dsimp only; (repeat' split) <;> simp
@[simp] theorem cutoffEvent_pending (c : ChannelId) : (cutoffEvent c s).pending = s.pending := by unfold cutoffEvent; dsimp only; (repeat' split) <;> simp

/-! ### judge -/

@[simp] theorem judge_memory (c : ChannelId) : (judge c s).memory = s.memory := by unfold judge; split <;> simp
@[simp] theorem judge_engine (c : ChannelId) : (judge c s).engine = s.engine := by unfold judge; split <;> simp
@[simp] theorem judge_arbiter (c : ChannelId) : (judge c s).arbiter = s.arbiter := by unfold judge; split <;> simp
@[simp] theorem judge_hold (c : ChannelId) : (judge c s).hold = s.hold := by unfold judge; split <;> simp
@[simp] theorem judge_pinTable (c : ChannelId) : (judge c s).pinTable = s.pinTable := by unfold judge; split <;> simp
@[simp] theorem judge_timing (c : ChannelId) : (judge c s).timing = s.timing := by unfold judge; split <;> simp
@[simp] theorem judge_moments (c : ChannelId) : (judge c s).moments = s.moments := by unfold judge; split <;> simp
@[simp] theorem judge_pending (c : ChannelId) : (judge c s).pending = s.pending := by unfold judge; split <;> simp

/-! ### judgeChannels -/

@[simp] theorem judgeChannels_memory (l : List ChannelId) : (judgeChannels l s).memory = s.memory := by
  unfold judgeChannels
  simp only [grantAll_memory]
  refine List.foldlRecOn (motive := fun (t : State) => t.memory = s.memory) _ _ (by simp) fun t h c _ => ?_
  simp [h]
@[simp] theorem judgeChannels_engine (l : List ChannelId) : (judgeChannels l s).engine = s.engine := by
  unfold judgeChannels
  simp only [grantAll_engine]
  refine List.foldlRecOn (motive := fun (t : State) => t.engine = s.engine) _ _ (by simp) fun t h c _ => ?_
  simp [h]
@[simp] theorem judgeChannels_hold (l : List ChannelId) : (judgeChannels l s).hold = s.hold := by
  unfold judgeChannels
  simp only [grantAll_hold]
  refine List.foldlRecOn (motive := fun (t : State) => t.hold = s.hold) _ _ (by simp) fun t h c _ => ?_
  simp [h]
@[simp] theorem judgeChannels_pinTable (l : List ChannelId) : (judgeChannels l s).pinTable = s.pinTable := by
  unfold judgeChannels
  simp only [grantAll_pinTable]
  refine List.foldlRecOn (motive := fun (t : State) => t.pinTable = s.pinTable) _ _ (by simp) fun t h c _ => ?_
  simp [h]
@[simp] theorem judgeChannels_timing (l : List ChannelId) : (judgeChannels l s).timing = s.timing := by
  unfold judgeChannels
  simp only [grantAll_timing]
  refine List.foldlRecOn (motive := fun (t : State) => t.timing = s.timing) _ _ (by simp) fun t h c _ => ?_
  simp [h]
@[simp] theorem judgeChannels_pending (l : List ChannelId) : (judgeChannels l s).pending = s.pending := by
  unfold judgeChannels
  simp only [grantAll_pending]
  refine List.foldlRecOn (motive := fun (t : State) => t.pending = s.pending) _ _ (by simp) fun t h c _ => ?_
  simp [h]

/-! ### sendLapses -/

@[simp] theorem sendLapses_memory (x : LapseCause) (l : List Pin) : (sendLapses x l s).memory = s.memory := by
  unfold sendLapses
  refine List.foldlRecOn (motive := fun (t : State) => t.memory = s.memory) _ _ rfl fun t h p _ => ?_
  simp [h]
@[simp] theorem sendLapses_engine (x : LapseCause) (l : List Pin) : (sendLapses x l s).engine = s.engine := by
  unfold sendLapses
  refine List.foldlRecOn (motive := fun (t : State) => t.engine = s.engine) _ _ rfl fun t h p _ => ?_
  simp [h]
@[simp] theorem sendLapses_arbiter (x : LapseCause) (l : List Pin) : (sendLapses x l s).arbiter = s.arbiter := by
  unfold sendLapses
  refine List.foldlRecOn (motive := fun (t : State) => t.arbiter = s.arbiter) _ _ rfl fun t h p _ => ?_
  simp [h]
@[simp] theorem sendLapses_hold (x : LapseCause) (l : List Pin) : (sendLapses x l s).hold = s.hold := by
  unfold sendLapses
  refine List.foldlRecOn (motive := fun (t : State) => t.hold = s.hold) _ _ rfl fun t h p _ => ?_
  simp [h]
@[simp] theorem sendLapses_pinTable (x : LapseCause) (l : List Pin) : (sendLapses x l s).pinTable = s.pinTable := by
  unfold sendLapses
  refine List.foldlRecOn (motive := fun (t : State) => t.pinTable = s.pinTable) _ _ rfl fun t h p _ => ?_
  simp [h]
@[simp] theorem sendLapses_store (x : LapseCause) (l : List Pin) : (sendLapses x l s).store = s.store := by
  unfold sendLapses
  refine List.foldlRecOn (motive := fun (t : State) => t.store = s.store) _ _ rfl fun t h p _ => ?_
  simp [h]
@[simp] theorem sendLapses_timing (x : LapseCause) (l : List Pin) : (sendLapses x l s).timing = s.timing := by
  unfold sendLapses
  refine List.foldlRecOn (motive := fun (t : State) => t.timing = s.timing) _ _ rfl fun t h p _ => ?_
  simp [h]
@[simp] theorem sendLapses_channels (x : LapseCause) (l : List Pin) : (sendLapses x l s).channels = s.channels := by
  unfold sendLapses
  refine List.foldlRecOn (motive := fun (t : State) => t.channels = s.channels) _ _ rfl fun t h p _ => ?_
  simp [h]
@[simp] theorem sendLapses_moments (x : LapseCause) (l : List Pin) : (sendLapses x l s).moments = s.moments := by
  unfold sendLapses
  refine List.foldlRecOn (motive := fun (t : State) => t.moments = s.moments) _ _ rfl fun t h p _ => ?_
  simp [h]
@[simp] theorem sendLapses_pending (x : LapseCause) (l : List Pin) : (sendLapses x l s).pending = s.pending := by
  unfold sendLapses
  refine List.foldlRecOn (motive := fun (t : State) => t.pending = s.pending) _ _ rfl fun t h p _ => ?_
  simp [h]

/-! ### endJob -/

@[simp] theorem endJob_memory (c : ChannelId) : (endJob c s).memory = s.memory := rfl
@[simp] theorem endJob_engine (c : ChannelId) : (endJob c s).engine = s.engine := rfl
@[simp] theorem endJob_arbiter (c : ChannelId) : (endJob c s).arbiter = s.arbiter := rfl
@[simp] theorem endJob_hold (c : ChannelId) : (endJob c s).hold = s.hold := rfl
@[simp] theorem endJob_pinTable (c : ChannelId) : (endJob c s).pinTable = s.pinTable := rfl
@[simp] theorem endJob_attention (c : ChannelId) : (endJob c s).attention = s.attention := rfl
@[simp] theorem endJob_store (c : ChannelId) : (endJob c s).store = s.store := rfl
@[simp] theorem endJob_timing (c : ChannelId) : (endJob c s).timing = s.timing := rfl
@[simp] theorem endJob_ports (c : ChannelId) : (endJob c s).ports = s.ports := rfl
@[simp] theorem endJob_moments (c : ChannelId) : (endJob c s).moments = s.moments := rfl
@[simp] theorem endJob_pending (c : ChannelId) : (endJob c s).pending = s.pending := rfl

/-! ### releaseChannel -/

@[simp] theorem releaseChannel_memory (c : ChannelId) : (releaseChannel c s).memory = s.memory := by simp [releaseChannel]
@[simp] theorem releaseChannel_engine (c : ChannelId) : (releaseChannel c s).engine = s.engine := by simp [releaseChannel]
@[simp] theorem releaseChannel_arbiter (c : ChannelId) : (releaseChannel c s).arbiter = s.arbiter := by simp [releaseChannel]
@[simp] theorem releaseChannel_hold (c : ChannelId) : (releaseChannel c s).hold = s.hold := by simp [releaseChannel]
@[simp] theorem releaseChannel_pinTable (c : ChannelId) : (releaseChannel c s).pinTable = s.pinTable := by simp [releaseChannel]
@[simp] theorem releaseChannel_timing (c : ChannelId) : (releaseChannel c s).timing = s.timing := by simp [releaseChannel]
@[simp] theorem releaseChannel_moments (c : ChannelId) : (releaseChannel c s).moments = s.moments := by simp [releaseChannel]
@[simp] theorem releaseChannel_pending (c : ChannelId) : (releaseChannel c s).pending = s.pending := by simp [releaseChannel]

/-! ### clearCredit -/

@[simp] theorem clearCredit_memory (q : PortId) (c : ChannelId) : (clearCredit q c s).memory = s.memory := rfl
@[simp] theorem clearCredit_engine (q : PortId) (c : ChannelId) : (clearCredit q c s).engine = s.engine := rfl
@[simp] theorem clearCredit_arbiter (q : PortId) (c : ChannelId) : (clearCredit q c s).arbiter = s.arbiter := rfl
@[simp] theorem clearCredit_hold (q : PortId) (c : ChannelId) : (clearCredit q c s).hold = s.hold := rfl
@[simp] theorem clearCredit_pinTable (q : PortId) (c : ChannelId) : (clearCredit q c s).pinTable = s.pinTable := rfl
@[simp] theorem clearCredit_attention (q : PortId) (c : ChannelId) : (clearCredit q c s).attention = s.attention := rfl
@[simp] theorem clearCredit_store (q : PortId) (c : ChannelId) : (clearCredit q c s).store = s.store := rfl
@[simp] theorem clearCredit_timing (q : PortId) (c : ChannelId) : (clearCredit q c s).timing = s.timing := rfl
@[simp] theorem clearCredit_channels (q : PortId) (c : ChannelId) : (clearCredit q c s).channels = s.channels := rfl
@[simp] theorem clearCredit_moments (q : PortId) (c : ChannelId) : (clearCredit q c s).moments = s.moments := rfl
@[simp] theorem clearCredit_pending (q : PortId) (c : ChannelId) : (clearCredit q c s).pending = s.pending := rfl

/-! ### unbind -/

@[simp] theorem unbind_memory (q : PortId) (c : ChannelId) : (unbind q c s).memory = s.memory := by simp [unbind]
@[simp] theorem unbind_engine (q : PortId) (c : ChannelId) : (unbind q c s).engine = s.engine := by simp [unbind]
@[simp] theorem unbind_hold (q : PortId) (c : ChannelId) : (unbind q c s).hold = s.hold := by simp [unbind]
@[simp] theorem unbind_pinTable (q : PortId) (c : ChannelId) : (unbind q c s).pinTable = s.pinTable := by simp [unbind]
@[simp] theorem unbind_timing (q : PortId) (c : ChannelId) : (unbind q c s).timing = s.timing := by simp [unbind]
@[simp] theorem unbind_moments (q : PortId) (c : ChannelId) : (unbind q c s).moments = s.moments := by simp [unbind]
@[simp] theorem unbind_pending (q : PortId) (c : ChannelId) : (unbind q c s).pending = s.pending := by simp [unbind]

end Sys2Proof.Machine
end

