-- ==== Sys2Proof/Laws/Keeps.lean ====
section
/-! SUPPORT. What a property of states needs in order to be kept by the operations that take other operations: folds, reads,
lookups, the work on an item and the service of a catalogue job. -/

namespace Sys2Proof.Machine

variable {P : State → Prop}

/-- A property that each step of a fold keeps is kept by the fold. -/
theorem foldl_keeps {α : Type} (f : State → α → State) (hf : ∀ t x, P t → P (f t x)) :
    ∀ (l : List α) (s : State), P s → P (l.foldl f s)
  | [], _, h => h
  | x :: l, s, h => foldl_keeps f hf l (f s x) (hf s x h)

/-- A read of a word keeps a property that repairs keep. -/
theorem readWord_keeps (hr : ∀ n x r t, P t → P (noteRepairs n (t.writeRecord x r))) (x : Slot) (w : RecordWord) (s : State)
    (h : P s) : P (readWord x w s).2 := by
  unfold readWord
  dsimp only
  split
  · exact h
  · exact hr _ _ _ _ h

/-- A read of several words keeps a property that repairs keep. -/
theorem readWords_keeps (hr : ∀ n x r t, P t → P (noteRepairs n (t.writeRecord x r))) (x : Slot) :
    ∀ (l : List RecordWord) (s : State), P s → P (readWords x l s).2
  | [], _, h => h
  | w :: rest, s, h => by
    have hw := readWord_keeps hr x w s h
    unfold readWords
    split
    · next t e => rw [e] at hw; exact readWords_keeps hr x rest t hw
    · next t e => rw [e] at hw; exact readWords_keeps hr x rest t hw

/-- A lookup along a chain keeps a property that repairs and flags keep. -/
theorem lookupChain_keeps (hr : ∀ n x r t, P t → P (noteRepairs n (t.writeRecord x r))) (onFault : Slot → State → State)
    (hf : ∀ x t, P t → P (onFault x t)) (key : Key) :
    ∀ (l : List Slot) (saw : Bool) (s : State), P s → P (lookupChain onFault key l saw s).2
  | [], saw, s, h => by unfold lookupChain; exact h
  | x :: rest, saw, s, h => by
    have hw := readWord_keeps hr x .key s h
    unfold lookupChain
    split
    · exact lookupChain_keeps hr onFault hf key rest true s h
    · split
      · next t e =>
        rw [e] at hw
        split
        · exact hw
        · exact lookupChain_keeps hr onFault hf key rest saw t hw
      · next t e =>
        rw [e] at hw
        exact lookupChain_keeps hr onFault hf key rest true _ (hf _ _ hw)

/-- A lookup keeps a property that repairs and flags keep. -/
theorem lookup_keeps (hr : ∀ n x r t, P t → P (noteRepairs n (t.writeRecord x r))) (onFault : Slot → State → State)
    (hf : ∀ x t, P t → P (onFault x t)) (key : Key) (s : State) (h : P s) : P (lookup onFault key s).2 :=
  lookupChain_keeps hr onFault hf key _ _ s h

/-- The work on an item keeps a property that repairs, record faults, replies and the work itself keep. -/
theorem withItem_keeps (hr : ∀ n x r t, P t → P (noteRepairs n (t.writeRecord x r)))
    (hf : ∀ who part x t, P t → P (recordFault who part x t)) (ha : ∀ p code fs t, P t → P (reply p code fs t)) (p : PortId)
    (key : Key) (words : List RecordWord) (faulted : State → List Field) (work : Slot → State → State)
    (hw : ∀ x t, P t → P (work x t)) (s : State) (h : P s) : P (withItem p key words faulted work s) := by
  have hl := lookup_keeps hr (recordFault (.port p) .key) (hf _ _) key s h
  unfold withItem
  split
  · next t e => rw [e] at hl; exact ha _ _ _ _ hl
  · next t e => rw [e] at hl; exact ha _ _ _ _ hl
  · next x t e =>
    rw [e] at hl
    have hq := readWords_keeps hr x words t hl
    split
    · next w u e' => rw [e'] at hq; exact ha _ _ _ _ (hf _ _ _ _ hq)
    · next u e' => rw [e'] at hq; exact hw _ _ hq

/-- The service of a catalogue job keeps a property that replies, the arbiter and the job keep. -/
theorem catalogueJob_keeps (ha : ∀ p code fs t, P t → P (reply p code fs t)) (hg : ∀ t, P t → P (finishJob t))
    (p : PortId) (job : State → State) (hj : ∀ t, P t → P (job t)) (s : State) (h : P s) : P (catalogueJob p job s) := by
  unfold catalogueJob
  split
  · exact ha _ _ _ _ h
  · split
    · refine hg _ ?_
      split
      · exact ha _ _ _ _ h
      · exact hj _ h
    · split
      · exact ha _ _ _ _ h
      · split
        · exact ha _ _ _ _ h
        · exact h

/-- The grants of the store reader keep a property that one grant keeps. -/
theorem grantAll_keeps (hg : ∀ t r s, P s → P (grantTo t r s)) (s : State) (h : P s) : P (grantAll s) := by
  suffices ∀ n s, P s → P (grantSlots n s) from this 8 s h
  intro n
  induction n with
  | zero => exact fun s h => h
  | succ n ih =>
    intro s h
    unfold grantSlots
    split
    · exact ih _ (hg _ _ _ h)
    · exact h

end Sys2Proof.Machine
end

