-- ==== Sys2Proof/Laws/Arbiter.lean ====
section
/-! SUPPORT. What the engine's arbiter can do: the one thing a grant changes, and the law that it restores. -/

namespace Sys2Proof.Machine

/-- The arbiter's cycle holds the 25 requester positions. -/
theorem mem_arbiterCycle (last n : Nat) : n ∈ arbiterCycle last ↔ n < 25 := by
  simp only [arbiterCycle, List.mem_map, List.mem_range]
  constructor
  · rintro ⟨k, _, rfl⟩; omega
  · intro h; exact ⟨(n + 24 - last % 25) % 25, by omega, by omega⟩

/-- A job waits nowhere exactly when the cycle holds no position at which one waits. -/
theorem firstWaiting_eq_none (s : State) : s.firstWaiting = none ↔ ∀ n < 25, s.waitsAt n = false := by
  simp [State.firstWaiting, mem_arbiterCycle]

/-- The first waiting position is one at which a job waits. -/
theorem waitsAt_of_firstWaiting {s : State} {n : Nat} (h : s.firstWaiting = some n) : n < 25 ∧ s.waitsAt n = true :=
  ⟨(mem_arbiterCycle _ _).1 (List.mem_of_find?_eq_some h), List.find?_some h⟩

/-- Everything that a grant can do: nothing, or the free engine takes the first waiting job. -/
theorem grantJob_cases (s : State) :
    grantJob s = s ∧ (s.starting = true ∨ s.arbiter.serving.isSome = true ∨ ∀ n < 25, s.waitsAt n = false) ∨
      ∃ n, s.starting = false ∧ s.arbiter.serving = none ∧ s.firstWaiting = some n ∧
        grantJob s = { s with arbiter := { serving := some n, lastGranted := n } } := by
  unfold grantJob
  split
  · next h => exact .inl ⟨rfl, by simpa [or_assoc] using Or.imp_right Or.inl (by simpa using h)⟩
  · next h =>
    simp only [Bool.or_eq_true, not_or, Bool.not_eq_true, Option.isSome_eq_false_iff, Option.isNone_iff_eq_none] at h
    split
    · next n e => exact .inr ⟨n, h.1, h.2, e, rfl⟩
    · next e => exact .inl ⟨rfl, .inr (.inr ((firstWaiting_eq_none s).1 e))⟩

/-- A grant restores the arbiter's law, once what it serves, if anything, waits at the position last granted. -/
theorem arbiterLaw_grantJob (s : State) (h : s.starting = true → s.arbiter.serving = none)
    (hw : s.starting = false → ∀ n, s.arbiter.serving = some n → s.waitsAt n = true ∧ s.arbiter.lastGranted = n) :
    ArbiterLaw (grantJob s) := by
  rcases grantJob_cases s with ⟨e, hs⟩ | ⟨n, hs, hn, hf, e⟩ <;> rw [e]
  · refine ⟨h, fun hst => ⟨hw hst, fun hv => ?_⟩⟩
    rcases hs with hs | hs | hs
    · simp [hst] at hs
    · simp [hv] at hs
    · exact hs
  · have hst : ({ s with arbiter := { serving := some n, lastGranted := n } } : State).starting = false := hs
    refine ⟨fun hc => by simp [hst] at hc, fun _ => ⟨fun m hm => ?_, fun hc => by simp at hc⟩⟩
    cases hm
    exact ⟨(waitsAt_of_firstWaiting hf).2, rfl⟩

/-- The end of a job restores the arbiter's law, whatever the arbiter held. -/
theorem arbiterLaw_finishJob (s : State) : ArbiterLaw (finishJob s) :=
  arbiterLaw_grantJob _ (fun _ => rfl) (fun _ _ h => by cases h)

end Sys2Proof.Machine
end

