-- ==== Sys2Proof/Laws/Service.lean ====
section
/-! SUPPORT. What the service of a request comes to where nothing stands in its way: the reply, the job's end, the lookup and the reads. -/

namespace Sys2Proof.Machine

/-- A reply to the request in service. -/
theorem reply_of_service (p : PortId) (v : Service) (code : ReplyCode) (fields : List Field) (s : State)
    (h : (s.port p).service = some v) : reply p code fields s = answered p v code fields s := by
  simp [reply, answered, h, Port.queueReply]

/-- A reply where no request is in service. -/
theorem reply_of_none (p : PortId) (code : ReplyCode) (fields : List Field) (s : State) (h : (s.port p).service = none) :
    reply p code fields s = s := by
  simp [reply, h]

theorem not_starting_of_ready (s : State) (h : s.engine.condition = .ready) : s.starting = false := by
  simp [State.starting, State.inWalk, State.inFormat, h]

theorem not_offline_of_ready (s : State) (h : s.engine.condition = .ready) : s.isOffline = false := by
  simp [State.isOffline, h]

/-- A format has been granted exactly where the arbiter serves a port that has a FORMAT_CATALOGUE in service (R16). -/
theorem formatGranted_iff (s : State) :
    s.formatGranted = true ↔ ∃ (p : PortId) (v : Service), s.arbiter.serving = some p.val ∧ Serves s p v .formatCatalogue := by
  unfold State.formatGranted
  constructor
  · intro h
    split at h
    · cases h
    · next n hn =>
      split at h
      · next hp =>
        split at h
        · next v hv => exact ⟨⟨n, hp⟩, v, hn, hv, by simpa using h⟩
        · cases h
      · cases h
  · rintro ⟨p, v, hs, hv, hr⟩
    simp [hs, p.isLt, hv, hr]

/-- A catalogue job that is granted while the catalogue is ready. -/
theorem catalogueJob_of_grants (p : PortId) (job : State → State) (s : State) (h : Grants s p.val) :
    catalogueJob p job s = finishJob (job s) := by
  simp [catalogueJob, not_starting_of_ready s h.1, not_offline_of_ready s h.1, State.isServing, portPosition, h.2]

/-- A read of a clean word. -/
theorem readWord_of_clean (x : Slot) (w : RecordWord) (s : State) (h : (s.record x).condition w = .clean) :
    readWord x w s = (true, s) := by
  simp [readWord, h, WordCondition.clean]

/-- A read of words of an intact record. -/
theorem readWords_of_intact (x : Slot) (l : List RecordWord) (s : State) (h : (s.record x).intact) :
    readWords x l s = (none, s) := by
  induction l with
  | nil => rfl
  | cons w rest ih => simp [readWords, readWord_of_clean x w s (h w), ih]

/-- A word that has been written reads as clean, and every other word reads as before. -/
theorem condition_fresh (r : Record) (w v : RecordWord) :
    (r.fresh w).condition v = if v.index = w.index then .clean else r.condition v := by
  simp [Record.fresh, Record.setCondition, Record.condition, rowGet_rowSet]

/-- A word that has been read has nothing left to correct, and every other word reads as before. -/
theorem condition_corrected (r : Record) (w v : RecordWord) :
    (r.corrected w).condition v = if v.index = w.index then (r.condition v).afterRead else r.condition v := by
  simp only [Record.corrected, Record.setCondition, Record.condition, rowGet_rowSet]
  split
  · next e => rw [e]
  · rfl

/-- A record whose word has nothing to correct is as it was after a read of it. -/
theorem corrected_of_undamaged (r : Record) (w : RecordWord) (h : (r.condition w).damaged = 0) : r.corrected w = r := by
  have : (r.condition w).afterRead = r.condition w := by simp [WordCondition.afterRead, ← h]
  simp only [Record.corrected, Record.setCondition, this]
  rw [Record.condition, rowSet_rowGet]

/-- Everything that a read of a word can do to the records: what of it could be corrected is written back. -/
theorem readWord_cases (x : Slot) (w : RecordWord) (s : State) :
    (readWord x w s).1 = !((s.record x).condition w).lost ∧
      ∀ y, (readWord x w s).2.record y = if y = x then (s.record x).corrected w else s.record y := by
  refine ⟨rfl, fun y => ?_⟩
  simp only [readWord]
  split
  · next h =>
    rw [corrected_of_undamaged _ _ h]
    split
    · next e => rw [e]
    · rfl
  · have : ∀ n t, (noteRepairs n t).record y = t.record y := fun n t => by simp only [State.record, noteRepairs_memory]
    rw [this, record_writeRecord]

/-- A repair of some words leaves lost exactly the words that were lost. -/
theorem condition_repair_lost (r : Record) (l : List RecordWord) (v : RecordWord) :
    ((r.repair l).condition v).lost = (r.condition v).lost := by
  induction l generalizing r with
  | nil => rfl
  | cons w rest ih =>
    show (((r.corrected w).repair rest).condition v).lost = _
    rw [ih, condition_corrected]
    split <;> rfl

/-- Everything that a read of several words can do: it names the first that is lost, and writes back whatever could be corrected. -/
theorem readWords_cases (x : Slot) (l : List RecordWord) (s : State) :
    (readWords x l s).1 = (s.record x).firstLost l ∧
      ∀ y, (readWords x l s).2.record y = if y = x then (s.record x).repair l else s.record y := by
  induction l generalizing s with
  | nil => refine ⟨rfl, fun y => ?_⟩; simp only [readWords, Record.repair, List.foldl]; split <;> simp_all
  | cons w rest ih =>
    obtain ⟨hw, hr⟩ := readWord_cases x w s
    have hl : ((s.record x).corrected w).firstLost rest = (s.record x).firstLost rest := by
      simp only [Record.firstLost]
      congr 1
      exact funext fun v => condition_repair_lost (s.record x) [w] v
    unfold readWords
    cases e : readWord x w s with
    | mk b t =>
      obtain ⟨i1, i2⟩ := ih t
      rw [e] at hw hr
      simp only at hw hr
      rw [hr x, if_pos rfl] at i1 i2
      have step : ∀ y, (readWords x rest t).2.record y = if y = x then (s.record x).repair (w :: rest) else s.record y := fun y => by
        rw [i2, hr]
        split <;> rfl
      subst hw
      rw [hl] at i1
      cases h : ((s.record x).condition w).lost
      · exact ⟨by simpa [h, Record.firstLost] using i1, by simpa [h] using step⟩
      · simp [h, step, Record.firstLost]

/-- A lookup along a chain up to an intact record with the key. -/
theorem lookupChain_of_found (onFault : Slot → State → State) (key : Key) (x : Slot) (behind : List Slot) (s : State)
    (hf : s.isFaulted x = false) (hk : (s.record x).key = key) (hc : (s.record x).condition .key = .clean) :
    ∀ (ahead : List Slot) (saw : Bool),
      (∀ y ∈ ahead, s.isFaulted y = true ∨ ((s.record y).condition .key = .clean ∧ (s.record y).key ≠ key)) →
      lookupChain onFault key (ahead ++ x :: behind) saw s = (.found x, s)
  | [], saw, _ => by simp [lookupChain, hf, readWord_of_clean x .key s hc, hk]
  | y :: ahead, saw, h => by
    have ih := fun b => lookupChain_of_found onFault key x behind s hf hk hc ahead b fun z hz => h z (by simp [hz])
    rcases h y (by simp) with hy | ⟨hy, hne⟩
    · simp [lookupChain, hy, ih]
    · cases hfy : s.isFaulted y
      · simp [lookupChain, hfy, readWord_of_clean y .key s hy, hne, ih]
      · simp [lookupChain, hfy, ih]

/-- A lookup that finds its key. -/
theorem lookup_of_found (onFault : Slot → State → State) (key : Key) (x : Slot) (s : State) (h : FoundAt s key x) :
    lookup onFault key s = (.found x, s) := by
  obtain ⟨hf, hk, hi, ahead, behind, hc, hall⟩ := h
  simp only [lookup, hc]
  exact lookupChain_of_found onFault key x behind s hf hk (hi .key) ahead false hall

/-- A lookup of a key that is not there. -/
theorem lookup_of_not_there (onFault : Slot → State → State) (key : Key) (s : State) (h : NotThere s key) :
    lookup onFault key s = (.notFound, s) := by
  simp only [lookup]
  suffices ∀ l : List Slot, (∀ y ∈ l, s.isFaulted y = false ∧ (s.record y).condition .key = .clean ∧ (s.record y).key ≠ key) →
      lookupChain onFault key l false s = (.notFound, s) from this _ h
  intro l
  induction l with
  | nil => intro _; rfl
  | cons y rest ih =>
    intro hl
    obtain ⟨h1, h2, h3⟩ := hl y (by simp)
    simp [lookupChain, h1, readWord_of_clean y .key s h2, h3, ih fun z hz => hl z (by simp [hz])]

/-- The work on an item that a lookup finds intact. -/
theorem withItem_of_found (p : PortId) (key : Key) (words : List RecordWord) (faulted : State → List Field)
    (work : Slot → State → State) (x : Slot) (s : State) (h : FoundAt s key x) :
    withItem p key words faulted work s = work x s := by
  simp [withItem, lookup_of_found _ key x s h, readWords_of_intact x words s h.2.2.1]

/-- The work on an item whose key is not there. -/
theorem withItem_of_not_there (p : PortId) (key : Key) (words : List RecordWord) (faulted : State → List Field)
    (work : Slot → State → State) (s : State) (h : NotThere s key) :
    withItem p key words faulted work s = reply p .noItem [] s := by
  simp [withItem, lookup_of_not_there _ key s h]

/-! ### Writes to intact records -/

theorem words_of_intact (r : Record) (h : r.intact) : r.words = Vector.replicate 10 .clean := by
  refine row_ext fun i => ?_
  rw [rowGet_replicate]
  have hk := h .key
  have hs := h .state
  have hf := h .format
  have hh := h .holds
  have hr := h .retiring
  have h0 := h (.pass 0)
  have h1 := h (.pass 1)
  have h2 := h (.pass 2)
  have h3 := h (.pass 3)
  have hn := h .rendition
  match i with
  | 0 => exact hk
  | 1 => exact hs
  | 2 => exact hf
  | 3 => exact hh
  | 4 => exact hr
  | 5 => exact h0
  | 6 => exact h1
  | 7 => exact h2
  | 8 => exact h3
  | 9 => exact hn

/-- A fresh word of a record all of whose words are clean changes nothing. -/
theorem fresh_of_clean (r : Record) (w : RecordWord) (h : r.words = Vector.replicate 10 .clean) : r.fresh w = r := by
  have : rowSet r.words w.index .clean = r.words := by
    rw [h]
    exact row_ext fun j => by rw [rowGet_rowSet]; split <;> simp
  simp [Record.fresh, Record.setCondition, this]

theorem writeState_of_intact (r : Record) (st : ItemState) (h : r.intact) : r.writeState st = { r with state := st } :=
  fresh_of_clean _ _ (words_of_intact r h)

/-- Writing a state over a state word that has just been read, and could be read, changes nothing but the state. -/
theorem writeState_of_read (r : Record) (st : ItemState) (h : (r.condition .state).lost = false) :
    (r.corrected .state).writeState st = { r.corrected .state with state := st } := by
  have hc : (r.condition .state).afterRead = .clean := by simp [WordCondition.afterRead, WordCondition.clean, h]
  have : rowSet (rowSet r.words RecordWord.state.index .clean) RecordWord.state.index .clean =
      rowSet r.words RecordWord.state.index .clean := row_ext fun j => by simp only [rowGet_rowSet]; split <;> rfl
  simp [Record.writeState, Record.fresh, Record.corrected, Record.setCondition, hc, this]

theorem freeRetired_of_intact (r : Record) (h : r.intact) : r.freeRetired = { r with state := .free, rendition := [] } := by
  rw [Record.freeRetired, writeState_of_intact r _ h]
  exact fresh_of_clean _ _ (words_of_intact r h)

theorem writePass_of_intact (r : Record) (i : Fin 4) (e : PassEntry) (h : r.intact) :
    r.writePass i e = { r with passes := rowSet r.passes i e } :=
  fresh_of_clean _ _ (words_of_intact r h)

end Sys2Proof.Machine
end

