-- ==== Sys2Proof/WellFormed.lean ====
section
/-! DEFINITION. Well-formed commands: what a command must be for its row of the table to apply to it. A command that is not
well-formed is no such arrival, and its meaning still answers a next state. -/

namespace Sys2Proof

/-- Whether a command is one that its row describes: a unit that is discarded is in bad form (R106, R155), a REQUEST body has a
request header and fits the link (R154, R155), and a BLOCK_DATA carries a block (R106). -/
def Instr.wellFormed : Instr → Bool
  | .messageDiscard _ bytes => Machine.discardsUnit bytes
  | .requestArrival _ body => decide (2 ≤ body.length ∧ body.length ≤ 1040)
  | .blockData _ data => decide (data.length = Config.blockBytes)
  | .storeMessageDiscard bytes => Machine.discardsStoreUnit bytes
  | _ => true

end Sys2Proof
end

