-- ==== Sys2Proof/Tests/Slice0.lean ====
section
/-! SUPPORT. Tests: steps of the manual's worked sequences, and for each statement a state and operands that meet its
hypotheses. The expected results are the manual's own figures. -/

namespace Sys2Proof.Tests

set_option Elab.async false

open Sys2Proof.Machine

/-! ### The bench -/

/-- The key of the manual's running case (sections 1.4.1 and 4.7). -/
def caseKey : Key := { accession := 268489608, part := 1 }

/-- The passes of the running case (section 2.10). -/
def casePass0 : PassEntry := { state := .complete, owner := 7, length := 2650000, extents := [⟨40000, 243⟩] }

def casePass1 : PassEntry := { state := .complete, owner := 9, length := 700000, extents := [⟨70000, 32⟩, ⟨91200, 40⟩] }

/-- The rendition of the running case (section 3.5). -/
def caseRendition : List Segment :=
  [⟨0, 500000, .pass 0 0⟩, ⟨500000, 60000, .pass 1 498800⟩, ⟨560000, 2086000, .pass 0 560000⟩]

/-- The record of the running case. -/
def caseRecord : Record :=
  { key := caseKey, state := .review, rate := 44100, channels := 2, sampleBytes := 3, frameBytes := 6, length := 2646000,
    groups := 2, itemHold := 0, retiringPort := 0, passes := #v[casePass0, casePass1, PassEntry.empty, PassEntry.empty],
    rendition := caseRendition, words := Vector.replicate 10 .clean }

/-- A group of stored words, so many of them with one damaged bit and none lost. -/
def damagedBy (n : Nat) : WordCondition := { damaged := n, lost := false }

/-- A group of stored words with one that is lost, beside so many with one damaged bit. -/
def lostBeside (n : Nat) : WordCondition := { damaged := n, lost := true }

/-- A part that is ready, with a record in slot 3. -/
def bench (r : Record) : State :=
  { State.reset with
    memory := { header := { valid := true, mirror := 0, markerWords := .clean, mirrorWords := .clean }, records := [(3, r)] }
    engine := { Engine.reset with condition := .ready, directory := [(5003, [3])], freeStack := [5, 6] } }

/-- A part whose engine has been granted to a requester position. -/
def granting (position : Nat) (s : State) : State := { s with arbiter := { serving := some position, lastGranted := position } }

/-- A part whose port has a request in service, in a role, and, where the request presents a job to the engine, has been granted. -/
def serving (p : PortId) (role : Role) (r : Request) (s : State) : State :=
  let t := s.setPort p { s.port p with role := role, service := some { kind := r.kindCode, tag := 0x5A, role := role, request := r } }
  { t with arbiter := if r.presentsJob && !s.starting then { serving := some p.val, lastGranted := p.val } else s.arbiter }

/-- The part after a command. -/
def after (i : Instr) (s : State) : State :=
  match exec i s with
  | .next t => t
  | _ => s

/-- The last reply of a port: its code and fields. -/
def replyOf (p : PortId) (s : State) : Option (ReplyCode × List Machine.Field) :=
  (s.port p).replies.getLast?.map fun r => (r.code, r.fields)

/-- The replies of a command that serves a request in a role on a part: the last one. -/
def asked (p : PortId) (role : Role) (r : Request) (s : State) : Option (ReplyCode × List Machine.Field) :=
  replyOf p (after (r.command p) (serving p role r s))

/-- The notices waiting at a port. -/
def noticesAt (p : PortId) (s : State) : List Notice := (s.port p).notices

/-- A part with two slots of the running case's bucket, slot 4 of them flagged (section 1.11, after step 4). -/
def benchFaulted : State :=
  let s := bench caseRecord
  { s with
    memory := { s.memory with records := [(3, caseRecord), (4, { caseRecord with key := { accession := 5002, part := 1 } })] }
    engine := { s.engine with directory := [(5003, [4, 3])], faulted := [4] } }

/-- The two cues of section 5.13. -/
def cue11 : Cue := { tag := 11, key := caseKey, start := 12345, duration := 1000 }

def cue12 : Cue := { tag := 12, key := { accession := 5002, part := 9 }, start := 0, duration := 0 }

/-- Cue 11 as it plays, at a next frame (section 4.7). -/
def current11 (next : Nat) : CurrentCue :=
  { tag := 11, key := caseKey, slot := 3, groups := 2, itemHold := 0, f0 := 544414, f1 := 588514, shortened := false,
    next := next, delivered := next - 544414, gap := 0, concealed := 0, channels := 2, sampleBytes := 3, frameBytes := 6,
    muted := false, concealNoticed := false, crossing := none }

/-- A channel bound to port 9, in a state, with a current cue. -/
def channelIn (st : ChannelState) (current : Option CurrentCue) : Channel :=
  { Channel.reset with state := st, port := some 9, current := current }

/-- The bench with a channel 2, and port 9 in the TRANSFER role. -/
def withChannel (ch : Channel) : State :=
  let s := (bench caseRecord).setChannel 2 ch
  s.setPort 9 { s.port 9 with role := .transfer }

/-- The bench with channel 2 playing cue 11 and engaging slot 3. -/
def engaged (ch : Channel) : State := (withChannel ch).setEngagement 2 (some 3)

/-- A request of a channel's bound port, port 9. -/
def askedOf (ch : Channel) (r : Request) : Option (ReplyCode × List Machine.Field) := asked 9 .transfer r (engaged ch)

/-- Channel 2 after a request of its bound port. -/
def channelAfter (ch : Channel) (r : Request) : Channel :=
  (after (r.command 9) (serving 9 .transfer r (engaged ch))).channel 2

/-! ### Well-formed commands -/

theorem test_wellFormed_messageDiscard : (Instr.messageDiscard 0 (frameMessage 1 [0x11, 0])).wellFormed = false := by decide +kernel

theorem test_wellFormed_requestArrival : (Instr.requestArrival 0 [0x11]).wellFormed = false := by decide +kernel

theorem test_wellFormed_blockData : (Instr.blockData 0 [0]).wellFormed = false := by decide +kernel

theorem test_wellFormed_storeMessageDiscard :
    (Instr.storeMessageDiscard [0x12, 0, 0, 0x12, 0]).wellFormed = false := by decide +kernel

/-! ### Words: no row of the table gives bits -/

theorem test_no_word_spells_a_command : decodeTableWord 8 0 = none := rfl

/-! ### Links (R154, R162, R170) -/

/-- A FIND_ITEM message: kind 0x01, length 8, the body of R171, and the sum of the bytes. -/
theorem test_request_message :
    frameMessage 1 ((Request.findItem caseKey).body 7) =
      [0x01, 0x08, 0x00, 0x11, 0x07, 0x88, 0xD3, 0x00, 0x10, 0x00, 0x01, 0x8D, 0x01] := by decide +kernel

/-- The units of a REQUEST, a CREDIT, a unit of an unknown kind, and a BLOCK_FAIL that spells ABSENT and one that spells no reason. -/
theorem test_arriving_units :
    stationCommand 3 (frameMessage 1 [0x11, 0x02]) = .requestArrival 3 [0x11, 0x02] ∧
      stationCommand 3 (frameMessage 5 [0x02, 0x0A, 0x01]) = .credit 3 2 266 ∧
      stationCommand 3 (frameMessage 9 []) = .messageDiscard 3 (frameMessage 9 []) ∧
      storeCommand [0x12, 0x05, 0x01, 0x18, 0x00] = .blockFail 5 .absent ∧
      storeCommand [0x12, 0x05, 0x02, 0x19, 0x00] = .storeMessageDiscard [0x12, 0x05, 0x02, 0x19, 0x00] := by decide +kernel

theorem test_block_read_message : blockReadMessage 3 91217 = [0x10, 0x03, 0x51, 0x64, 0x01, 0x00, 0xC9, 0x00] := by decide +kernel

/-- 256 frames of two lanes of 3 bytes: pieces of 170 frames, so 170 and 86. -/
theorem test_piece_frames : pieceFrames 2 3 = 170 ∧ pieceFrames 8 4 = 32 ∧ pieceFrames 1 2 = 512 := by decide +kernel

/-! ### Keys, positions, lanes (sections 1.4.1, 4.7, 6.7) -/

theorem test_bucket : caseKey.bucket = 5003 ∧ ({ accession := 5002, part := 1 } : Key).bucket = 5003 ∧
    ({ accession := 268489608, part := 2 } : Key).bucket = 5000 := by decide +kernel

theorem test_cue_end :
    frameAt 12345 44100 = 544414 ∧ cueEnd 12345 1000 44100 2646000 = (588514, false) ∧
      cueEnd 59900 500 44100 2646000 = (2646000, true) ∧ cueEnd 59000 1000 44100 2646000 = (2646000, false) := by decide +kernel

theorem test_store_block :
    storeBlock casePass1.extents 49 = some 91217 ∧ storeBlock casePass1.extents 71 = some 91239 ∧
      storeBlock casePass1.extents 72 = none ∧ firstBlock 543214 6 = 49 ∧ lastBlock 543214 15586 6 = 51 := by decide +kernel

theorem test_samples :
    convertSample 3 2 true (-8388608) = 32767 ∧ convertSample 3 2 true 1000000 = -3907 ∧
      convertSample 2 4 false 12345 = 809041920 ∧ convertSample 2 3 true (-32768) = 8388352 ∧
      convertSample 3 2 false (-1) = -1 ∧ convertSample 4 2 true 2147483647 = -32768 := by decide +kernel

/-- A stereo cue of 2-byte samples over two frames of a pass and two of a gap: the values are little-endian, lane 1 is disabled, and in
STOPPING the gap is not delivered. -/
def shortCue : CurrentCue :=
  { current11 0 with f0 := 0, f1 := 4, delivered := 0, channels := 2, sampleBytes := 2, frameBytes := 4 }

def shortChannel (st : ChannelState) : Channel :=
  { channelIn st (some shortCue) with
    runs := [⟨0, 2, .pass 0 0 casePass0.extents, 1⟩, ⟨2, 4, .gap, 0⟩]
    buffers := #v[.filled ⟨0, 0, 1⟩ [1, 0, 2, 0, 0xFF, 0xFF, 4, 0], .free, .free, .free]
    lanes := { LaneSetting.reset with word := 3, lanes := rowSet LaneSetting.reset.lanes 1 ⟨false, 1, false⟩ } }

theorem test_message :
    nextMessage (shortChannel .running) shortCue = some [.audio, .audio, .gap, .gap] ∧
      nextMessage (shortChannel .stopping) shortCue = some [.audio, .audio] ∧
      (let m := buildMessage (shortChannel .running) shortCue [.audio, .audio, .gap, .gap];
        m.samples = [256, 0, -256, 0, 0, 0, 0, 0] ∧ m.hasGap = true ∧ m.gapFrames = 2 ∧ m.lastOfCue = true) := by decide +kernel

/-! ### Start-up and format -/

theorem test_reset :
    let t := after (.reset 2) (engaged (channelIn .running (some (current11 544414))))
    t.engine.condition = .walkHeader ∧ t.hold.lines = 2 ∧ t.memory = (bench caseRecord).memory ∧ t.channels = State.reset.channels := by
  decide +kernel

/-- A mirror with one damaged bit is corrected and counted; and it is corrected too where the marker is lost and the walk ends. -/
theorem test_header_read :
    let s := fun marker => after (.reset 0) { bench caseRecord with
      memory := { header := { valid := true, mirror := 4, markerWords := marker, mirrorWords := damagedBy 1 }, records := [] } }
    let t := after .walkHeaderRead (s .clean)
    let u := after .walkHeaderRead (s (lostBeside 0))
    t.engine.condition = .walking 0 ∧ t.hold.latches = 4 ∧ t.engine.walk.repaired = 1 ∧ u.engine.condition = .offline ∧
      u.memory.header.mirrorWords = .clean ∧ u.memory.header.markerWords = lostBeside 0 := by decide +kernel

/-- Slot 2 of section 10.8: RETIRING is written FREE and stacked; nothing else of the record is written, its damage included. -/
theorem test_walk_retiring :
    let worn := caseRecord.setCondition .rendition (lostBeside 1)
    let s : State := { State.reset with
      memory := { (bench caseRecord).memory with records := [(2, { worn with state := .retiring })] }
      engine := { Engine.reset with condition := .walking 2, freeStack := [1] } }
    let t := after .walkSlot s
    t.engine.freeStack = [2, 1] ∧ t.engine.walk.retirements = 1 ∧
      t.memory.records = [(2, { worn with state := .free })] ∧ t.engine.condition = .walking 3 := by
  decide +kernel

/-- Slots 3 and 5 of section 10.8: a corrected word, and a duplicate of a linked key. -/
theorem test_walk_links :
    let damaged := caseRecord.setCondition .format (damagedBy 1)
    let s : State := { State.reset with
      memory := { (bench caseRecord).memory with records := [(3, damaged), (5, caseRecord)] }
      engine := { Engine.reset with condition := .walking 3 } }
    let t := after .walkSlot s
    let u := after .walkSlot { t with engine := { t.engine with condition := .walking 5 } }
    t.engine.directory = [(5003, [3])] ∧ t.engine.walk.linked = 1 ∧ t.engine.walk.repaired = 1 ∧
      u.engine.faulted = [5] ∧ u.engine.walk.duplicates = 1 ∧ u.engine.walk.faultedUnlinked = 1 := by decide +kernel

/-- The end of section 10.8's walk: slot 1 on top, and no mirror write. -/
theorem test_walk_end :
    let s : State := { State.reset with
      memory := { (bench caseRecord).memory with header := { valid := true, mirror := 4, markerWords := .clean, mirrorWords := .clean } }
      engine := { Engine.reset with condition := .walking 65536, freeStack := [7, 6, 2, 1] }
      hold := { latches := 4, lines := 0, mirrorWaiting := false } }
    let t := after .walkEnd s
    t.engine.freeStack = [1, 2, 6, 7] ∧ t.engine.condition = .ready ∧ t.hold.mirrorWaiting = false ∧
      t.attention.flags = 0x80 ∧ t.attention.attention = true ∧
      noticesAt 0 t = [.walkDone .walk false 4 WalkCounts.zero 4] := by decide +kernel

theorem test_format_engaged :
    asked 0 .control .formatCatalogue (engaged (channelIn .running (some (current11 544414)))) =
      some (.itemInUse, [.u8 1]) := by decide +kernel

/-- FORMAT_CATALOGUE dispatched in the OFFLINE catalogue is granted at once, and a lookup dispatched before the format begins is answered
STARTING (R14, R16). -/
theorem test_format_grant_answers_starting :
    let hand := fun (p : PortId) (r : Request) (s : State) =>
      s.setPort p { s.port p with role := .control, intake := [r.body 5] }
    let s := hand 3 (.findItem caseKey) (hand 0 .formatCatalogue (bench caseRecord))
    let t := after (.requestDispatch 0) { s with engine := { s.engine with condition := .offline } }
    t.formatGranted = true ∧ t.engine.condition = .offline ∧ replyOf 3 (after (.requestDispatch 3) t) = some (.starting, []) := by
  decide +kernel

/-- The format begins; its own command, sent again while it runs, changes nothing. -/
theorem test_format_begins :
    let t := after (.formatCatalogue 0) (serving 0 .control .formatCatalogue (bench caseRecord))
    t.engine.condition = .formatting 0 ∧ t.memory.records = [] ∧ t.memory.header.valid = false ∧
      (after (.formatCatalogue 0) t).port 0 = t.port 0 := by decide +kernel

theorem test_format_completes :
    let t := after (.formatCatalogue 0) (serving 0 .control .formatCatalogue (bench caseRecord))
    (after .formatComplete t).engine.condition = .ready ∧ (after .formatComplete t).engine.directory = [] ∧
      (after .formatComplete t).memory.header.valid = true := by decide +kernel

/-! ### Items, passes and renditions (sections 1.11, 2.10, 3.5) -/

theorem test_enterItem :
    let r := Request.enterItem { accession := 268489608, part := 2 } 44100 2 2 100000
    let t := after (.enterItem 4) (serving 4 .catalogue r benchFaulted)
    replyOf 4 t = some (.ok, [.u16 5]) ∧ t.engine.directory = [(5000, [5]), (5003, [4, 3])] ∧ t.engine.freeStack = [6] ∧
      (t.record 5).frameBytes = 4 ∧ (t.record 5).rendition = [⟨0, 100000, .gap⟩] := by decide +kernel

theorem test_enterItem_faulted :
    asked 4 .catalogue (.enterItem { accession := 5002, part := 1 } 48000 1 2 480000) benchFaulted = some (.faulted, []) := by
  decide +kernel

theorem test_findItem :
    asked 4 .catalogue (.findItem caseKey) benchFaulted =
      some (.ok, [.u16 3, .u8 1, .u8 0, .u8 0, .u8 0, .u32 1]) := by decide +kernel

theorem test_findItem_faulted :
    asked 4 .catalogue (.findItem { accession := 5002, part := 1 }) benchFaulted =
      some (.faulted, [.u32 1, .u8 1, .u16 4]) := by decide +kernel

/-- Step 4 of section 1.11: the key of slot 4 is uncorrectable, and the lookup goes on to slot 3. -/
theorem test_describeItem_flags :
    let s : State := { benchFaulted with
      engine := { benchFaulted.engine with faulted := [] }
      memory := { benchFaulted.memory with records := [(3, caseRecord), (4, caseRecord.setCondition .key (lostBeside 0))] } }
    let t := after (.describeItem 4) (serving 4 .catalogue (.describeItem { accession := 5002, part := 1 }) s)
    replyOf 4 t = some (.faulted, [.u32 1, .u8 1, .u16 4]) ∧ t.engine.faulted = [4] ∧
      noticesAt 0 t = [.recordFault 4 (.port 4) .key] ∧ t.attention.flags = 1 := by decide +kernel

/-- A read goes past a lost word: the damaged words behind it, and those beside it in its own group, are corrected, with one event (R144,
R148). -/
theorem test_read_past_a_lost_word :
    let damaged := (caseRecord.setCondition .format (lostBeside 2)).setCondition .holds (damagedBy 1)
    let u := readWords 3 [.key, .format, .holds] (bench damaged)
    u.1 = some .format ∧ u.2.record 3 = caseRecord.setCondition .format (lostBeside 0) ∧ u.2.attention.flags = 2 := by decide +kernel

/-- A start resolution that finds the holds lost still reads the pass entry of its first run, pass 1 (log 8). -/
theorem test_read_start_past_a_lost_word :
    let damaged := (caseRecord.setCondition .holds (lostBeside 0)).setCondition (.pass 1) (damagedBy 1)
    let u := readStart 3 12345 (bench damaged)
    u.1 = some .holds ∧ u.2.record 3 = caseRecord.setCondition .holds (lostBeside 0) := by decide +kernel

theorem test_releaseItem :
    asked 4 .catalogue (.releaseItem caseKey) (bench { caseRecord with rendition := [⟨0, 2646000, .gap⟩] }) =
        some (.wrongState, [.u8 1]) ∧
      asked 4 .catalogue (.releaseItem caseKey) (bench caseRecord) = some (.ok, [.u8 3, .u32 0]) := by decide +kernel

theorem test_reopenItem :
    let r := Request.reopenItem caseKey
    ((after (.reopenItem 4) (serving 4 .catalogue r (bench { caseRecord with state := .released }))).record 3).state = .review := by
  decide +kernel

/-- Step 5 of section 3.5. -/
theorem test_splice :
    let s := bench { caseRecord with rendition := [⟨0, 2646000, .pass 0 0⟩] }
    let t := after (.splice 4) (serving 4 .catalogue (.splice caseKey 500000 560000 1 1 498800) s)
    replyOf 4 t = some (.ok, [.u8 1, .u8 3, .u8 1]) ∧ t.record 3 = caseRecord := by decide +kernel

/-- Steps 3, 6 and 7 of section 3.5. -/
theorem test_splice_more :
    let t := after (.splice 4) (serving 4 .catalogue (.splice caseKey 530000 540000 0 0 0) (bench caseRecord))
    asked 4 .catalogue (.splice caseKey 500000 560000 1 1 650000) (bench caseRecord) = some (.outOfRange, []) ∧
      (t.record 3).rendition =
        [⟨0, 500000, .pass 0 0⟩, ⟨500000, 30000, .pass 1 498800⟩, ⟨530000, 10000, .gap⟩, ⟨540000, 20000, .pass 1 538800⟩,
          ⟨560000, 2086000, .pass 0 560000⟩] ∧
      asked 4 .catalogue (.splice caseKey 500000 560000 1 0 500000) t = some (.ok, [.u8 5, .u8 1, .u8 0]) := by decide +kernel

/-- Step 11 of section 2.10. -/
theorem test_openPass :
    let t := after (.openPass 9) (serving 9 .transfer (.openPass caseKey) (bench caseRecord))
    replyOf 9 t = some (.ok, [.u8 2]) ∧ (t.record 3).pass 2 = { state := .opened, owner := 9, length := 0, extents := [] } := by
  decide +kernel

/-- The running case while port 9 writes pass 1 (section 2.10, after step 5). -/
def caseOpen : Record := caseRecord.writePass 1 { state := .opened, owner := 9, length := 0, extents := [⟨70000, 32⟩] }

/-- Steps 7 and 9 of section 2.10. -/
theorem test_addExtent :
    asked 9 .transfer (.addExtent caseKey 1 70020 10) (bench caseOpen) = some (.overlap, []) ∧
      asked 7 .transfer (.addExtent caseKey 1 91200 40) (bench caseOpen) = some (.notOwner, []) ∧
      asked 9 .transfer (.addExtent caseKey 1 91200 40) (bench caseOpen) = some (.ok, [.u8 1, .u8 2, .u32 72]) := by decide +kernel

/-- The last blocks of the store, and one beyond them. -/
theorem test_addExtent_edge :
    asked 9 .transfer (.addExtent caseKey 1 4294967295 1) (bench caseOpen) = some (.ok, [.u8 1, .u8 2, .u32 33]) ∧
      asked 9 .transfer (.addExtent caseKey 1 4294967295 2) (bench caseOpen) = some (.badField, []) := by decide +kernel

/-- Steps 8 and 10 of section 2.10. -/
theorem test_closePass :
    let full := caseOpen.writePass 1 { state := .opened, owner := 9, length := 0, extents := casePass1.extents }
    asked 9 .transfer (.closePass caseKey 1 700000) (bench caseOpen) = some (.shortPass, []) ∧
      asked 9 .transfer (.closePass caseKey 1 700000) (bench full) = some (.ok, [.u8 1, .u32 700000, .u32 72, .u32 65]) := by
  decide +kernel

/-- Steps 13 and 14 of section 2.10, and a pass that the rendition names. -/
theorem test_withdrawPass :
    let third := caseRecord.writePass 2 { state := .opened, owner := 9, length := 0, extents := [⟨120000, 10⟩] }
    asked 4 .catalogue (.withdrawPass caseKey 2) (bench third) =
        some (.ok, [.u8 2, .u8 1, .u32 10, .u8 1, .u32 120000, .u16 10]) ∧
      asked 4 .catalogue (.withdrawPass caseKey 2) (bench caseRecord) = some (.wrongState, []) ∧
      asked 4 .catalogue (.withdrawPass caseKey 1) (bench caseRecord) = some (.passInUse, []) := by decide +kernel

/-! ### Holds, pins and retirement (sections 8.8, 9.4.1, 9.9) -/

theorem test_holdItem :
    asked 4 .catalogue (.holdItem caseKey) (bench caseRecord) = some (.ok, [.u8 1, .u8 1]) ∧
      asked 4 .catalogue (.liftItem caseKey) (bench caseRecord) = some (.notHeld, []) := by decide +kernel

theorem test_liftItem :
    let s := bench { caseRecord with itemHold := 1 }
    asked 4 .catalogue (.liftItem caseKey) { s with hold := { s.hold with latches := 2 } } = some (.ok, [.u8 1]) := by decide +kernel

theorem test_setGroups :
    asked 4 .catalogue (.setGroups caseKey 15) (bench caseRecord) = some (.ok, [.u8 2, .u8 15, .u8 0]) ∧
      asked 4 .catalogue (.setGroups caseKey 16) (bench caseRecord) = some (.badField, []) := by decide +kernel

/-- Line HOLD1 rises over channel 2 under MUTE: the message is discarded and the rest is silence. -/
theorem test_line_rise_mute :
    let m : Message := { tag := 11, first := 546974, count := 256, lanes := 2, word := 3, lastOfCue := false, hasGap := false,
                         hasConcealment := false, hasCutoff := false, gapFrames := 0, concealedFrames := 0, samples := [] }
    let t := after (.holdLineRise 1)
      (engaged { channelIn .running (some (current11 546974)) with cutoff := .mute, message := some m })
    t.hold.latches = 2 ∧ noticesAt 0 t = [.holdChanged 1 true .line none] ∧ (t.channel 2).state = .running ∧
      (t.channel 2).current = some { current11 546974 with muted := true } ∧
      (t.channel 2).message.map (fun x => (x.first, x.count, x.hasCutoff)) = some (546974, 256, true) := by decide +kernel

/-- The same edge under STOP: CUE_ENDED, CHANNEL_CUT, and the queue is kept. -/
theorem test_line_rise_stop :
    let t := after (.holdLineRise 1) (engaged { channelIn .running (some (current11 546974)) with queue := [cue12] })
    (t.channel 2).state = .cut ∧ (t.channel 2).queue = [cue12] ∧ (t.channel 2).job = some .disengage ∧
      noticesAt 9 t = [.cueEnded 11 .cut 2560 0 0, .channelCut 11 2 0 false 2] := by decide +kernel

theorem test_line_fall :
    let s : State := { bench caseRecord with hold := { latches := 2, lines := 2, mirrorWaiting := false } }
    let t := after (.holdLineFall 1) s
    t.hold = { latches := 2, lines := 0, mirrorWaiting := false } ∧ t.attention.flags = 0x40 := by decide +kernel

theorem test_holdGroup :
    asked 0 .control (.holdGroup 3) (bench caseRecord) = some (.ok, [.u8 1]) ∧
      asked 0 .control (.holdGroup 4) (bench caseRecord) = some (.badField, []) := by decide +kernel

theorem test_liftGroup :
    let s : State := { bench caseRecord with hold := { latches := 2, lines := 2, mirrorWaiting := false } }
    asked 0 .control (.liftGroup 1) s = some (.lineAsserted, []) ∧
      asked 0 .control (.liftGroup 1) (after (.holdLineFall 1) s) = some (.ok, []) ∧
      asked 0 .control (.liftGroup 0) s = some (.notHeld, []) := by decide +kernel

theorem test_mirrorWrite :
    let s : State := granting 24 { bench caseRecord with hold := { latches := 6, lines := 0, mirrorWaiting := true } }
    (after .mirrorWrite s).memory.header.mirror = 6 ∧
      (after .mirrorWrite { s with engine := { s.engine with condition := .offline } }).memory = s.memory := by decide +kernel

/-- The running case released, with a pin of port 10 (section 9.9). -/
def pinned (seconds prescaler : Nat) : State :=
  { bench { caseRecord with state := .released } with
    pinTable := { pins := [{ port := 10, slot := 3, remaining := seconds }], prescaler := prescaler } }

theorem test_pinItem :
    asked 10 .production (.pinItem caseKey 3600) (bench { caseRecord with state := .released }) =
        some (.ok, [.u16 3, .u32 3600, .u8 1, .u8 1]) ∧
      asked 10 .production (.pinItem caseKey 60) (bench { caseRecord with state := .retiring }) =
        some (.wrongState, [.u8 3]) := by decide +kernel

theorem test_unpinItem :
    asked 10 .production (.unpinItem 3 10) (pinned 3600 0) = some (.ok, [.u32 3600, .u8 0]) ∧
      asked 10 .production (.unpinItem 3 11) (pinned 3600 0) = some (.role, []) := by decide +kernel

theorem test_retireItem :
    asked 4 .catalogue (.retireItem caseKey) (pinned 3600 0) = some (.pinned, [.u8 1]) ∧
      asked 4 .catalogue (.retireItem caseKey) (bench { caseRecord with state := .released }) =
        some (.ok, [.u16 3, .u8 2, .u8 3, .u32 315]) := by decide +kernel

/-- Step 5 of section 9.9. -/
theorem test_retireItem_deferred :
    let s := engaged (channelIn .running (some (current11 544414)))
    let t := after (.retireItem 4) (serving 4 .catalogue (.retireItem caseKey) s)
    replyOf 4 t = some (.deferred, [.u16 3, .u8 1]) ∧ (t.record 3).state = .retiring ∧ (t.record 3).retiringPort = 4 := by decide +kernel

/-- Step 8 of section 9.9. -/
theorem test_disengage :
    let s := granting 18 ((engaged { Channel.reset with job := some .disengage }).writeRecord 3
      { caseRecord with state := .retiring, retiringPort := 4 })
    let t := after (.disengage 2) s
    noticesAt 4 t = [.retired caseKey 3 2 3 315] ∧ t.engine.directory = [] ∧ t.engine.freeStack = [3, 5, 6] ∧
      (t.record 3).state = .free ∧ (t.record 3).passes = caseRecord.passes := by decide +kernel

/-- The boundary at 2,600 ms of section 9.4.1. -/
theorem test_tick_lapses :
    let t := after .millisecondTick (pinned 1 999)
    t.pinTable = { pins := [], prescaler := 0 } ∧ noticesAt 10 t = [.pinLapsed 3 .expired] := by decide +kernel

theorem test_pinCountdown :
    (after .pinCountdown (pinned 600 999)).pinTable =
        { pins := [{ port := 10, slot := 3, remaining := 599 }], prescaler := 0 } ∧
      (after .pinCountdown (pinned 600 998)).pinTable = (pinned 600 998).pinTable := by decide +kernel

theorem test_restoreItem :
    let r := Request.restoreItem 3 caseRecord.image
    asked 0 .control r (bench caseRecord) = some (.notFaulted, []) := by decide +kernel

theorem test_restoreItem_linked :
    let s := bench caseRecord
    let damaged : State := { s with engine := { s.engine with faulted := [3] } }
    let t := after (.restoreItem 0) (serving 0 .control (.restoreItem 3 caseRecord.image) damaged)
    replyOf 0 t = some (.ok, [.u16 3, .u16 5003, .u8 1]) ∧ t.engine.faulted = [] ∧ t.record 3 = caseRecord ∧
      t.engine.directory = [(5003, [3])] := by decide +kernel

theorem test_discardItem :
    let s : State := { pinned 600 0 with engine := { (pinned 600 0).engine with faulted := [3] } }
    let t := after (.discardItem 0) (serving 0 .control (.discardItem 3) s)
    replyOf 0 t = some (.ok, [.u16 3, .u8 1, .u8 1]) ∧ t.engine.freeStack = [3, 5, 6] ∧ t.engine.directory = [] ∧
      t.memory.records = [] ∧ noticesAt 10 t = [.pinLapsed 3 .discarded] := by decide +kernel

/-! ### Channels (sections 4.7, 5.13, 6.8) -/

/-- Channel 2 with cues 11 and 12 queued and cue 11's start resolution at the engine. -/
def starting : State :=
  granting 18 (withChannel { channelIn .running none with queue := [cue11, cue12], job := some (.start cue11 .transfer false false) })

theorem test_startResolution :
    let t := after (.startResolution 2) starting
    (t.channel 2).current = some (current11 544414) ∧
      (t.channel 2).runs.map (fun r => (r.start, r.stop, r.source)) = [(544414, 560000, .pass 1 543214 casePass1.extents)] ∧
      t.store.requests.map BlockRequest.block = [91217, 91218, 91219] ∧
      (t.channel 2).job = some (.segment 560000 588514 false) ∧ t.engagedSlot 2 = some 3 := by decide +kernel

theorem test_startResolution_noItem :
    let s := granting 18
      (withChannel { channelIn .running none with queue := [cue12], job := some (.start cue12 .transfer false false) })
    let t := after (.startResolution 2) s
    noticesAt 9 t = [.cueSkipped 12 cue12.key .noItem] ∧ (t.channel 2).state = .idle ∧ (t.channel 2).queue = [] := by decide +kernel

theorem test_segmentResolution :
    let t := after (.segmentResolution 2) (after (.startResolution 2) starting)
    ((t.channel 2).runs.getLast?.map fun r => (r.start, r.stop, r.source)) =
        some (560000, 588514, .pass 0 560000 casePass0.extents) ∧
      t.store.requests.map BlockRequest.block = [91217, 91218, 91219, 40051] := by decide +kernel

theorem test_bindChannel :
    let t := after (.bindChannel 0) (serving 0 .control (.bindChannel 2 5) (engaged (channelIn .stopped (some (current11 547333)))))
    replyOf 0 t = some (.ok, [.u8 0, .u8 1]) ∧ (t.channel 2).port = some 5 ∧ (t.channel 2).state = .idle ∧
      noticesAt 9 t = [.cueEnded 11 .flushed 2919 0 0] ∧ (t.channel 2).job = some .disengage := by decide +kernel

theorem test_queueCue :
    askedOf { channelIn .stopped none with queue := List.replicate 16 cue12 } (.queueCue 2 cue11) = some (.queueFull, []) ∧
      (channelAfter (channelIn .idle none) (.queueCue 2 cue11)).job = some (.start cue11 .transfer false false) := by decide +kernel

/-- A stop between cues, with nothing in flight. -/
theorem test_stopChannel :
    let t := after (.stopChannel 9) (serving 9 .transfer (.stopChannel 2)
      (engaged { channelIn .running none with queue := [cue12], job := some .disengage }))
    (t.channel 2).state = .stopped ∧ noticesAt 9 t = [.channelStopped none] ∧
      askedOf (channelIn .idle none) (.stopChannel 2) = some (.wrongState, [.u8 1]) := by decide +kernel

/-- A stop with a remainder: nothing is on hand, nothing is in flight. -/
theorem test_stopChannel_remainder :
    let t := after (.stopChannel 9) (serving 9 .transfer (.stopChannel 2) (engaged (channelIn .running (some (current11 547333)))))
    (t.channel 2).state = .stopped ∧ noticesAt 9 t = [.channelStopped (some (11, 547333))] ∧ t.engagedSlot 2 = some 3 := by
  decide +kernel

/-- A channel whose delivery run [0, 2) and read-ahead run [2, 4) are both on hand, of a cue of 600 frames. -/
def readAhead (st : ChannelState) : Channel :=
  { shortChannel st with
    current := some { shortCue with f1 := 600 }
    runs := [⟨0, 2, .pass 0 0 casePass0.extents, 1⟩, ⟨2, 4, .pass 0 2 casePass0.extents, 1⟩]
    buffers := #v[.filled ⟨0, 0, 1⟩ [1, 0], .filled ⟨2, 0, 3⟩ [1, 0], .free, .free] }

/-- The STOP discards the read-ahead run: the delivery run's two frames are sent, and the remainder is its end (R88). -/
theorem test_stopChannel_read_ahead :
    let s := serving 9 .transfer (.stopChannel 2) (engaged (readAhead .running))
    let t := after (.stopChannel 9) (s.setPort 9 ((s.port 9).withCredit 2 1))
    let u := after (.outgoingArbitration 9) (after (.outgoingArbitration 9) t)
    (t.channel 2).message.map (fun m => (m.first, m.count)) = some (0, 2) ∧ (u.channel 2).state = .stopped ∧
      noticesAt 9 u = [.channelStopped (some (11, 2))] ∧ (u.channel 2).runs = [] := by decide +kernel

theorem test_haltChannel :
    (channelAfter (channelIn .running (some (current11 547333))) (.haltChannel 2)).state = .halting ∧
      (channelAfter { channelIn .running none with job := some .disengage } (.haltChannel 2)).state = .halted := by decide +kernel

theorem test_resumeChannel :
    let ch := channelAfter (channelIn .stopped (some (current11 547333))) (.resumeChannel 2)
    ch.state = .running ∧ ch.job = some (.segment 547333 588514 false) ∧
      (channelAfter (channelIn .halted none) (.resumeChannel 2)).state = .idle := by decide +kernel

theorem test_clearCut :
    (channelAfter { channelIn .cut none with queue := [cue12] } (.clearCut 2)) = { channelIn .stopped none with queue := [cue12] } ∧
      askedOf (channelIn .stopped none) (.clearCut 2) = some (.notCut, []) := by decide +kernel

theorem test_flushChannel :
    askedOf { channelIn .stopped (some (current11 547333)) with queue := [cue12] } (.flushChannel 2) = some (.ok, [.u8 1, .u8 1]) ∧
      askedOf (channelIn .running (some (current11 547333))) (.flushChannel 2) = some (.wrongState, [.u8 2]) := by decide +kernel

/-- An assembled message of cue 11 (section 6.8). -/
def ninth : Message :=
  { tag := 11, first := 546462, count := 256, lanes := 2, word := 3, lastOfCue := false, hasGap := false, hasConcealment := false,
    hasCutoff := false, gapFrames := 0, concealedFrames := 0, samples := List.replicate 512 0 }

theorem test_setLanes :
    let waiting := { channelIn .running (some (current11 546462)) with message := some ninth }
    let ch := channelAfter waiting (.setLanes 2 1 2 [1, 0, 0])
    ch.lanes = LaneSetting.reset ∧ ch.pendingLanes.map (fun l => (l.count, l.word)) = some (1, 2) ∧
      askedOf waiting (.setLanes 2 1 2 [1, 8, 0]) = some (.badField, [.u8 0]) ∧
      askedOf waiting (.setLanes 2 1 2 [1, 0]) = some (.badRequest, []) := by decide +kernel

theorem test_setCutoff :
    (channelAfter (channelIn .idle none) (.setCutoff 2 2)).cutoff = .skip ∧
      askedOf (channelIn .idle none) (.setCutoff 2 3) = some (.badField, []) ∧
      askedOf (channelIn .idle none) (.setCutoff 2 4) = some (.badField, []) := by decide +kernel

theorem test_channelStatus :
    askedOf (channelIn .stopped (some (current11 547333))) (.channelStatus 2) =
      some (.ok, [.u8 5, .u8 1, .u8 9, .u8 0, .u8 0, .u8 1, .u16 11, .u32 544414, .u32 588514, .u8 0, .u32 547333, .u32 2919]) := by
  decide +kernel

/-! ### Bulk store reads (sections 7.10, 7.11) -/

/-- Channel 2 reading pass block 49 into buffer 0: store block 91,217, at an attempt, in slot 0. -/
def reading (failed remaining : Nat) : State :=
  let s := engaged { channelIn .running (some (current11 544414)) with
    runs := [{ start := 544414, stop := 560000, source := .pass 1 543214 casePass1.extents, issued := 3 }]
    buffers := #v[.inFlight { runStart := 544414, passBlock := 49, lastFrame := 547333 }, .free, .free, .free] }
  s.setStore { s.store with
    slots := rowSet s.store.slots 0 (.active 2 0 91217 (failed + 1) remaining)
    requests := [{ channel := 2, buffer := 0, block := 91217, runStart := 544414, passBlock := 49, failed := failed,
                   lastFailure := none, abandoned := false, active := true }] }

/-- 500 ms: the slot goes stale and the retry takes the lowest free slot. -/
theorem test_readTimeout :
    let t := after (.readTimeout 0) (reading 0 0)
    t.readSlot 0 = .stale 91217 ∧ t.readSlot 1 = .active 2 0 91217 2 500 ∧ after (.readTimeout 0) (reading 0 1) = reading 0 1 := by
  decide +kernel

/-- 710 ms: the third attempt fails, and the block is concealed. -/
theorem test_blockFail :
    let t := after (.blockFail 0 .absent) (reading 2 100)
    noticesAt 9 t = [.concealed 2 11 91217 .absent] ∧ t.readSlot 0 = .free ∧ t.store.requests = [] := by decide +kernel

/-- A BLOCK_DATA of the wrong length is discarded. -/
theorem test_blockData_short : after (.blockData 0 [1, 2, 3]) (reading 0 100) = reading 0 100 := by decide +kernel

theorem test_storeMessageDiscard : after (.storeMessageDiscard [0x12, 9, 9]) (reading 0 100) = reading 0 100 := by decide +kernel

theorem test_storeReset :
    let s := (bench caseRecord).setStore { StoreReader.reset with slots := Vector.replicate 8 (.stale 7) }
    let stalled : State := { s with attention := { s.attention with stalled := true } }
    let t := after (.storeReset 0) (serving 0 .control .storeReset stalled)
    replyOf 0 t = some (.ok, [.u8 0, .u8 8, .u8 0]) ∧ t.attention.stalled = false ∧ t.readSlot 7 = .free := by decide +kernel

theorem test_collectionTimeout :
    let t := after (.collectionTimeout 2) (engaged { channelIn .running (some (current11 546462)) with message := some ninth, wait := some 0 })
    noticesAt 9 t = [.collectionTimeout 11 546462] ∧ (t.channel 2).state = .stopped ∧ (t.channel 2).message = none := by decide +kernel

/-! ### Ports (section 11.8) -/

theorem test_messageDiscard :
    let t := after (.messageDiscard 3 (frameMessage 9 [])) (bench caseRecord)
    (t.port 3).linkFault = true ∧ t.attention.flags = 0x10 := by decide +kernel

theorem test_requestArrival :
    let full := List.replicate 4 ([0x11, 2] : List Byte)
    let s := (bench caseRecord).setPort 5 { (bench caseRecord).port 5 with intake := full }
    let t := after (.requestArrival 5 [0x53, 6]) s
    (t.port 5).intake = full ∧ (t.port 5).replies = [{ kind := 0x53, tag := 6, code := .busy, fields := [] }] := by decide +kernel

/-- Tag 5 of section 11.8: OPEN_PASS is not admitted for PRODUCTION; and a lookup that meets the OFFLINE catalogue is answered at once. -/
theorem test_requestDispatch :
    let s := fun r : Request =>
      (bench caseRecord).setPort 5 { (bench caseRecord).port 5 with role := .production, intake := [r.body 5] }
    let find := s (.findItem caseKey)
    replyOf 5 (after (.requestDispatch 5) (s (.openPass caseKey))) = some (.role, []) ∧
      replyOf 5 (after (.requestDispatch 5) { find with engine := { find.engine with condition := .offline } }) =
        some (.offline, []) := by decide +kernel

/-- A job that reaches a free engine is granted at once, and is not overtaken by one dispatched later (R14). -/
theorem test_grant_order :
    let hand := fun (p : PortId) (s : State) =>
      s.setPort p { s.port p with role := .catalogue, intake := [(Request.findItem caseKey).body 5] }
    let t := after (.requestDispatch 1) (after (.requestDispatch 3) (hand 1 (hand 3 (bench caseRecord))))
    t.arbiter.serving = some 3 ∧ (replyOf 1 (after (.findItem 1) t)) = none ∧
      (replyOf 3 (after (.findItem 3) t)).isSome = true ∧ (after (.findItem 3) t).arbiter.serving = some 1 := by decide +kernel

theorem test_credit :
    let s := engaged (channelIn .running none)
    let t := after (.credit 9 2 10) (s.setPort 9 ((s.port 9).withCredit 2 65530))
    (t.port 9).creditFor 2 = 65535 ∧ after (.credit 8 2 10) s = s := by decide +kernel

/-- The ninth message goes out in two pieces of 170 and 86 frames, and the next frame is 546,718. -/
theorem test_outgoing :
    let s := engaged { channelIn .running (some (current11 546462)) with message := some ninth, wait := some 3 }
    let t := after (.outgoingArbitration 9) (s.setPort 9 ((s.port 9).withCredit 2 4))
    (t.port 9).sent.map List.length = [1041] ∧ (t.port 9).sending.map List.length = [537] ∧ (t.port 9).creditFor 2 = 3 ∧
      (t.channel 2).current.map (fun c => (c.next, c.delivered)) = some (546718, 2304) := by decide +kernel

theorem test_audioPiece :
    let s := (bench caseRecord).setPort 9 { (bench caseRecord).port 9 with sending := [[1], [2]], sent := [[0]] }
    (after (.audioPiece 9) s).port 9 = { s.port 9 with sending := [[2]], sent := [[0], [1]] } := by decide +kernel

theorem test_assignRole :
    let s := engaged (channelIn .stopped (some (current11 547333)))
    asked 0 .control (.assignRole 9 1) s = some (.ok, [.u8 2, .u8 1, .u8 1, .u8 0]) ∧
      asked 0 .control (.assignRole 9 1) (s.setChannel 2 (channelIn .running none)) = some (.portBusy, [.u8 1, .u8 2]) := by decide +kernel

theorem test_setTiming :
    asked 0 .control (.setTiming 255 1 7) (bench caseRecord) = some (.ok, [.u8 255, .u8 1, .u8 7]) ∧
      asked 0 .control (.setTiming 20 0 8) (bench caseRecord) = some (.badField, [.u8 1]) ∧
      asked 0 .control (.setTiming 20 50 8) (bench caseRecord) = some (.badField, [.u8 2]) := by decide +kernel

/-! ### Attention (section 12.7) -/

/-- A part with an attention unit. -/
def attending (a : Attention) : State := { bench caseRecord with attention := a }

/-- The acknowledgement of a level cause while its condition holds. -/
theorem test_ackAttention :
    asked 0 .control (.ackAttention 0x84) (attending { Attention.reset with flags := 0x84, attention := true, stalled := true }) =
      some (.ok, [.u8 0x04]) := by decide +kernel

theorem test_setAttentionMask :
    let t := after (.setAttentionMask 0) (serving 0 .control (.setAttentionMask 2) (attending { Attention.reset with flags := 2 }))
    replyOf 0 t = some (.ok, [.u8 0xFD, .u8 2]) ∧ t.attention.attention = true := by decide +kernel

theorem test_attentionSummary :
    (asked 0 .control .attentionSummary (bench caseRecord)).map (fun x => x.2.take 4) =
      some [.u8 0, .u8 0xFD, .u8 0, .u8 0] := by decide +kernel

theorem test_rearmAlarm :
    let t := after (.rearmAlarm 0) (serving 0 .control .rearmAlarm (attending { Attention.reset with alarm := true }))
    replyOf 0 t = some (.ok, [.u8 1]) ∧ t.attention.suppress = false ∧ t.attention.alarm = false := by decide +kernel

theorem test_readFaultRecord :
    asked 0 .control .readFaultRecord (attending { Attention.reset with record := some ⟨9, .storeStalled 91217⟩ }) =
      some (.ok, [.u8 1, .u8 2, .u32 9, .u8 0, .u8 1, .u32 91217, .u8 0]) := by decide +kernel

theorem test_clearFaultRecord :
    let t := after (.clearFaultRecord 0)
      (serving 0 .control .clearFaultRecord (attending { Attention.reset with record := some ⟨9, .catalogueOffline⟩, further := 1 }))
    replyOf 0 t = some (.ok, [.u8 1]) ∧ t.attention.record = none ∧ t.attention.further = 0 := by decide +kernel

/-! ### The hypotheses of the statements can be met

One theorem for each statement that has hypotheses, under the statement's name: states and operands that meet them, clause by
clause, at the ends of the clauses' ranges. -/

/-- What `serving` puts in service. -/
def serviceOf (role : Role) (r : Request) : Service := { kind := r.kindCode, tag := 0x5A, role := role, request := r }

theorem serves_serving (p : PortId) (role : Role) (r : Request) (s : State) :
    Serves (serving p role r s) p (serviceOf role r) r := by
  refine ⟨?_, rfl⟩
  change ((s.setPort p _).port p).service = _
  simp [serviceOf]

/-- The arbiter's law, where it serves a job that waits. -/
theorem arbiterLaw_of {s : State} {n : Nat} (hs : s.starting = false) (ha : s.arbiter = { serving := some n, lastGranted := n })
    (hw : s.waitsAt n = true) : ArbiterLaw s := by
  refine ⟨fun h => by simp [hs] at h, fun _ => ⟨fun m hm => ?_, fun h => by simp [ha] at h⟩⟩
  rw [ha] at hm ⊢
  cases hm
  exact ⟨hw, rfl⟩

/-- A key is found in slot 3 of the bench. -/
theorem found_bench (r : Record) (hk : r.key = caseKey) (hw : r.words = Vector.replicate 10 .clean) : FoundAt (bench r) caseKey 3 :=
  ⟨rfl, hk, fun w => by
      have : (bench r).record 3 = r := rfl
      rw [this, Record.condition, hw]
      exact rowGet_replicate _ _,
    [], [], rfl, by simp⟩

/-- A request in service on the bench, granted, for an item that is found intact. -/
abbrev Found (p : PortId) (role : Role) (r : Request) (rec : Record) : Prop :=
  let s := serving p role r (bench rec)
  Serves s p (serviceOf role r) r ∧ Grants s p.val ∧ FoundAt s caseKey 3

theorem found_of (p : PortId) (role : Role) (r : Request) (rec : Record) (hk : rec.key = caseKey)
    (hw : rec.words = Vector.replicate 10 .clean) (hg : r.presentsJob = true) : Found p role r rec :=
  ⟨serves_serving _ _ _ _, ⟨rfl, by simp only [serving, hg]; rfl⟩, found_bench rec hk hw⟩

/-- A key whose bucket is empty is not there. -/
theorem notThere_of_empty (s : State) (key : Key) (h : s.engine.chain key.bucket = []) : NotThere s key := by
  intro y hy
  rw [h] at hy
  cases hy

/-- A key that is nowhere in the bench. -/
theorem notThere_bench (r : Record) : NotThere (bench r) cue12.key :=
  notThere_of_empty _ _ (by change sparseGet [] [(5003, [(3 : Slot)])] cue12.key.bucket.toNat = []; decide +kernel)

/-- The key of the flagged slot 4, and of no other, is not there, faulted. -/
theorem notThereFaulted_bench : NotThereFaulted benchFaulted { accession := 5002, part := 1 } := by
  have : benchFaulted.engine.chain ({ accession := 5002, part := 1 } : Key).bucket = [4, 3] := by decide +kernel
  refine ⟨⟨4, by rw [this]; simp, by decide +kernel⟩, fun y hy => ?_⟩
  rw [this] at hy
  rcases List.mem_pair.1 hy with rfl | rfl
  · exact .inl (by decide +kernel)
  · exact .inr (by decide +kernel)

theorem test_StepRunsTheFrontCommand_premises :
    ((bench caseRecord).withPending [.millisecondTick]).pending = .millisecondTick :: [] ∧ (bench caseRecord).pending = [] :=
  ⟨rfl, rfl⟩

theorem test_LawsHoldAtReset_premises :
    (bench caseRecord).memory.wf ∧ ∃ s, exec (.reset 2) (bench caseRecord) = .next s := ⟨by decide +kernel, _, rfl⟩

/-- A part with a pin, a channel with credit and a reply, about to tick. -/
def busyPart : State :=
  let s := { pinned 86400 999 with channels := (engaged (channelIn .running (some (current11 546462)))).channels }
  (s.setPort 9 (((s.port 9).withCredit 2 65535).queueReply { kind := 0, tag := 0, code := .ok, fields := [] })).withPending
    [.millisecondTick]

theorem test_UnitLawsKept_premises :
    (∃ t, step busyPart = .next t) ∧ AttentionLaw busyPart ∧ AlarmLaw busyPart ∧ FaultRecordLaw busyPart ∧ QueueLaw busyPart ∧
      CreditLaw busyPart ∧ PinLaw busyPart ∧ TimingLaw busyPart := by
  refine ⟨⟨_, rfl⟩, ?_, ?_, ?_, ?_, ?_, ?_, ?_⟩
  · unfold AttentionLaw; decide +kernel
  · unfold AlarmLaw; decide +kernel
  · unfold FaultRecordLaw; decide +kernel
  · unfold QueueLaw PortLaw; decide +kernel
  · unfold CreditLaw; decide +kernel
  · unfold PinLaw; decide +kernel
  · unfold TimingLaw; decide +kernel

/-- Channel 2 with the ninth message of cue 11 assembled and a credit to send it, about to send. -/
def sendingPart : State :=
  let s := engaged { channelIn .running (some (current11 546462)) with message := some ninth }
  (s.setPort 9 ((s.port 9).withCredit 2 1)).withPending [.outgoingArbitration 9]

theorem sendingPart_channel (c : ChannelId) :
    sendingPart.channel c = { channelIn .running (some (current11 546462)) with message := some ninth } ∨
      sendingPart.channel c = Channel.reset := by
  by_cases h : c = 2
  · left; subst h; rfl
  · right; revert c; decide +kernel

theorem test_ChannelLawsKept_premises : ChannelLaw sendingPart ∧ EngagementLaw sendingPart ∧ ∃ t, step sendingPart = .next t := by
  refine ⟨fun c => ?_, fun c => ?_, _, rfl⟩
  case refine_2 =>
    by_cases h : c = 2
    · subst h
      refine ⟨fun cur hc => ?_, fun _ hc => ?_, fun hj => ?_⟩
      · cases hc; exact ⟨rfl, nofun, rfl⟩
      · cases hc
      · cases hj
    · have hc : sendingPart.channel c = Channel.reset ∧ sendingPart.engagedSlot c = none := by revert c; decide +kernel
      rw [hc.1, hc.2]
      exact ⟨nofun, fun hn => absurd rfl hn, nofun⟩
  rcases sendingPart_channel c with h | h <;> rw [h] <;>
    simp [Channel.lawful, channelIn, Channel.reset, Channel.delivering, LaneSetting.legal, LaneSetting.reset]

theorem current11_counted (n : Nat) (h : 544414 ≤ n) (h' : n ≤ 588514) : (current11 n).counted := by
  simp only [CurrentCue.counted, current11]
  exact ⟨by omega, by omega, by omega, fun x hx => nomatch hx⟩

theorem ninth_counted : ninth.counted (current11 546462) := by unfold Message.counted; decide +kernel

theorem last_counted : ({ ninth with first := 588258, lastOfCue := true } : Message).counted (current11 588258) := by
  unfold Message.counted; decide +kernel

theorem test_DeliveryLawKept_premises : DeliveryLaw sendingPart ∧ ∃ t, step sendingPart = .next t := by
  refine ⟨fun c => ?_, _, rfl⟩
  rcases sendingPart_channel c with h | h <;> rw [h] <;>
    simp [Channel.counted, channelIn, Channel.reset, current11_counted, ninth_counted]

theorem test_NoStepLeavesAGrantDue_premises :
    NoGrantDue ((reading 0 0).withPending [.readTimeout 0]) ∧ (∃ t, step ((reading 0 0).withPending [.readTimeout 0]) = .next t) ∧
      ArbiterLaw ((serving 4 .catalogue (.findItem caseKey) (bench caseRecord)).withPending [.findItem 4]) :=
  ⟨.inr (by decide +kernel), ⟨_, rfl⟩, arbiterLaw_of (n := 4) (by decide +kernel) (by decide +kernel) (by decide +kernel)⟩

/-- The bench while the walk has placed slots 0 to 3, with channel 2 engaging slot 3 and playing the last message of a cue. -/
def walkingPart : State :=
  let cur := { current11 588258 with next := 588258 }
  let m := { ninth with first := 588258, lastOfCue := true }
  let s := engaged { channelIn .running (some cur) with message := some m }
  ({ s with engine := { s.engine with condition := .walking 4, freeStack := [2, 1, 0] } } : State).setPort 9 ((s.port 9).withCredit 2 1)

theorem walkingPart_chain (b : BitVec 14) (x : Slot) (h : x ∈ walkingPart.engine.chain b) : x = 3 ∧ b = 5003 := by
  have : walkingPart.engine.chain b = if b.toNat = 5003 then [3] else [] := rfl
  rw [this] at h
  split at h
  · next hb => exact ⟨List.mem_singleton.1 h, BitVec.eq_of_toNat_eq (by simpa using hb)⟩
  · cases h

theorem walkingPart_catalogue : CatalogueLaw walkingPart := by
  refine ⟨by unfold MemoryLaw; decide +kernel, by decide +kernel, by decide +kernel, ?_⟩
  rw [if_neg (by decide +kernel)]
  have hl : walkingPart.engine.linkedSlots = [3] := rfl
  have hs : walkingPart.engine.freeStack = [2, 1, 0] := rfl
  have hf : walkingPart.engine.faulted = [] := rfl
  have hp : walkingPart.placedSlots = 4 := rfl
  refine ⟨⟨by decide +kernel, by simp [hf], fun x => ?_⟩, ⟨fun b x h => ?_, fun x y hx hy _ _ _ => ?_⟩, fun c x h => ?_⟩
  · rw [hp, hl, hs, hf]
    simp only [List.mem_cons, List.not_mem_nil, or_false, Fin.ext_iff]
    show x.val < 4 ↔ x.val = 3 ∨ x.val = 2 ∨ x.val = 1 ∨ x.val = 0
    omega
  · obtain ⟨rfl, rfl⟩ := walkingPart_chain b x h
    decide +kernel
  · rw [hl] at hx hy
    rw [List.mem_singleton.1 hx, List.mem_singleton.1 hy]
  · rw [hl]
    have : ∀ c, walkingPart.engagedSlot c = none ∨ walkingPart.engagedSlot c = some 3 := by decide +kernel
    rcases this c with h' | h' <;> rw [h'] at h
    · cases h
    · cases h; simp

theorem walkingPart_arbiter : ArbiterLaw walkingPart := ⟨fun _ => rfl, fun h => absurd h (by decide +kernel)⟩

theorem walkingPart_records : RecordLaw walkingPart := by
  intro _ x hx
  have hl : walkingPart.engine.linkedSlots = [3] := rfl
  rw [hl] at hx
  rw [List.mem_singleton.1 hx]
  decide +kernel

theorem test_CatalogueLawKept_premises :
    let s := walkingPart.withPending [.walkSlot]
    ArbiterLaw s ∧ CatalogueLaw s ∧ ∃ t, step s = .next t :=
  ⟨walkingPart_arbiter, walkingPart_catalogue, _, rfl⟩

theorem test_RecordLawsKept_premises :
    CatalogueLaw walkingPart ∧ RecordLaw walkingPart ∧ EngagementLaw walkingPart ∧ RetiringLaw walkingPart ∧
      ∃ t, step (walkingPart.withPending [.walkSlot]) = .next t := by
  refine ⟨walkingPart_catalogue, walkingPart_records, fun c => ?_, fun _ x hx _ hr => ?_, _, rfl⟩
  · by_cases h : c = 2
    · subst h
      refine ⟨fun cur hc => ?_, fun _ hc => ?_, fun hj => ?_⟩
      · cases hc; exact ⟨rfl, nofun, rfl⟩
      · cases hc
      · cases hj
    · have hc : walkingPart.channel c = Channel.reset ∧ walkingPart.engagedSlot c = none := by revert c; decide +kernel
      rw [hc.1, hc.2]
      exact ⟨nofun, fun hn => absurd rfl hn, nofun⟩
  have hl : walkingPart.engine.linkedSlots = [3] := rfl
  rw [hl] at hx
  rw [List.mem_singleton.1 hx] at hr
  exact absurd hr (by decide +kernel)

theorem test_LawOfDeliveredFrames_premises :
    ArbiterLaw walkingPart ∧ CatalogueLaw walkingPart ∧ RecordLaw walkingPart ∧ DeliveryLaw walkingPart ∧
      ∃ t, exec (.outgoingArbitration 9) walkingPart = .next t ∧
        Notice.cueEnded 11 .played 44100 0 0 ∈ (t.port 9).notices ∧
        Notice.cueEnded 11 .played 44100 0 0 ∉ (walkingPart.port 9).notices := by
  refine ⟨walkingPart_arbiter, walkingPart_catalogue, walkingPart_records, fun c => ?_, _, rfl, by decide +kernel, by decide +kernel⟩
  have hc : walkingPart.channel c = { channelIn .running (some (current11 588258)) with
      message := some { ninth with first := 588258, lastOfCue := true } } ∨ walkingPart.channel c = Channel.reset := by
    by_cases h : c = 2
    · left; subst h; rfl
    · right; revert c; decide +kernel
  rcases hc with h | h <;> rw [h] <;>
    simp [Channel.counted, channelIn, Channel.reset, current11_counted, last_counted]

/-- Commands that are not due: no such request in service, a timer that runs, a line that stands high, a tick that is not the thousandth, a
walk whose last slot is still to come, and a unit in good form named as a discard. -/
theorem test_OnlyTheirCommandsChangeThem_premises :
    NotDue (.findItem 4) (bench caseRecord) ∧ NotDue (.readTimeout 0) (reading 0 1) ∧
      NotDue (.holdLineRise 1) { bench caseRecord with hold := { latches := 0, lines := 2, mirrorWaiting := false } } ∧
      NotDue .pinCountdown (pinned 1 998) ∧ NotDue .walkEnd walkingPart ∧
      NotDue (.messageDiscard 3 (frameMessage 0x05 [0x02, 0x0A, 0x00])) (bench caseRecord) := by
  refine ⟨.inl ⟨4, .findItem caseKey, rfl, fun v q h => ?_⟩, .inr fun c b block attempt h => ?_, .inr (by decide +kernel),
    .inr (by decide +kernel), .inr fun n hn h => ?_, .inr (by decide +kernel)⟩
  · have : ((bench caseRecord).port 4).service = none := by decide +kernel
    rw [Serves, this] at h
    exact nomatch h.1
  · have : (reading 0 1).readSlot 0 = .active 2 0 91217 1 1 := by decide +kernel
    rw [this] at h
    cases h
  · have : walkingPart.engine.condition = .walking 4 := rfl
    rw [this] at h
    cases h
    omega

/-- A part whose arbiter has granted port 0's FORMAT_CATALOGUE, which has not begun, with a lookup in service at port 4. -/
def formatGrantedPart : State :=
  granting 0 (serving 4 .catalogue (.findItem caseKey) (serving 0 .control .formatCatalogue (bench caseRecord)))

theorem test_EveryRequestIsAnsweredOnce_premises :
    let r := Request.findItem caseKey
    Serves (serving 4 .catalogue r (bench caseRecord)) 4 (serviceOf .catalogue r) r ∧
      (serving 4 .catalogue r (bench caseRecord)).arbiter.serving = some 4 ∧ (serving 4 .catalogue r State.reset).starting = true ∧
      formatGrantedPart.formatGranted = true ∧ Serves formatGrantedPart 4 (serviceOf .catalogue r) r ∧
      (Request.rearmAlarm).presentsJob = false :=
  ⟨serves_serving _ _ _ _, by decide +kernel, by decide +kernel, by decide +kernel, serves_serving _ _ _ _, rfl⟩

theorem test_CatalogueJobsMeetTheCondition_premises :
    let r := Request.findItem caseKey
    let s := serving 4 .catalogue r (bench caseRecord)
    let offline : State := { s with engine := { s.engine with condition := .offline } }
    let format := after (.formatCatalogue 0) (serving 0 .control .formatCatalogue (bench caseRecord))
    r.presentsJob = true ∧ (serving 4 .catalogue r State.reset).starting = true ∧
      (s.starting = false ∧ (granting 3 s).arbiter.serving ≠ some (4 : PortId).val ∧ (granting 3 s).formatGranted = false) ∧
      (formatGrantedPart.starting = false ∧ formatGrantedPart.formatGranted = true ∧
        formatGrantedPart.arbiter.serving ≠ some (4 : PortId).val) ∧
      (offline.arbiter.serving = some (4 : PortId).val ∧ Serves offline 4 (serviceOf .catalogue r) r) ∧
      format.engine.condition = .formatting 0 ∧ Serves format 0 (serviceOf .control .formatCatalogue) .formatCatalogue :=
  ⟨rfl, by decide +kernel, by decide +kernel, by decide +kernel, ⟨by decide +kernel, serves_serving _ _ _ _⟩, by decide +kernel, by decide +kernel, rfl⟩

theorem test_ArbiterTakesTheNextWaiting_premises :
    let hold : State := { bench caseRecord with hold := { latches := 0, lines := 0, mirrorWaiting := true } }
    let body := (Request.findItem caseKey).body 5
    let s := (bench caseRecord).setPort 15 { (bench caseRecord).port 15 with role := .catalogue, intake := [body] }
    let busy := serving 4 .catalogue (.findItem caseKey) (bench caseRecord)
    (State.reset.starting = true ∧ busy.arbiter.serving ≠ none) ∧
      (hold.starting = false ∧ hold.arbiter.serving = none ∧ hold.waitsAt ((hold.arbiter.lastGranted + 1 + 24) % 25) = true) ∧
      (s.engine.condition = .ready ∧ s.arbiter.serving = none ∧ (∀ n < 25, s.waitsAt n = false) ∧ (s.port 15).service = none ∧
        (s.port 15).intake = body :: [] ∧ (s.port 15).replies.length ≤ 3 ∧ parseRequest body = some (.findItem caseKey) ∧
        (s.port 15).role.admits (Request.findItem caseKey).class = true ∧ (Request.findItem caseKey).presentsJob = true) ∧
      ArbiterLaw busy ∧ busy.arbiter.serving = some 4 ∧
        ∃ t, exec (.findItem 4) busy = .next t ∧ t.arbiter ≠ busy.arbiter :=
  ⟨by decide +kernel, by decide +kernel, by decide +kernel,
    arbiterLaw_of (n := 4) (by decide +kernel) (by decide +kernel) (by decide +kernel), by decide +kernel, _, rfl, by decide +kernel⟩

theorem test_RequestBodiesRoundTrip_premises :
    (Request.restoreItem 65535 caseRecord.image).fits = true ∧ (Request.setLanes 2 8 4 (List.replicate 24 1)).fits = true := by
  decide +kernel

theorem test_RecordImagesRoundTrip_premises :
    caseRecord.faultyPart = none ∧ ({ caseRecord with state := .released, groups := 15, itemHold := 1 } : Record).faultyPart = none := by
  decide +kernel

theorem test_MergeableNeighbours_premises :
    let x : Segment := ⟨0, 1, .pass 3 7⟩
    let y : Segment := ⟨1, 1, .pass 3 8⟩
    x.mergeable y = true ∧ y.start = x.start + x.length ∧ 1 ≤ x.length ∧ 1 ≤ y.length ∧ x.start ≤ 1 ∧ 1 < y.stop ∧
      (⟨0, 1, .gap⟩ : Segment).mergeable ⟨1, 1, .gap⟩ = true ∧ x.mergeable ⟨1, 1, .pass 3 9⟩ = false := by decide +kernel

theorem test_SpliceKeepsEveryOtherFrame_premises :
    contiguousTo 2646000 0 caseRendition = true ∧ 1 ≤ caseRendition.length ∧ 2645999 < 2646000 := by decide +kernel

theorem test_FramesOfAGrantedCue_premises :
    let item := { caseRecord with rate := 44100 }
    let grants := fun start duration => startRefusal item { cue11 with start := start, duration := duration } .transfer false 0 = none
    rateLegal item.rate = true ∧ grants 59999 0 ∧ (grants 59000 1000 ∧ (59000 + 1000) * item.rate / 1000 = item.length) ∧
      (grants 59999 2 ∧ item.length < (59999 + 2) * item.rate / 1000) ∧ grants 1 1 := by decide +kernel

theorem test_ExtentWalk_premises :
    (∀ x ∈ casePass1.extents, 1 ≤ x.count) ∧ blockTotal casePass1.extents = 72 ∧ blockTotal (casePass1.extents.take 1) = 32 := by
  decide +kernel

/-- The samples at the ends of their ranges; and channels whose message is whole, shorter in STOPPING, muted, in a gap, with both blocks of
a frame, with one concealed, and with neither. -/
theorem test_SampleConversion_premises :
    ((-(2 ^ (8 * 2 - 1)) : Int) ≤ -32768 ∧ (32767 : Int) ≤ 2 ^ (8 * 2 - 1) - 1 ∧ (-(2 ^ (8 * 4 - 1)) : Int) ≤ -2147483648) ∧
      (nextMessage (shortChannel .running) shortCue = some [.audio, .audio, .gap, .gap] ∧
        nextMessage (shortChannel .stopping) shortCue = some [.audio, .audio] ∧ (shortChannel .running).lanes.count ≤ 8) ∧
      (({ shortCue with muted := true } : CurrentCue).muted = true ∧ (shortChannel .running).runOf 4 = none ∧
        ((shortChannel .running).runOf 3).map Run.source = some .gap ∧
        (shortChannel .running).bufferFor 0 ((0 + (1 - 0)) * 4 / 65536) =
          some (.filled ⟨0, 0, 1⟩ [1, 0, 2, 0, 0xFF, 0xFF, 4, 0]) ∧
        ((shortChannel .running).withBuffer 0 (.concealed ⟨0, 0, 1⟩)).bufferFor 0 0 = some (.concealed ⟨0, 0, 1⟩) ∧
        ((shortChannel .running).withBuffer 0 .free).bufferFor 0 0 = none) ∧
      ((readAhead .stopping).state = .stopping ∧ (readAhead .stopping).runs.length = 2 ∧ (readAhead .stopping).runOf 2 = none ∧
        ((readAhead .running).runOf 2).map Run.start = some 2) ∧
      let s := engaged (shortChannel .running)
      (s.channel 2).current = some shortCue ∧ (s.channel 2).message = none ∧ s.creditOf 2 = 0 ∧ s.timing.collection ≠ 0 := by
  decide +kernel

theorem test_HeaderReadBeginsOrEndsTheWalk_premises :
    let walkWith := fun h : Header => ({ State.reset with memory := { header := h, records := [] } } : State)
    let sound : Header := { valid := true, mirror := 15, markerWords := damagedBy 2, mirrorWords := .clean }
    (walkWith sound).engine.condition = .walkHeader ∧ sound.markerWords.lost = false ∧ sound.mirrorWords.lost = false ∧
      State.reset.memory.header.valid = false ∧
      (walkWith { sound with markerWords := lostBeside 1 }).memory.header.markerWords.lost = true ∧
      (walkWith { sound with mirrorWords := lostBeside 0 }).memory.header.mirrorWords.lost = true := by decide +kernel

/-- A walk about to place a slot with the record given, on the engine of a bench with the running case in slot 3. -/
def placing (n : Nat) (r : Record) : State :=
  let s := bench caseRecord
  { s with
    memory := { s.memory with records := sparseSet Record.freed s.memory.records n r }
    engine := { s.engine with condition := .walking n } }

/-- The same, with the record in slot 3 replaced. -/
def placingOver (n : Nat) (other r : Record) : State := (placing n r).writeRecord 3 other

theorem test_WalkPlacesEachSlot_premises :
    let at' := fun r => (placing 65535 r).record 65535
    let damaged := (caseRecord.setCondition .format (lostBeside 1)).setCondition .rendition (damagedBy 2)
    (placing 65535 caseRecord).engine.condition = .walking (65535 : Slot).val ∧
      ((at' (caseRecord.setCondition .state (lostBeside 0))).condition .state).lost = true ∧
      ((at' Record.freed).condition .state = .clean ∧ (at' Record.freed).state = .free) ∧
      (at' { caseRecord with state := .retiring }).state = .retiring ∧ (at' { caseRecord with state := .other 9 }).state = .other 9 ∧
      ((at' damaged).state = .review ∧ ((at' damaged).condition .format).lost = true ∧ (at' damaged).repairs recordWords = 3) ∧
      ((at' { caseRecord with length := 1 }).faultyPart.isSome = true ∧ (at' caseRecord).faultyPart = none ∧
        (at' caseRecord).state = .review ∧ (at' { caseRecord with state := .released }).state = .released) := by decide +kernel

/-- The running case stands twice, or once under another key, or behind a flagged slot, or behind one whose key is lost. -/
theorem test_WalkPlacesEachSlot_keys :
    (∀ w, (placing 4 caseRecord).record 4 = caseRecord ∧ (caseRecord.condition w).lost = false) ∧ KeyFoundAt (placing 4 caseRecord) caseKey 3 ∧
      NotThere (placing 4 { caseRecord with key := cue12.key }) cue12.key ∧
      NotThereFaulted (flagFaulted 3 (placing 4 caseRecord)) caseKey ∧
      LostOnTheWay (placingOver 4 (caseRecord.setCondition .key (lostBeside 1)) caseRecord) caseKey 3 := by
  refine ⟨fun w => ⟨by decide +kernel, ?_⟩, ⟨by decide +kernel, by decide +kernel, by decide +kernel, [], [], by decide +kernel, by simp⟩,
    fun y hy => ?_, ⟨⟨3, by decide +kernel⟩, fun y hy => .inl ?_⟩, ⟨by decide +kernel, by decide +kernel, [], [], by decide +kernel, by simp⟩⟩
  · have : caseRecord.condition w = .clean := rowGet_replicate _ _
    rw [this]
    rfl
  · have : (placing 4 { caseRecord with key := cue12.key }).engine.chain cue12.key.bucket = [] := by decide +kernel
    rw [this] at hy
    cases hy
  · have : (flagFaulted 3 (placing 4 caseRecord)).engine.chain caseKey.bucket = [3] := by decide +kernel
    rw [this] at hy
    rw [List.mem_singleton.1 hy]
    decide +kernel

theorem test_WalkAndFormatEnd_premises :
    ({ bench caseRecord with engine := { Engine.reset with condition := .walking 65536 } } : State).engine.condition = .walking 65536 ∧
      (after (.formatCatalogue 0) (serving 0 .control .formatCatalogue (bench caseRecord))).engine.condition = .formatting 0 ∧
      Serves (after (.formatCatalogue 0) (serving 0 .control .formatCatalogue (bench caseRecord))) 0
        (serviceOf .control .formatCatalogue) .formatCatalogue := by
  refine ⟨by decide +kernel, by decide +kernel, ?_, rfl⟩
  decide +kernel

theorem test_FormatBegins_premises :
    let busy := serving 0 .control .formatCatalogue (engaged (channelIn .running (some (current11 544414))))
    let idle := serving 0 .control .formatCatalogue (bench caseRecord)
    busy.starting = false ∧ busy.arbiter.serving = some (0 : PortId).val ∧ busy.engagedCount ≠ 0 ∧ idle.starting = false ∧
      idle.arbiter.serving = some (0 : PortId).val ∧ idle.engagedCount = 0 := by decide +kernel

theorem test_RequestsForAnAbsentItem_premises :
    let r := Request.pinItem cue12.key 86400
    let q := Request.findItem { accession := 5002, part := 1 }
    (r.seeks = some cue12.key ∧ Grants (serving 4 .control r (bench caseRecord)) 4 ∧
        NotThere (serving 4 .control r (bench caseRecord)) cue12.key) ∧
      q.seeks = some { accession := 5002, part := 1 } ∧ Grants (serving 4 .control q benchFaulted) 4 ∧
        NotThereFaulted (serving 4 .control q benchFaulted) { accession := 5002, part := 1 } :=
  ⟨⟨rfl, ⟨rfl, by decide +kernel⟩, notThere_bench _⟩, rfl, ⟨rfl, by decide +kernel⟩, notThereFaulted_bench⟩

theorem test_EnterItem_premises :
    let enter := fun key => Request.enterItem key 32000 8 4 1
    let empty : State := { bench caseRecord with engine := { (bench caseRecord).engine with freeStack := [] } }
    Found 4 .catalogue (enter caseKey) caseRecord ∧ formatLegal 32000 8 4 1 = true ∧ formatLegal 32000 9 4 1 = false ∧
      Grants (serving 4 .catalogue (enter cue12.key) empty) 4 ∧ NotThere empty cue12.key ∧ empty.engine.freeStack = [] ∧
      (bench caseRecord).engine.freeStack = 5 :: [6] ∧ Grants (serving 4 .catalogue (enter { accession := 5002, part := 1 }) benchFaulted) 4 :=
  ⟨found_of _ _ _ _ rfl rfl rfl, by decide, by decide, ⟨rfl, by decide +kernel⟩, notThere_bench _, rfl, rfl,
    ⟨rfl, by decide +kernel⟩⟩

theorem test_FindDescribeAndRecordFault_premises :
    Found 4 .catalogue (.findItem caseKey) caseRecord ∧ Found 4 .catalogue (.describeItem caseKey) caseRecord ∧
      ∀ k, k = lostBeside 0 ∨ k = lostBeside 2 ∨ k = damagedBy 2 →
        let s := serving 4 .catalogue (.findItem caseKey) (bench (caseRecord.setCondition .holds k))
        Serves s 4 (serviceOf .catalogue (.findItem caseKey)) (.findItem caseKey) ∧ Grants s (4 : PortId).val ∧ KeyFoundAt s caseKey 3 ∧
          (s.record 3).condition .holds = k ∧ (s.record 3).condition .state = .clean ∧
          (s.record 3).repairs [.state, .holds] = k.damaged := by
  refine ⟨found_of _ _ _ _ rfl rfl rfl, found_of _ _ _ _ rfl rfl rfl, fun k hk => ?_⟩
  rcases hk with rfl | rfl | rfl <;>
    exact ⟨serves_serving _ _ _ _, ⟨rfl, by decide +kernel⟩,
      ⟨by decide +kernel, by decide +kernel, by decide +kernel, [], [], by decide +kernel, by simp⟩, by decide +kernel, by decide +kernel,
      by decide +kernel⟩

theorem test_Splice_premises :
    Found 4 .catalogue (.splice caseKey 0 2646000 1 1 0) caseRecord ∧ Found 4 .catalogue (.splice caseKey 0 1 2 0 0) caseRecord ∧
      Found 4 .catalogue (.splice caseKey 0 1 0 0 0) { caseRecord with state := .released } ∧
      caseRecord.state = .review ∧ (caseRecord.pass 1).state = .complete ∧ (caseRecord.pass 2).state ≠ .complete :=
  ⟨found_of _ _ _ _ rfl rfl rfl, found_of _ _ _ _ rfl rfl rfl,
    found_of _ _ _ _ rfl rfl rfl, rfl, by decide +kernel, by decide +kernel⟩

theorem test_ReleaseAndReopen_premises :
    Found 4 .catalogue (.releaseItem caseKey) caseRecord ∧ caseRecord.rendition.any Segment.isPass = true ∧
      Found 4 .catalogue (.reopenItem caseKey) { caseRecord with state := .released } ∧ (pinned 1 0).pinsOn 3 ≠ 0 ∧
      (bench caseRecord).pinsOn 3 = 0 ∧ (engaged (channelIn .stopped none)).engagements 3 ≠ 0 ∧ (bench caseRecord).engagements 3 = 0 :=
  ⟨found_of _ _ _ _ rfl rfl rfl, by decide, found_of _ _ _ _ rfl rfl rfl, by decide +kernel,
    by decide +kernel, by decide +kernel, by decide +kernel⟩

theorem test_OpenAndClosePass_premises :
    Found 9 .transfer (.openPass caseKey) caseRecord ∧ (caseRecord.pass 2).state = .empty ∧
      (∀ j : Fin 4, j < 2 → (caseRecord.pass j).state ≠ .empty) ∧ Found 9 .transfer (.closePass caseKey 1 349525) caseOpen ∧
      (caseOpen.pass 1).state = .opened ∧ (caseOpen.pass 1).owner = (9 : PortId).val ∧
      349525 * caseOpen.frameBytes ≤ blockTotal (caseOpen.pass 1).extents * 65536 ∧
      blockTotal (caseOpen.pass 1).extents * 65536 < 349526 * caseOpen.frameBytes :=
  ⟨found_of _ _ _ _ rfl rfl rfl, by decide +kernel, by decide +kernel,
    found_of _ _ _ _ rfl (by decide +kernel) rfl, by decide +kernel, by decide +kernel, by decide +kernel,
    by decide +kernel⟩

theorem test_ExtentsAndWithdrawal_premises :
    Found 9 .transfer (.addExtent caseKey 1 4294901761 65535) caseOpen ∧ (caseOpen.pass 1).extents.length < 16 ∧
      Found 4 .catalogue (.withdrawPass caseKey 3) caseRecord ∧ Found 4 .catalogue (.withdrawPass caseKey 0) caseRecord ∧
      caseRecord.rendition.any (fun g => g.names 0) = true ∧ caseOpen.rendition.any (fun g => g.names 3) = false :=
  ⟨found_of _ _ _ _ rfl (by decide +kernel) rfl, by decide +kernel, found_of _ _ _ _ rfl rfl rfl,
    found_of _ _ _ _ rfl rfl rfl, by decide +kernel, by decide +kernel⟩

theorem test_RetireItem_premises :
    Found 4 .catalogue (.retireItem caseKey) caseRecord ∧ Found 4 .catalogue (.retireItem caseKey) caseOpen ∧
      (∀ i, (caseRecord.pass i).state ≠ .opened) ∧ (caseOpen.pass 1).state = .opened ∧ (caseOpen.pass 0).state ≠ .opened ∧
      SparseWf [] (bench caseRecord).engine.directory :=
  ⟨found_of _ _ _ _ rfl rfl rfl, found_of _ _ _ _ rfl (by decide +kernel) rfl, by decide +kernel,
    by decide +kernel, by decide +kernel, by decide +kernel⟩

theorem test_ItemHolds_premises :
    (Found 4 .catalogue (.holdItem caseKey) caseRecord ∧ Found 4 .catalogue (.liftItem caseKey) { caseRecord with itemHold := 1 } ∧
      Found 4 .catalogue (.setGroups caseKey 15) caseRecord ∧ Found 4 .catalogue (.setGroups caseKey 16) caseRecord ∧
      (bench caseRecord).engagements 3 = 0 ∧ NoGrantDue (bench caseRecord)) ∧
    (let r := Request.holdItem caseKey
      let s := serving 4 .catalogue r (engaged (channelIn .running (some (current11 544414))))
      let held := { current11 544414 with itemHold := 1 };
      Serves s 4 (serviceOf .catalogue r) r ∧ Grants s (4 : PortId).val ∧ FoundAt s caseKey 3 ∧ s.engagedSlot 2 = some 3 ∧
        s.engagedSlot 3 = none ∧ (s.channel 2).current = some (current11 544414) ∧ held.muted = false ∧ held.held s.hold.latches = true ∧
        (current11 544414).held s.hold.latches = false) :=
  ⟨⟨found_of _ _ _ _ rfl rfl rfl, found_of _ _ _ _ rfl rfl rfl, found_of _ _ _ _ rfl rfl rfl, found_of _ _ _ _ rfl rfl rfl,
    by decide +kernel, .inr (by decide +kernel)⟩,
    serves_serving _ _ _ _, ⟨rfl, by decide +kernel⟩, found_bench _ rfl rfl, by decide +kernel, by decide +kernel, by decide +kernel,
    by decide +kernel, by decide +kernel, by decide +kernel⟩

/-- A muting channel that plays, one in STOPPING with nothing awaited, ones that await a drained read, a wanted read that a slot serves, or
a resolution, and a remainder. -/
theorem test_LatchingCutsHeldChannels_premises :
    let s := engaged { channelIn .halting (some (current11 546974)) with cutoff := .mute }
    let cur := current11 546974
    (hasGroup s.hold.latches 1 = false ∧ hasGroup s.hold.lines 1 = false ∧ (1 : Byte).toNat = (1 : GroupId).val ∧ cur.muted = false ∧
      cur.held 2 = true ∧ cur.held 1 = false ∧ cur.next < cur.limit ∧ (s.channel 2).current = some cur ∧
      (s.channel 3).current = none) ∧
    (let ch := { channelIn .stopping (some cur) with cutoff := .mute };
      ch.cutoff = .mute ∧ (∀ b, (ch.buffer b).isInFlight = false) ∧ ch.job.any ChannelJob.isResolution = false ∧
        (ch.withBuffer 3 .draining).buffer 3 = .draining ∧
        (((reading 0 100).channel 2).buffer 0 = .inFlight { runStart := 544414, passBlock := 49, lastFrame := 547333 } ∧
          ∃ r ∈ (reading 0 100).store.requests, r.channel = 2 ∧ r.buffer = 0 ∧ r.active = true) ∧
        ({ ch with job := some (.segment 560000 588514 false) } : Channel).job.any ChannelJob.isResolution = true ∧
        ({ ch with state := .stopped } : Channel).state = .stopped ∧ { ch with cutoff := .skip }.queue = []) := by
  decide +kernel

theorem test_LiftsAndFallingEdges_premises :
    let s : State := { bench caseRecord with hold := { latches := 10, lines := 2, mirrorWaiting := false } }
    hasGroup s.hold.latches 1 = true ∧ hasGroup s.hold.lines 1 = true ∧ hasGroup s.hold.latches 3 = true ∧
      hasGroup s.hold.lines 3 = false ∧ hasGroup s.hold.latches 0 = false ∧ 4 ≤ (4 : Byte).toNat ∧ (3 : Byte).toNat = (3 : GroupId).val := by
  decide +kernel

theorem test_MirrorWrite_premises :
    let s : State := granting 24 { bench caseRecord with hold := { latches := 6, lines := 0, mirrorWaiting := true } }
    s.arbiter.serving = some holdPosition ∧ s.engine.condition ≠ .offline ∧ (bench caseRecord).arbiter.serving ≠ some holdPosition := by
  decide +kernel

/-- A part whose slot 65,535 is faulted. -/
def settling : State :=
  { bench caseRecord with engine := { (bench caseRecord).engine with faulted := [65535] } }

theorem test_RestoreAndDiscardItem_premises :
    let r := Request.restoreItem 65535 { caseRecord with key := cue12.key }.image
    Grants (serving 0 .control r settling) 0 ∧ (parseImage { caseRecord with key := cue12.key }.image).faultyPart = none ∧
      (parseImage { caseRecord with key := cue12.key }.image).key = cue12.key ∧ NotThere settling cue12.key ∧
      (parseImage ([] : List Byte)).faultyPart = some .fixedFields ∧ settling.isFaulted (65535 : BitVec 16).toFin = true ∧
      settling.isFaulted (0 : BitVec 16).toFin = false ∧ settling.engagements 65535 = 0 ∧
      Grants (serving 0 .control (.discardItem 65535) settling) 0 :=
  ⟨⟨rfl, by decide +kernel⟩, by decide +kernel, by decide +kernel, notThere_of_empty _ _ (by decide +kernel), by decide +kernel,
    by decide +kernel, by decide +kernel, by decide +kernel, ⟨rfl, by decide +kernel⟩⟩

theorem test_PinAndUnpinItem_premises :
    Found 10 .production (.pinItem caseKey 86400) { caseRecord with state := .released } ∧
      ¬ (1 ≤ (0 : BitVec 32).toNat) ∧ 86400 < (86401 : BitVec 32).toNat ∧ Found 10 .production (.pinItem caseKey 1) caseRecord ∧
      findPin 10 3 (pinned 1 0).pinTable.pins ≠ none ∧ findPin 15 3 (pinned 1 0).pinTable.pins = none ∧
      (pinned 1 0).pinTable.pins.length < 128 ∧ 16 ≤ (16 : Byte).toNat ∧ (15 : Byte).toNat = (15 : PortId).val :=
  ⟨found_of _ _ _ _ rfl rfl rfl, by decide, by decide, found_of _ _ _ _ rfl rfl rfl,
    by decide +kernel, by decide +kernel, by decide +kernel, by decide, by decide⟩

theorem test_TicksAndCountdown_premises :
    (pinned 1 998).pinTable.prescaler < 999 ∧ (pinned 1 999).pinTable.prescaler = 999 := by decide +kernel

theorem test_ChannelRequestGates_premises :
    (Request.stopChannel 8).channelField = some (8, true) ∧ 8 ≤ (8 : Byte).toNat ∧ (Request.channelStatus 7).channelField = some (7, false) ∧
      (7 : Byte).toNat = (7 : ChannelId).val ∧ ((engaged (channelIn .idle none)).channel 7).port ≠ some 9 := by decide +kernel

theorem test_BindAndFlushChannel_premises :
    let s := engaged { channelIn .stopped (some (current11 547333)) with queue := [cue12] }
    (2 : Byte).toNat = (2 : ChannelId).val ∧ (15 : Byte).toNat = (15 : PortId).val ∧ 16 ≤ (16 : Byte).toNat ∧
      (s.channel 2).port = some 9 ∧ (s.channel 2).state = .stopped ∧ (s.channel 2).message = none ∧
      (s.channel 2).current = some (current11 547333) ∧ (s.channel 2).job = none ∧
      ((engaged (channelIn .halting none)).channel 2).state = .halting := by decide +kernel

theorem test_QueueCueAndStopChannel_premises :
    let ch := fun st => (engaged (channelIn st none)).channel 2
    let waiting := { channelIn .running (some (current11 546462)) with message := some ninth }
    NoGrantDue (engaged (channelIn .idle none)) ∧ (ch .idle).queue.length < 16 ∧ 16 ≤ (List.replicate 16 cue12).length ∧
      ((ch .idle).state = .idle ∧ (ch .idle).current = none ∧ (ch .idle).queue = [] ∧ (ch .idle).job = none ∧ (ch .idle).disengageDue = false) ∧
      (ch .cut).state = .cut ∧ waiting.message.isSome = true ∧ ((ch .running).current = none ∧ (ch .running).message = none ∧
        ∀ b, ((ch .running).buffer b).isInFlight = false) ∧ (starting.channel 2).job = some (.start cue11 .transfer false false) ∧
      (let cur := current11 588513
        let rem := channelIn .halting (some cur);
        rem.current = some cur ∧ cur.next < cur.limit ∧ rem.message = none ∧ rem.job = none ∧ (∀ b, (rem.buffer b).isInFlight = false) ∧
          rem.runOf cur.next = none ∧ (∀ b, rem.buffer b = .free) ∧ cur.muted = false ∧
          ({ cur with muted := true } : CurrentCue).muted = true) :=
  ⟨.inr (by decide +kernel), by decide +kernel⟩

theorem test_HaltAndResumeChannel_premises :
    let ch := fun st cur => (engaged (channelIn st cur)).channel 2
    let cur := current11 547333
    ((ch .running (some cur)).state = .running ∧ cur.next < cur.limit) ∧ (starting.channel 2).current = none ∧
      ((ch .stopped (some cur)).state = .stopped ∧ (ch .stopped (some cur)).message = none ∧ (ch .stopped (some cur)).job = none ∧
        (ch .stopped (some cur)).disengageDue = false ∧ (ch .stopped (some cur)).runs = [] ∧ cur.muted = false ∧ cur.crossing = none ∧
        cur.next < cur.f1 ∧ ∀ b, ((ch .stopped (some cur)).buffer b).place = none) ∧
      NoGrantDue (engaged (channelIn .stopped (some cur))) ∧ (ch .halted none).current = none ∧ (ch .halted none).queue = [] :=
  ⟨by decide +kernel, by decide +kernel, by decide +kernel, .inr (by decide +kernel), by decide +kernel, by decide +kernel⟩

theorem test_ClearCut_premises :
    let s := engaged { channelIn .cut none with queue := [cue12] }
    let u := after (.clearCut 9) (serving 9 .transfer (.clearCut 2) s)
    (s.channel 2).port = some 9 ∧ (s.channel 2).state = .cut ∧ (s.channel 2).current = none ∧ (s.channel 2).queue = cue12 :: [] ∧
      (s.channel 2).job = none ∧ (s.channel 2).disengageDue = false ∧
      (serving 9 .transfer (.resumeChannel 2) u).channel 2 = u.channel 2 := by decide +kernel

theorem test_LanesCutoffAndStatus_premises :
    let idle := (engaged (channelIn .idle none)).channel 2
    idle.port = some 9 ∧ carriedLane [1, 7, 1] 0 ≠ none ∧ carriedLane [1, 8, 1] 0 = none ∧ carriedLane [2, 7, 1] 0 = none ∧
      (List.replicate 24 (1 : Byte)).length = 3 * 8 ∧ (∀ i < 8, carriedLane (List.replicate 24 1) i ≠ none) ∧
      (Cutoff.ignore.code = (3 : Byte).toNat ∧ Cutoff.skip.code = (2 : Byte).toNat) ∧ 4 ≤ (4 : Byte).toNat ∧ idle.message = none ∧
      idle.current = none ∧ idle.state = .idle ∧ idle.disengageDue = false ∧
      (let ch := (engaged (channelIn .stopped (some (current11 547333)))).channel 2;
        ch.message = none ∧ ch.current = some (current11 547333) ∧ (current11 547333).held 2 = true ∧ (current11 547333).held 1 = false ∧
          ch.state ≠ .stopping ∧ (current11 547333).next < (current11 547333).limit) := by decide +kernel

/-- The hypotheses of the refusals of a start resolution, reason by reason, of a word it finds lost, and of its grant. -/
theorem test_StartResolution_premises :
    (starting.channel 2).job = some (.start cue11 .transfer false false) ∧ (starting.channel 2).current = none ∧
      Grants starting (channelPosition 2) ∧ FoundAt starting caseKey 3 ∧ startRefusal (starting.record 3) cue11 .transfer false 0 = none ∧
      (starting.record 3).held 0 = false ∧ (starting.channel 2).delivering = true ∧
      ({ starting with engine := { starting.engine with condition := .offline } } : State).arbiter.serving = some (channelPosition 2) ∧
      NotThere starting cue12.key ∧ caseRecord.state ≠ .released ∧ caseRecord.held 2 = true ∧
      caseRecord.length ≤ 60000 * caseRecord.rate / 1000 ∧
      (∀ w, w = RecordWord.state ∨ w = .rendition ∨ w = .pass 1 →
        let s := starting.writeRecord 3 ((caseRecord.setCondition .retiring (lostBeside 0)).setCondition w (lostBeside 1))
        KeyFoundAt s caseKey 3 ∧
          (s.record 3).firstLost ([.state, .holds, .format, .rendition] ++ firstRunWord (s.record 3) cue11.start.toNat) = some w) ∧
      (let s := starting.setChannel 2 { starting.channel 2 with state := .stopping, job := some (.start cue11 .transfer false true) };
        (s.channel 2).state = .stopping ∧ Grants s (channelPosition 2) ∧ FoundAt s caseKey 3) := by
  refine ⟨rfl, rfl, ⟨rfl, by decide +kernel⟩, found_bench _ rfl rfl, by decide +kernel, by decide +kernel, by decide +kernel,
    by decide +kernel, notThere_bench _, by decide +kernel, by decide +kernel, by decide +kernel, fun w hw => ?_,
    by decide +kernel, ⟨rfl, by decide +kernel⟩, found_bench _ rfl rfl⟩
  rcases hw with rfl | rfl | rfl <;>
    exact ⟨⟨by decide +kernel, by decide +kernel, by decide +kernel, [], [], by decide +kernel, by simp⟩, by decide +kernel⟩

/-- Channel 2 engaging slot 3, with a job at the engine. -/
def asking (job : ChannelJob) : State := granting 18 (engaged { channelIn .running (some (current11 544414)) with job := some job })

theorem test_SegmentResolution_premises :
    let s := asking (.segment 560000 588514 false)
    ((s.channel 2).job = some (.segment 560000 588514 false) ∧ Grants s (channelPosition 2) ∧ s.engagedSlot 2 = some 3 ∧
      s.isFaulted 3 = false ∧ (s.record 3).intact ∧ segmentOf (s.record 3).rendition 560000 = some ⟨560000, 2086000, .pass 0 560000⟩ ∧
      segmentOf (s.record 3).rendition 559999 = some ⟨500000, 60000, .pass 1 498800⟩) ∧
    (let r := caseRecord.setCondition .rendition (lostBeside 3);
      (s.writeRecord 3 r).record 3 = r ∧ (r.condition .rendition).lost = true ∧ r.repairs [.rendition] = 3) ∧
    (let r := (caseRecord.setCondition (.pass 0) (lostBeside 0)).setCondition .rendition (damagedBy 1);
      (r.condition .rendition).lost = false ∧ (r.condition (.pass 0)).lost = true ∧ r.repairs [.rendition, .pass 0] = 1 ∧
        segmentOf r.rendition 560000 = some ⟨560000, 2086000, .pass (0 : Fin 4).val 560000⟩) ∧
    (flagFaulted 3 s).isFaulted 3 = true :=
  ⟨⟨rfl, ⟨rfl, by decide +kernel⟩, by decide +kernel, by decide +kernel, (found_bench caseRecord rfl rfl).2.2.1, by decide +kernel,
    by decide +kernel⟩, by decide +kernel, by decide +kernel, by decide +kernel⟩

theorem test_Disengage_premises :
    let s := asking .disengage
    (s.channel 2).job = some .disengage ∧ Grants s (channelPosition 2) ∧ s.engagedSlot 2 = some 3 ∧
      (∀ d, d ≠ 2 → s.engagedSlot d ≠ some 3) ∧ s.isFaulted 3 = false ∧ (s.record 3).intact ∧ (s.record 3).state ≠ .retiring ∧
      ({ caseRecord with state := .retiring, retiringPort := 15 } : Record).retiringPort = (15 : PortId).val :=
  ⟨rfl, ⟨rfl, by decide +kernel⟩, by decide +kernel, by decide +kernel, by decide +kernel, (found_bench caseRecord rfl rfl).2.2.1,
    by decide +kernel, rfl⟩

/-- A block of zeros. -/
theorem block_length : (List.replicate 65536 (0 : Byte)).length = 65536 := List.length_replicate

theorem test_BlockData_premises :
    let s := reading 0 100
    (7 : Byte).toNat = (7 : ReadTag).val ∧ 8 ≤ (8 : Byte).toNat ∧ s.readSlot 7 = .free ∧ s.readSlot 0 = .active 2 0 91217 1 100 ∧
      (s.channel 2).buffer 0 = .inFlight { runStart := 544414, passBlock := 49, lastFrame := 547333 } ∧
      (s.setReadSlot 0 (.stale 91217)).readSlot 0 = .stale 91217 ∧
      ((s.setChannel 2 ((s.channel 2).withBuffer 0 .draining)).channel 2).buffer 0 = .draining := by decide +kernel

theorem test_FailedAttempts_premises :
    let s := reading 2 0
    s.readSlot 0 = .active 2 0 91217 3 0 ∧ (s.requestOf 2 0).map BlockRequest.failed = some 2 ∧
      (s.requestOf 2 0).map BlockRequest.abandoned = some false ∧ (s.channel 2).state ≠ .stopping ∧ s.timing.retry < 2 + 1 ∧
      1 + 1 ≤ s.timing.retry ∧ (∀ k, s.readSlot 1 ≠ .stale k) ∧ (s.channel 2).current = some (current11 544414) ∧
      (current11 544414).concealNoticed = false ∧ (s.channel 2).port = some 9 ∧
      (let eighth := s.setStore { s.store with slots := rowSet (Vector.replicate 8 (.stale 7)) 0 (.active 2 0 91217 3 0) };
        eighth.readSlot 0 = .active 2 0 91217 3 0 ∧ (eighth.requestOf 2 0).isSome = true ∧ ∀ h, h ≠ 0 → eighth.readSlot h = .stale 7) := by
  refine ⟨by decide +kernel, by decide +kernel, by decide +kernel, by decide +kernel, by decide +kernel, by decide +kernel,
    fun k => ?_, by decide +kernel, rfl, by decide +kernel, by decide +kernel⟩
  have : (reading 2 0).readSlot 1 = .free := by decide +kernel
  rw [this]
  exact fun h => nomatch h

/-- Seven stale slots, and the eighth active with its timer run out. -/
def stalling : State :=
  let s := reading 0 0
  s.setStore { s.store with slots := rowSet (Vector.replicate 8 (.stale 7)) 0 (.active 2 0 91217 1 0) }

/-- Every active slot of the reading part has a request, in flight; and the cancellation of its attempt finds it with failures left, at its
limit, abandoned, or in STOPPING. -/
theorem test_StallAndStoreReset_cancellations :
    ((reading 2 100).activeSlots = [(0, 2, 0)] ∧ (reading 2 100).requestOf 2 0 ≠ none ∧
      (((reading 2 100).channel 2).buffer 0).isInFlight = true ∧
      ((reading 2 100).activeSlots.map Prod.snd).Nodup) ∧
    ((reading 2 100).requestOf 2 0).map BlockRequest.failed = some 2 ∧ (reading 2 100).timing.retry < 2 + 1 ∧
      1 + 1 ≤ (reading 1 100).timing.retry ∧ ((reading 2 100).requestOf 2 0).map BlockRequest.abandoned = some false ∧
      ((reading 2 100).channel 2).state ≠ .stopping ∧
      ((reading 2 100).channel 2).current = some (current11 544414) ∧ (current11 544414).concealNoticed = false ∧
      ((reading 2 100).channel 2).port = some 9 ∧
      (let s := changeRequest 2 0 (fun r => { r with abandoned := true }) (reading 2 100);
        (s.requestOf 2 0).map BlockRequest.abandoned = some true) ∧
      (enterState 2 .stopping (reading 2 100)).channel 2 = { (reading 2 100).channel 2 with state := .stopping } := by
  decide +kernel

theorem test_StallAndStoreReset_premises :
    stalling.readSlot 0 = .active 2 0 91217 1 0 ∧ (∀ h, h ≠ 0 → ∃ k, stalling.readSlot h = .stale k) ∧
      stalling.attention.stalled = false ∧ stalling.inWalk = false ∧
      Serves (serving 0 .control .storeReset stalling) 0 (serviceOf .control .storeReset) .storeReset ∧
      (∀ g, (bench caseRecord).readSlot g = .free) ∧ NoGrantDue (bench caseRecord) := by
  refine ⟨by decide +kernel, fun h hh => ⟨7, ?_⟩, by decide +kernel, by decide +kernel, serves_serving _ _ _ _, by decide +kernel,
    .inr (by decide +kernel)⟩
  revert h
  decide +kernel

theorem test_GrantOfASlot_premises :
    let s := reading 0 0
    let waiting := s.setStore { s.store with requests := s.store.requests.map fun r => { r with active := false } }
    (waiting.freeTag = some 1 ∧ waiting.nextRequest.map BlockRequest.block = some 91217) ∧
      (let ch := (s.channel 2).withBuffer 0 (.inFlight { runStart := 544414, passBlock := 49, lastFrame := 547333 })
        let cur := current11 544414
        let run : Run := { start := 544414, stop := 560000, source := .pass 1 543214 casePass1.extents, issued := 2 };
        ch.state = .running ∧ ch.current = some cur ∧ ch.buffer 1 = .free ∧ (∀ a, a < 1 → ch.buffer a ≠ .free) ∧
          (ch.runs[0]?).map (fun r => r.allIssued cur.frameBytes) = some true ∧ run.allIssued cur.frameBytes = false ∧
          storeBlock casePass1.extents (543214 * cur.frameBytes / 65536 + run.issued) = some 91219 ∧
          storeBlock casePass1.extents 72 = none ∧ 1 ≤ cur.frameBytes) := by decide +kernel

theorem test_CollectionTimeout_premises :
    let with' := fun w => (engaged { channelIn .stopping (some (current11 546462)) with message := some ninth, wait := w }).channel 2
    let pending := { with' (some 0) with pendingCutoff := some .skip }
    (with' (some 0)).current = some (current11 546462) ∧ (with' (some 0)).wait = some 0 ∧ (with' (some 0)).state = .stopping ∧
      (with' (some 0)).pendingCutoff = none ∧ (with' (some 1)).wait = some (0 + 1) ∧ (with' none).wait = none ∧
      (pending.pendingCutoff = some .skip ∧ pending.message = some ninth ∧ (current11 546462).held 2 = true ∧
        (current11 546462).held 1 = false) := by decide +kernel

theorem test_ArrivalsCreditAndDiscards_premises :
    2 ≤ ([0x53, 6] : List Byte).length ∧ ((bench caseRecord).port 5).intake.length < 4 ∧ ((bench caseRecord).port 5).replies.length ≤ 2 ∧
      (7 : Byte).toNat = (7 : ChannelId).val ∧ 8 ≤ (8 : Byte).toNat ∧ ((engaged (channelIn .idle none)).channel 2).port = some 9 ∧
      ((engaged (channelIn .idle none)).channel 7).port ≠ some 9 ∧ discardsUnit [] = true ∧
      discardsUnit (frameMessage 0x01 [0x53]) = true ∧ discardsUnit (frameMessage 0x05 [0x02, 0x0A, 0x00]) = false ∧
      discardsStoreUnit [0x12, 0x05, 0x01, 0x18, 0x00] = false ∧ discardsStoreUnit [0x12, 0x05, 0x01, 0x19, 0x00] = true := by
  decide +kernel

theorem test_DispatchByRole_premises :
    let port := fun role body => ({ (bench caseRecord).port 5 with role := role, intake := [body] } : Port)
    let find := (Request.findItem caseKey).body 5
    (port .control [0x53, 6]).service = none ∧ (port .control [0x53, 6]).intake = [0x53, 6] :: [] ∧ parseRequest [0x53, 6] = some .rearmAlarm ∧
      parseRequest [0x53] = none ∧ Role.control.admits (Request.rearmAlarm).class = true ∧
      Role.catalogue.admits (Request.rearmAlarm).class = false ∧ (port .control []).replies.length ≤ 3 ∧
      (parseRequest find = some (.findItem caseKey) ∧ Role.production.admits (Request.findItem caseKey).class = true ∧
        (Request.findItem caseKey).presentsJob = true ∧ State.reset.starting = true ∧ (bench caseRecord).engine.condition = .ready ∧
        (bench caseRecord).formatGranted = false ∧ formatGrantedPart.formatGranted = true) ∧
      (parseRequest [0x37, 6, 2, 1, 3] = some (.setLanes 2 1 3 []) ∧ parseRequest [0x37, 6, 2, 1] = none) := by decide +kernel

theorem test_OutgoingLink_premises :
    let s := sendingPart
    ((s.port 9).sending = [] ∧ (s.port 9).replies = [] ∧ (s.port 9).notices = [] ∧ (s.channel 2).port = some 9 ∧
      1 ≤ (s.port 9).creditFor 2 ∧ (s.channel 2).message = some ninth ∧ (s.channel 2).current = some (current11 546462) ∧
      (s.channel 2).pendingCutoff = none ∧
      (s.channel 2).delivering = true ∧ (s.port 9).audioPointer + 1 + 2 = 2 ∧
      (∀ j : Fin 8, j < 2 → (s.channel ((s.port 9).audioPointer + 1 + j)).message.isSome = false) ∧
      (current11 546462).next + ninth.count < (current11 546462).limit ∧
      (current11 588258).next + ninth.count = (current11 588258).limit) ∧
    (let ch := { s.channel 2 with state := .stopping };
      ch.state = .stopping ∧ (∀ b, (ch.buffer b).isInFlight = false) ∧ ch.job.any ChannelJob.isResolution = false ∧ ch.runs = [] ∧
        ((ch.withBuffer 0 .draining).buffer 0).isInFlight = true ∧
        ((readAhead .stopping).runs.head?.map Run.stop = some 2 ∧ ∀ b, ((readAhead .stopping).buffer b).isInFlight = false) ∧
        ({ ch with pendingCutoff := some .mute } : Channel).pendingCutoff.getD ch.cutoff = .mute ∧ (current11 546462).held 2 = true) ∧
    ((List.replicate 15 (Notice.channelHalted)).length < 16 ∧ 16 ≤ (List.replicate 16 (Notice.channelHalted)).length) ∧
    (1 ≤ ninth.lanes ∧ ninth.lanes ≤ 8 ∧ 2 ≤ ninth.word ∧ ninth.word ≤ 4 ∧ ninth.samples.length = ninth.count * ninth.lanes) := by
  decide +kernel

theorem test_AssignRoleAndSetTiming_premises :
    let s := engaged (channelIn .stopped (some (current11 547333)))
    Serves (serving 0 .control (.assignRole 15 4) s) 0 (serviceOf .control (.assignRole 15 4)) (.assignRole 15 4) ∧
      (15 : Byte).toNat = (15 : PortId).val ∧ Role.control.code = (4 : Byte).toNat ∧ 16 ≤ (16 : Byte).toNat ∧ 5 ≤ (5 : Byte).toNat ∧
      ((List.finRange 8).filter fun c => decide ((s.channel c).port = some 9)) = [2] ∧ (s.channel 2).state.playing = false ∧
      ((engaged (channelIn .running none)).channel 2).state.playing = true :=
  ⟨serves_serving _ _ _ _, by decide +kernel⟩

theorem test_AttentionAndFaultRecordRequests_premises (r : Request) (a : Attention) :
    Serves (serving 0 .control r (attending a)) 0 (serviceOf .control r) r ∧ Attention.reset.record = none :=
  ⟨serves_serving _ _ _ _, rfl⟩

end Sys2Proof.Tests
end

-- ==== Proofs: reset ====
section
/-! The state that a RESET leaves, block by block, and the laws in it. -/

namespace Sys2Proof.Machine

section AfterReset
variable (memory : Memory) (lines : Groups) (moments : Nat) (pending : List Instr)

@[simp] theorem afterReset_port (p : PortId) : (State.afterReset memory lines moments pending).port p = Port.reset p :=
  rowGet_ofFn ..

@[simp] theorem afterReset_channel (c : ChannelId) : (State.afterReset memory lines moments pending).channel c = Channel.reset :=
  rowGet_replicate ..

@[simp] theorem afterReset_engagedSlot (c : ChannelId) : (State.afterReset memory lines moments pending).engagedSlot c = none :=
  rowGet_replicate ..

@[simp] theorem afterReset_readSlot (g : ReadTag) : (State.afterReset memory lines moments pending).readSlot g = .free :=
  rowGet_replicate ..

end AfterReset

@[simp] theorem reset_creditFor (p : PortId) (c : ChannelId) : (Port.reset p).creditFor c = 0 := rowGet_replicate ..

@[simp] theorem reset_buffer (b : BufferId) : Channel.reset.buffer b = .free := rowGet_replicate ..

/-! ### The laws in the reset state -/

theorem channelReset_lawful : Channel.reset.lawful := by
  simp [Channel.lawful, Channel.reset, LaneSetting.legal, LaneSetting.reset]

theorem channelReset_engagesWell : Channel.reset.engagesWell none := by simp [Channel.engagesWell, Channel.reset]

theorem channelReset_counted : Channel.reset.counted := by simp [Channel.counted, Channel.reset]

theorem portReset_law (p : PortId) : PortLaw (Port.reset p) := by simp [PortLaw, Port.reset]

section Laws
variable {memory : Memory} (lines : Groups) (moments : Nat) (pending : List Instr)

theorem afterReset_linkedSlots : (State.afterReset memory lines moments pending).engine.linkedSlots = [] := rfl

/-- No request waits for a read slot after reset (R107, R109). -/
theorem afterReset_noGrantDue : NoGrantDue (State.afterReset memory lines moments pending) := by
  have : ∀ c, (State.afterReset memory lines moments pending).waitingOf c = [] := fun c => rfl
  exact .inr (by simp [State.nextRequest, this, earliest])

/-- The arbiter holds no job as the walk begins (R14, R16). -/
theorem afterReset_arbiterLaw : ArbiterLaw (State.afterReset memory lines moments pending) :=
  ⟨fun _ => rfl, fun h => absurd h (by simp [State.afterReset, Engine.reset, State.starting, State.inWalk])⟩

/-- Before the walk has placed a slot, the laws of the catalogue hold of every memory in canonical form (R11, R147). -/
theorem afterReset_catalogueLaw (h : memory.wf) : CatalogueLaw (State.afterReset memory lines moments pending) := by
  refine ⟨h, ?_, by simp [State.afterReset, Engine.reset], ?_⟩
  · simp [State.afterReset, Engine.reset, SparseWf]
  · simp [State.inFormat, SlotPlaces, DirectoryLaw, State.placedSlots, Engine.linkedSlots, Engine.chain, sparseGet, State.afterReset,
      Engine.reset, State.engagedSlot]

end Laws

/-- Settles O2, block by block. -/
theorem resetValues : Obligations.ResetValues := by
  intro lines s
  refine ⟨_, rfl, ?_⟩
  simp only [afterReset_engagedSlot, afterReset_readSlot, afterReset_port, afterReset_channel, reset_creditFor, reset_buffer]
  simp [State.afterReset, Engine.reset, Arbiter.reset, Attention.reset, StoreReader.reset, Timing.reset, Port.reset, Channel.reset,
    LaneSetting.reset]

/-- Settles O3, law by law. -/
theorem lawsHoldAtReset : Obligations.LawsHoldAtReset := by
  intro s hs
  obtain ⟨memory, lines, moments, pending, hwf, rfl⟩ : ∃ memory lines moments pending, memory.wf ∧
      s = State.afterReset memory lines moments pending := by
    rcases hs with rfl | ⟨lines, u, hu, h⟩
    · exact ⟨_, _, _, _, reset_memory_wf, rfl⟩
    · injection h with h
      exact ⟨_, _, _, _, hu, h.symm⟩
  have hport : ∀ p, PortLaw ((State.afterReset memory lines moments pending).port p) := by simpa using portReset_law
  have hch : ∀ c, ((State.afterReset memory lines moments pending).channel c).lawful := by simpa using channelReset_lawful
  have hen : EngagementLaw (State.afterReset memory lines moments pending) := by
    simpa [EngagementLaw] using channelReset_engagesWell
  have hde : DeliveryLaw (State.afterReset memory lines moments pending) := by simpa [DeliveryLaw] using channelReset_counted
  refine ⟨by simp [AttentionLaw, State.afterReset, Attention.reset], by simp [AlarmLaw, State.afterReset, Attention.reset], ?_,
    hport, by simp [CreditLaw], ?_, ?_, hch, hen, hde,
    afterReset_noGrantDue lines moments pending, afterReset_arbiterLaw lines moments pending,
    afterReset_catalogueLaw lines moments pending hwf, ?_, ?_⟩
  · simp [FaultRecordLaw, State.afterReset, Attention.reset]
  · simp [PinLaw, State.afterReset]
  · simp [TimingLaw, State.afterReset, Timing.reset]
  · intro _ x hx; rw [afterReset_linkedSlots] at hx; cases hx
  · intro _ x hx; rw [afterReset_linkedSlots] at hx; cases hx

/-! ### The bucket of a key and the mirror write -/

/-- Settles O17: each piece is a remainder, or a quotient below its bound. -/
theorem bucketOfAKey : Obligations.BucketOfAKey := by
  intro k A
  have hA : A < 2 ^ 40 := k.accession.isLt
  have htop : A / 268435456 < 4096 := by omega
  have hp : k.part.toNat < 256 := k.part.isLt
  refine ⟨?_, k.bucket.isLt, htop⟩
  have hmod : A / 268435456 % 16384 = A / 268435456 := Nat.mod_eq_of_lt (by omega)
  have hpart : k.part.toNat % 16384 = k.part.toNat := Nat.mod_eq_of_lt (by omega)
  simp [Key.bucket, BitVec.toNat_xor, Nat.shiftRight_eq_div_pow, A, hmod, hpart]

/-- Settles O38: each branch of the service, by its condition. -/
theorem mirrorWrite : Obligations.MirrorWrite := by
  intro s
  refine ⟨fun h => ⟨fun hc => ?_, fun hc => ?_⟩, fun h => ?_⟩ <;>
    simp only [exec, execMirrorWrite, serveMirrorWrite, State.isServing]
  · simp [h, hc, State.isOffline, State.setHold]
  · simp [h, hc, State.isOffline, State.setHold]
  · simp [h]

end Sys2Proof.Machine
end

-- ==== Proofs: what the operations of a channel make of it ====
section
/-! What each operation of Machine/Playback.lean makes of the channel it is about, as a function of that channel alone, and that
it leaves every other channel as it is. -/

namespace Sys2Proof.Machine

/-! ### Frames by accessor -/

@[simp] theorem notify_channel (s : State) (p : PortId) (n : Notice) (d : ChannelId) : (notify p n s).channel d = s.channel d := by
  simp [State.channel]
@[simp] theorem notifyBound_channel (s : State) (c : ChannelId) (n : Notice) (d : ChannelId) :
    (notifyBound c n s).channel d = s.channel d := by
  simp [State.channel]
@[simp] theorem notifyControl_channel (s : State) (n : Notice) (d : ChannelId) : (notifyControl n s).channel d = s.channel d := by
  simp [State.channel]
@[simp] theorem reply_channel (s : State) (p : PortId) (code : ReplyCode) (fields : List Field) (d : ChannelId) :
    (reply p code fields s).channel d = s.channel d := by
  simp [State.channel]
@[simp] theorem grantJob_channel (s : State) (d : ChannelId) : (grantJob s).channel d = s.channel d := by
  simp [State.channel]
@[simp] theorem finishJob_channel (s : State) (d : ChannelId) : (finishJob s).channel d = s.channel d := by
  simp [State.channel]
@[simp] theorem grantAll_channel (s : State) (d : ChannelId) : (grantAll s).channel d = s.channel d := by
  simp [State.channel]
@[simp] theorem forgetRequest_channel (s : State) (c : ChannelId) (b : BufferId) (d : ChannelId) :
    (forgetRequest c b s).channel d = s.channel d := rfl
@[simp] theorem setStore_channel' (s : State) (r : StoreReader) (d : ChannelId) : (s.setStore r).channel d = s.channel d := rfl

/-! ### What a channel is made of -/

/-- What becomes of a buffer that its channel discards, beside the block requests given: it drains where a slot serves its request (R80, R116). -/
def drainBuffer (requests : List BlockRequest) (c : ChannelId) (b : BufferId) : Buffer → Buffer
  | .inFlight _ => if requests.any fun r => r.isOf c b && r.active then .draining else .free
  | .draining => .draining
  | _ => .free

/-- A channel that has discarded its buffers (R80, R116). -/
def Channel.drained (requests : List BlockRequest) (c : ChannelId) (ch : Channel) : Channel :=
  { ch with buffers := Vector.ofFn fun b => drainBuffer requests c b (ch.buffer b) }

/-- A channel without its message, its runs and the answer of a resolution in flight (R94, R127). -/
def Channel.dropped (ch : Channel) : Channel := { ch.dropMessage with runs := [], job := ch.job.map ChannelJob.discarded }

/-- A channel whose cue is over, with a disengage due (R83). -/
def Channel.cueOver (ch : Channel) : Channel := { ch.dropped with current := none, disengageDue := true }

/-- The state in which a channel goes on without a cue (R84). -/
def Channel.nextState (ch : Channel) : ChannelState :=
  match ch.state with
  | .running => if ch.queue = [] then .idle else .running
  | .halting => .halted
  | .stopping => .stopped
  | x => x

/-- A channel that has gone on without a cue (R84). -/
def Channel.wentOn (ch : Channel) : Channel := { ch with state := ch.nextState }

section DropMessage
variable (ch : Channel)

@[simp] theorem dropMessage_state : ch.dropMessage.state = ch.state := by unfold Channel.dropMessage; split <;> rfl
@[simp] theorem dropMessage_port : ch.dropMessage.port = ch.port := by unfold Channel.dropMessage; split <;> rfl
@[simp] theorem dropMessage_queue : ch.dropMessage.queue = ch.queue := by unfold Channel.dropMessage; split <;> rfl
@[simp] theorem dropMessage_current : ch.dropMessage.current = ch.current := by unfold Channel.dropMessage; split <;> rfl
@[simp] theorem dropMessage_runs : ch.dropMessage.runs = ch.runs := by unfold Channel.dropMessage; split <;> rfl
@[simp] theorem dropMessage_buffers : ch.dropMessage.buffers = ch.buffers := by unfold Channel.dropMessage; split <;> rfl
@[simp] theorem dropMessage_job : ch.dropMessage.job = ch.job := by unfold Channel.dropMessage; split <;> rfl
@[simp] theorem dropMessage_disengageDue : ch.dropMessage.disengageDue = ch.disengageDue := by
  unfold Channel.dropMessage; split <;> rfl
@[simp] theorem dropMessage_message : ch.dropMessage.message = none := by
  unfold Channel.dropMessage
  split
  · next h => exact h
  · rfl

/-- A dropped message lets the pending lane setting, if there is one, take effect (R99). -/
theorem dropMessage_lanes : ch.dropMessage.lanes = ch.lanes ∨ ch.pendingLanes = some ch.dropMessage.lanes := by
  unfold Channel.dropMessage
  split
  · exact .inl rfl
  · simp only [Channel.boundary]
    cases ch.pendingLanes <;> simp

theorem dropMessage_pendingLanes : ch.dropMessage.pendingLanes = ch.pendingLanes ∨ ch.dropMessage.pendingLanes = none := by
  unfold Channel.dropMessage
  split
  · exact .inl rfl
  · exact .inr rfl

end DropMessage

section Dropped
variable (ch : Channel)

@[simp] theorem dropped_state : ch.dropped.state = ch.state := dropMessage_state ch
@[simp] theorem dropped_port : ch.dropped.port = ch.port := dropMessage_port ch
@[simp] theorem dropped_queue : ch.dropped.queue = ch.queue := dropMessage_queue ch
@[simp] theorem dropped_current : ch.dropped.current = ch.current := dropMessage_current ch
@[simp] theorem dropped_runs : ch.dropped.runs = [] := rfl
@[simp] theorem dropped_buffers : ch.dropped.buffers = ch.buffers := dropMessage_buffers ch
@[simp] theorem dropped_message : ch.dropped.message = none := dropMessage_message ch
@[simp] theorem dropped_job : ch.dropped.job = ch.job.map ChannelJob.discarded := rfl
@[simp] theorem dropped_disengageDue : ch.dropped.disengageDue = ch.disengageDue := dropMessage_disengageDue ch
@[simp] theorem dropped_lanes : ch.dropped.lanes = ch.dropMessage.lanes := rfl
@[simp] theorem dropped_pendingLanes : ch.dropped.pendingLanes = ch.dropMessage.pendingLanes := rfl

@[simp] theorem cueOver_state : ch.cueOver.state = ch.state := dropMessage_state ch
@[simp] theorem cueOver_port : ch.cueOver.port = ch.port := dropMessage_port ch
@[simp] theorem cueOver_queue : ch.cueOver.queue = ch.queue := dropMessage_queue ch
@[simp] theorem cueOver_current : ch.cueOver.current = none := rfl
@[simp] theorem cueOver_runs : ch.cueOver.runs = [] := rfl
@[simp] theorem cueOver_buffers : ch.cueOver.buffers = ch.buffers := dropMessage_buffers ch
@[simp] theorem cueOver_message : ch.cueOver.message = none := dropMessage_message ch
@[simp] theorem cueOver_job : ch.cueOver.job = ch.job.map ChannelJob.discarded := rfl
@[simp] theorem cueOver_disengageDue : ch.cueOver.disengageDue = true := rfl
@[simp] theorem cueOver_lanes : ch.cueOver.lanes = ch.dropMessage.lanes := rfl
@[simp] theorem cueOver_pendingLanes : ch.cueOver.pendingLanes = ch.dropMessage.pendingLanes := rfl

end Dropped

section Drained
variable (requests : List BlockRequest) (c : ChannelId) (ch : Channel)

@[simp] theorem drained_state : (ch.drained requests c).state = ch.state := rfl
@[simp] theorem drained_port : (ch.drained requests c).port = ch.port := rfl
@[simp] theorem drained_queue : (ch.drained requests c).queue = ch.queue := rfl
@[simp] theorem drained_current : (ch.drained requests c).current = ch.current := rfl
@[simp] theorem drained_runs : (ch.drained requests c).runs = ch.runs := rfl
@[simp] theorem drained_message : (ch.drained requests c).message = ch.message := rfl
@[simp] theorem drained_job : (ch.drained requests c).job = ch.job := rfl
@[simp] theorem drained_disengageDue : (ch.drained requests c).disengageDue = ch.disengageDue := rfl
@[simp] theorem drained_cutoff : (ch.drained requests c).cutoff = ch.cutoff := rfl
@[simp] theorem drained_buffer (b : BufferId) :
    (ch.drained requests c).buffer b = drainBuffer requests c b (ch.buffer b) := by
  simp [Channel.drained, Channel.buffer]

end Drained

/-! ### The operations -/

section Operations
variable (s : State) (c d : ChannelId)

/-- A request that is withdrawn, or marked abandoned, serves a buffer exactly where an active request did (R80, R116). -/
theorem any_marked (requests : List BlockRequest) (b : BufferId) :
    ((requests.filter fun r => !(decide (r.channel = c) && !r.active)).map
      fun r => if r.channel = c then { r with abandoned := true } else r).any (fun r => r.isOf c b) =
      requests.any fun r => r.isOf c b && r.active := by
  induction requests with
  | nil => rfl
  | cons r rest ih =>
    by_cases hc : r.channel = c <;> cases ha : r.active <;> simp_all [BlockRequest.isOf]

theorem discardBuffers_channel :
    (discardBuffers c s).channel d = if d = c then (s.channel c).drained s.store.requests c else s.channel d := by
  simp only [discardBuffers, channel_setChannel, any_marked]
  split
  · rfl
  · rfl

theorem letGo_channel :
    (letGo c s).channel d = if d = c then ((s.channel c).drained s.store.requests c).dropped else s.channel d := by
  simp only [letGo, channel_setChannel, discardBuffers_channel, if_true]
  split
  · simp [Channel.dropped]
  · rfl

theorem endCue_of_none (status : CueStatus) (h : (s.channel c).current = none) : endCue c status s = s := by
  simp [endCue, h]

theorem endCue_channel (status : CueStatus) (h : (s.channel c).current.isSome) :
    (endCue c status s).channel d = if d = c then ((s.channel c).drained s.store.requests c).cueOver else s.channel d := by
  obtain ⟨cur, h⟩ := Option.isSome_iff_exists.1 h
  simp only [endCue, h, channel_setChannel, letGo_channel, notifyBound_channel, notifyBound_store, if_true]
  split
  · rfl
  · rfl

theorem enterState_channel (st : ChannelState) :
    (enterState c st s).channel d = if d = c then { s.channel c with state := st } else s.channel d := channel_setChannel ..

/-- A channel that goes on to the state it is in stays as it is. -/
theorem wentOn_of_nextState {ch : Channel} (h : ch.nextState = ch.state) : ch.wentOn = ch := by rw [Channel.wentOn, h]

theorem goOn_channel : (goOn c s).channel d = if d = c then (s.channel c).wentOn else s.channel d := by
  cases h : (s.channel c).state with
  | running =>
    by_cases hq : (s.channel c).queue = []
    · simp [goOn, Channel.wentOn, Channel.nextState, h, hq, enterState_channel]
    · have hw : (s.channel c).wentOn = s.channel c := 
        wentOn_of_nextState (by simp [Channel.nextState, h, hq])
      simp only [goOn, h, hq, if_false, hw]
      split
      · next e => rw [e]
      · rfl
  | halting => simp [goOn, Channel.wentOn, Channel.nextState, h, enterState_channel]
  | stopping => simp [goOn, Channel.wentOn, Channel.nextState, h, enterState_channel]
  | unbound | idle | stopped | halted | cut =>
    have hw : (s.channel c).wentOn = s.channel c := wentOn_of_nextState (by simp [Channel.nextState, h])
    simp only [goOn, h, hw]
    split
    · next e => rw [e]
    · rfl

theorem keepRemainder_channel :
    (keepRemainder c s).channel d =
      if d = c then
        { ((s.channel c).drained s.store.requests c).dropped with
          state := .stopped, current := (s.channel c).current.map fun cur => { cur with crossing := none } }
      else s.channel d := by
  simp only [keepRemainder, channel_setChannel, letGo_channel, if_true, dropped_current, drained_current]
  split <;> rfl

theorem muteCue_channel :
    (muteCue c s).channel d =
      if d = c then
        (({ s.channel c with current := (s.channel c).current.map fun cur => { cur with muted := true } } : Channel).drained
          s.store.requests c).dropped
      else s.channel d := by
  simp only [muteCue, letGo_channel, channel_setChannel, setChannel_store, if_true]
  split <;> rfl

theorem stopCue_channel (h : (s.channel c).current.isSome) :
    (stopCue c s).channel d =
      if d = c then { ((s.channel c).drained s.store.requests c).cueOver with state := .cut } else s.channel d := by
  obtain ⟨cur, e⟩ := Option.isSome_iff_exists.1 h
  simp only [stopCue, e, notifyBound_channel, enterState_channel, endCue_channel s c _ _ h, if_true]
  split <;> rfl

end Operations

end Sys2Proof.Machine
end

-- ==== Proofs: the moves of a channel and its engagement ====
section
/-! What any command does to a channel and the slot that it engages is a sequence of the moves below. The laws of channels and of
engagements (R12, R15, R70, R71, R83, R96) are then kept because each move keeps them. -/

namespace Sys2Proof.Machine

/-- A channel beside the slot that its engagement entry names. -/
def State.view (s : State) (c : ChannelId) : Channel × Option Slot := (s.channel c, s.engagedSlot c)

/-- One move of a channel and its engagement, with what is known where it is made. -/
inductive ChannelMove : Channel × Option Slot → Channel × Option Slot → Prop
  /-- Buffers, the collection wait and the cutoff settings change (R79, R93, R94). -/
  | tended (ch : Channel) (e : Option Slot) (buffers : Vector Buffer 4) (wait : Option Nat) (cutoff : Cutoff)
      (pending : Option Cutoff) :
      ChannelMove (ch, e) ({ ch with buffers := buffers, wait := wait, cutoff := cutoff, pendingCutoff := pending }, e)
  /-- The current cue takes a mark, and stays the cue of its slot (R115, R124, R127). -/
  | noted (ch : Channel) (e : Option Slot) (f : CurrentCue → CurrentCue) (hf : ∀ cur, (f cur).slot = cur.slot) :
      ChannelMove (ch, e) ({ ch with current := ch.current.map f }, e)
  /-- A message of the current cue is assembled (R81). -/
  | assembled (ch : Channel) (e : Option Slot) (m : Message) (wait : Option Nat) (hc : ch.current.isSome)
      (hs : ch.state ≠ .stopped) :
      ChannelMove (ch, e) ({ ch with message := some m, wait := wait }, e)
  /-- A block of a run of the current cue is requested (R79). -/
  | issued (ch : Channel) (e : Option Slot) (buffers : Vector Buffer 4) (runs : List Run) (hc : ch.current.isSome)
      (hs : ch.delivering = true) :
      ChannelMove (ch, e) ({ ch with buffers := buffers, runs := runs }, e)
  /-- Message and runs are let go, and a resolution's answer will be discarded (R94, R127). -/
  | dropped (ch : Channel) (e : Option Slot) : ChannelMove (ch, e) (ch.dropped, e)
  /-- The current cue ends (R83). -/
  | ended (ch : Channel) (e : Option Slot) (hc : ch.current.isSome) : ChannelMove (ch, e) (ch.cueOver, e)
  /-- The current cue ends, and the channel goes on (R84). -/
  | endedOn (ch : Channel) (e : Option Slot) (hc : ch.current.isSome) : ChannelMove (ch, e) (ch.cueOver.wentOn, e)
  /-- The current cue ends, and the channel is CUT (R128). -/
  | endedCut (ch : Channel) (e : Option Slot) (hc : ch.current.isSome) :
      ChannelMove (ch, e) ({ ch.cueOver with state := .cut }, e)
  /-- The channel stops with its cue as remainder (R86, R94). -/
  | remainderKept (ch : Channel) (e : Option Slot) (f : CurrentCue → CurrentCue) (hf : ∀ cur, (f cur).slot = cur.slot)
      (hc : ch.current.isSome) :
      ChannelMove (ch, e) ({ ch.dropped with state := .stopped, current := ch.current.map f }, e)
  /-- STOPPING ends without a cue (R86). -/
  | stoppedEmpty (ch : Channel) (e : Option Slot) (hs : ch.state = .stopping) (hc : ch.current = none) :
      ChannelMove (ch, e) (ch.wentOn, e)
  /-- A disengage that is due is presented (R15). -/
  | presentedDisengage (ch : Channel) (e : Option Slot) (hd : ch.disengageDue = true) (hj : ch.job = none) :
      ChannelMove (ch, e) ({ ch with job := some .disengage, disengageDue := false }, e)
  /-- A start resolution is presented (R76). -/
  | presentedStart (ch : Channel) (e : Option Slot) (cue : Cue) (role : Role) (ignore : Bool) (hd : ch.disengageDue = false)
      (hj : ch.job = none) (hc : ch.current = none) (hs : ch.state = .running) :
      ChannelMove (ch, e) ({ ch with job := some (.start cue role ignore false), disengageDue := false }, e)
  /-- A segment resolution is presented (R77). -/
  | presentedSegment (ch : Channel) (e : Option Slot) (frame stop : Nat) (hd : ch.disengageDue = false) (hj : ch.job = none)
      (hc : ch.current.isSome) (hs : ch.delivering = true) :
      ChannelMove (ch, e) ({ ch with job := some (.segment frame stop false), disengageDue := false }, e)
  /-- A start resolution is refused, its cue is skipped, and the channel goes on (R76, R84). -/
  | skipped (ch : Channel) (e : Option Slot) (cue : Cue) (role : Role) (ignore : Bool)
      (hj : ch.job = some (.start cue role ignore false)) :
      ChannelMove (ch, e) (({ ch with job := none, queue := ch.queue.tail } : Channel).wentOn, e)
  /-- The refusal of a start resolution is discarded (R87). -/
  | startDiscarded (ch : Channel) (e : Option Slot) (hj : ch.job.any ChannelJob.isStart = true) :
      ChannelMove (ch, e) ({ ch with job := none }, e)
  /-- The grant of a start resolution is discarded, and a disengage is due (R87). -/
  | grantDiscarded (ch : Channel) (e : Option Slot) (slot : Slot) (hj : ch.job.any ChannelJob.isStart = true) :
      ChannelMove (ch, e) ({ ch with job := none, disengageDue := true }, some slot)
  /-- A start resolution is granted (R76). -/
  | started (ch : Channel) (e : Option Slot) (cue : Cue) (role : Role) (ignore : Bool) (cur : CurrentCue) (runs : List Run)
      (hj : ch.job = some (.start cue role ignore false)) :
      ChannelMove (ch, e) ({ ch with job := none, queue := ch.queue.tail, current := some cur, runs := runs }, some cur.slot)
  /-- The answer of a segment resolution is discarded (R88). -/
  | segmentDiscarded (ch : Channel) (e : Option Slot) (frame stop : Nat) (discard : Bool)
      (hj : ch.job = some (.segment frame stop discard)) :
      ChannelMove (ch, e) ({ ch with job := none }, e)
  /-- The answer of a segment resolution is a run (R77). -/
  | segmentKept (ch : Channel) (e : Option Slot) (frame stop : Nat) (run : Run)
      (hj : ch.job = some (.segment frame stop false)) :
      ChannelMove (ch, e) ({ ch with job := none, runs := ch.runs ++ [run] }, e)
  /-- A message takes a mark (R78). -/
  | marked (ch : Channel) (e : Option Slot) (f : Message → Message) :
      ChannelMove (ch, e) ({ ch with message := ch.message.map f }, e)
  /-- A disengage is answered (R15). -/
  | disengaged (ch : Channel) (e : Option Slot) (hj : ch.job = some .disengage) : ChannelMove (ch, e) ({ ch with job := none }, none)
  /-- The queue is discarded (R73, R92). -/
  | flushed (ch : Channel) (e : Option Slot) : ChannelMove (ch, e) ({ ch with queue := [] }, e)
  /-- A channel that holds nothing is bound or unbound (R73, R160). -/
  | rebound (ch : Channel) (e : Option Slot) (port : Option PortId) (st : ChannelState) (cutoff : Cutoff) (hc : ch.current = none)
      (hq : ch.queue = []) (hm : ch.message = none) (hr : ch.runs = []) (hj : ∀ j, ch.job = some j → j.discarded = j)
      (hp : port = none ∧ st = .unbound ∨ port.isSome ∧ st = .idle) :
      ChannelMove (ch, e) ({ ch with port := port, state := st, cutoff := cutoff }, e)
  /-- A cue is queued (R75). -/
  | queued (ch : Channel) (e : Option Slot) (cue : Cue) (hp : ch.port.isSome) (hl : ch.queue.length < Config.queueLimit) :
      ChannelMove (ch, e)
        ({ ch with queue := ch.queue ++ [cue], state := if ch.state = .idle then .running else ch.state }, e)
  /-- A delivering channel is to stop, and a resolution's answer will be discarded (R85 to R88). -/
  | toStop (ch : Channel) (e : Option Slot) (hd : ch.delivering = true) :
      ChannelMove (ch, e) ({ ch with state := .stopping, job := ch.job.map ChannelJob.discarded }, e)
  /-- A running channel is to halt (R89). -/
  | toHalt (ch : Channel) (e : Option Slot) (hs : ch.state = .running) : ChannelMove (ch, e) ({ ch with state := .halting }, e)
  /-- A running channel with no cue and no start resolution is halted at once (R89). -/
  | halted (ch : Channel) (e : Option Slot) (hs : ch.state = .running) (hc : ch.current = none) (hj : ch.isStarting = false) :
      ChannelMove (ch, e) ({ ch with state := .halted }, e)
  /-- A channel resumes (R90). -/
  | resumed (ch : Channel) (e : Option Slot) (hs : ch.state = .stopped ∨ ch.state = .halted) :
      ChannelMove (ch, e)
        ({ ch with state := if ch.current.isSome || !ch.queue.isEmpty then .running else .idle }, e)
  /-- A cut is cleared (R91). -/
  | cutCleared (ch : Channel) (e : Option Slot) (hs : ch.state = .cut) : ChannelMove (ch, e) ({ ch with state := .stopped }, e)
  /-- A legal lane setting is taken (R98). -/
  | lanesTaken (ch : Channel) (e : Option Slot) (lanes : LaneSetting) (hl : lanes.legal) : ChannelMove (ch, e) (ch.takeLanes lanes, e)
  /-- The message has been sent (R82). -/
  | sent (ch : Channel) (e : Option Slot) (m : Message) : ChannelMove (ch, e) (ch.messageSent m, e)

/-! ### Each move keeps the agreement of engagements -/

@[simp] theorem discarded_isStart (j : ChannelJob) : j.discarded.isStart = j.isStart := by cases j <;> rfl
@[simp] theorem discarded_isResolution (j : ChannelJob) : j.discarded.isResolution = j.isResolution := by cases j <;> rfl
@[simp] theorem discarded_discarded (j : ChannelJob) : j.discarded.discarded = j.discarded := by cases j <;> rfl
@[simp] theorem discarded_eq_disengage (j : ChannelJob) : j.discarded = .disengage ↔ j = .disengage := by
  cases j <;> simp [ChannelJob.discarded]

@[simp] theorem map_discarded_eq_disengage (j : Option ChannelJob) :
    j.map ChannelJob.discarded = some .disengage ↔ j = some .disengage := by
  cases j <;> simp

@[simp] theorem map_discarded_isStart (j : Option ChannelJob) :
    (j.map ChannelJob.discarded).any ChannelJob.isStart = j.any ChannelJob.isStart := by
  cases j <;> simp

@[simp] theorem takeLanes_current (ch : Channel) (l : LaneSetting) : (ch.takeLanes l).current = ch.current := by
  unfold Channel.takeLanes; split <;> rfl
@[simp] theorem takeLanes_job (ch : Channel) (l : LaneSetting) : (ch.takeLanes l).job = ch.job := by
  unfold Channel.takeLanes; split <;> rfl
@[simp] theorem takeLanes_disengageDue (ch : Channel) (l : LaneSetting) : (ch.takeLanes l).disengageDue = ch.disengageDue := by
  unfold Channel.takeLanes; split <;> rfl

/-- The agreement of engagements rests on the current cue, the job, the disengage that is due and the entry alone. -/
theorem engagesWell_congr {ch ch' : Channel} {e : Option Slot} (h : ch.engagesWell e) (hc : ch'.current = ch.current)
    (hj : ch'.job = ch.job) (hd : ch'.disengageDue = ch.disengageDue) : ch'.engagesWell e := by
  simpa only [Channel.engagesWell, hc, hj, hd] using h

/-- A cue that stays the cue of its slot, and a job whose answer may now be discarded, agree with the engagement as before. -/
theorem engagesWell_of_map {ch ch' : Channel} {e : Option Slot} (h : ch.engagesWell e) (f : CurrentCue → CurrentCue)
    (hf : ∀ cur, (f cur).slot = cur.slot) (hc : ch'.current = ch.current.map f)
    (hj : ch'.job = ch.job ∨ ch'.job = ch.job.map ChannelJob.discarded) (hd : ch'.disengageDue = ch.disengageDue) :
    ch'.engagesWell e := by
  obtain ⟨hcur, hnone, hstart⟩ := h
  have hdis : ch'.job = some .disengage ↔ ch.job = some .disengage := by rcases hj with e | e <;> simp [e]
  have hst : ch'.job.any ChannelJob.isStart = ch.job.any ChannelJob.isStart := by rcases hj with e | e <;> simp [e]
  refine ⟨?_, ?_, ?_⟩
  · rw [hc]
    rintro _ hm
    obtain ⟨cur, h, rfl⟩ := Option.map_eq_some_iff.1 hm
    rw [hf, hd, Ne, hdis]
    exact hcur cur h
  · rw [hc, hd, hdis, Option.map_eq_none_iff]; exact hnone
  · rw [hc, hd, hst, Option.map_eq_none_iff]; exact hstart

/-- A cue that is over leaves its engagement with a disengage due. -/
theorem engagesWell_of_over {ch ch' : Channel} {e : Option Slot} (h : ch.engagesWell e) (hcur : ch.current.isSome)
    (hc : ch'.current = none) (hj : ch'.job = ch.job.map ChannelJob.discarded) (hd : ch'.disengageDue = true) :
    ch'.engagesWell e := by
  obtain ⟨-, -, hstart⟩ := h
  refine ⟨by simp [hc], fun _ _ => .inr hd, ?_⟩
  rw [hj, map_discarded_isStart]
  intro hs
  simp [(hstart hs).2.1] at hcur

/-- A move keeps the agreement of engagements. -/
theorem ChannelMove.engagesWell {x y : Channel × Option Slot} (h : ChannelMove x y) (hx : x.1.engagesWell x.2) :
    y.1.engagesWell y.2 := by
  cases h with
  | tended | assembled | issued | stoppedEmpty | marked | flushed | rebound | queued | toHalt | halted | resumed | cutCleared =>
    exact engagesWell_congr hx rfl rfl rfl
  | lanesTaken => exact engagesWell_congr hx (takeLanes_current ..) (takeLanes_job ..) (takeLanes_disengageDue ..)
  | noted ch e f hf => exact engagesWell_of_map hx f hf rfl (.inl rfl) rfl
  | dropped ch e => exact engagesWell_of_map hx id (fun _ => rfl) (by simp) (.inr rfl) (by simp)
  | remainderKept ch e f hf => exact engagesWell_of_map hx f hf rfl (.inr rfl) (by simp)
  | toStop => exact engagesWell_of_map hx id (fun _ => rfl) (by simp) (.inr rfl) rfl
  | sent ch e m => exact engagesWell_of_map hx (·.sentMessage m) (fun _ => rfl) rfl (.inl rfl) rfl
  | ended ch e hc => exact engagesWell_of_over hx hc rfl rfl rfl
  | endedOn ch e hc => exact engagesWell_of_over hx hc rfl rfl rfl
  | endedCut ch e hc => exact engagesWell_of_over hx hc rfl rfl rfl
  | presentedDisengage | presentedStart | presentedSegment | skipped | startDiscarded | grantDiscarded | started
  | segmentDiscarded | segmentKept | disengaged =>
    obtain ⟨hcur, hnone, hstart⟩ := hx
    simp_all [Channel.engagesWell, ChannelJob.isStart, Channel.wentOn]

/-! ### Each move keeps the table of channel states -/

/-- A job is as it would be with its answer discarded, where no answer of a resolution is wanted. -/
theorem discarded_eq_self {j : ChannelJob} (hs : ∀ cue role ignore, j ≠ .start cue role ignore false)
    (hg : ∀ frame stop, j ≠ .segment frame stop false) : j.discarded = j := by
  cases j with
  | start cue role ignore discard => cases discard <;> simp_all [ChannelJob.discarded]
  | segment frame stop discard => cases discard <;> simp_all [ChannelJob.discarded]
  | disengage => rfl

/-- A channel with no cue, message or run, of which no resolution is wanted, is lawful where its queue, binding and lanes are. -/
theorem lawful_of_empty {ch : Channel} (hq : ch.queue.length ≤ Config.queueLimit) (hu : ch.state = .unbound ↔ ch.port = none)
    (he : ch.state = .unbound ∨ ch.state = .idle → ch.queue = []) (hl : ch.lanes.legal)
    (hp : ∀ l, ch.pendingLanes = some l → l.legal) (hc : ch.current = none) (hm : ch.message = none) (hr : ch.runs = [])
    (hj : ∀ j, ch.job = some j → j.discarded = j) : ch.lawful := by
  refine ⟨hq, hu, fun _ => hc, he, hl, hp, fun cue role ignore h => ?_, fun _ => ⟨hm, hr⟩, fun frame stop h => ?_⟩
  · exact absurd (hj _ h) (by simp [ChannelJob.discarded])
  · exact absurd (hj _ h) (by simp [ChannelJob.discarded])

/-- A message that is dropped leaves legal lanes, now and pending. -/
theorem dropMessage_legal {ch : Channel} (hl : ch.lanes.legal) (hp : ∀ l, ch.pendingLanes = some l → l.legal) :
    ch.dropMessage.lanes.legal ∧ ∀ l, ch.dropMessage.pendingLanes = some l → l.legal := by
  constructor
  · rcases dropMessage_lanes ch with h | h
    · rw [h]; exact hl
    · exact hp _ h
  · rcases dropMessage_pendingLanes ch with h | h <;> rw [h]
    · exact hp
    · simp

theorem map_discarded_unwanted {j : Option ChannelJob} : ∀ k, j.map ChannelJob.discarded = some k → k.discarded = k := by
  rintro k h
  obtain ⟨i, -, rfl⟩ := Option.map_eq_some_iff.1 h
  exact discarded_discarded i

theorem delivering_iff {ch : Channel} : ch.delivering = true ↔ ch.state = .running ∨ ch.state = .halting := by
  simp [Channel.delivering]

theorem ne_stopped_of_delivering {ch : Channel} (h : ch.delivering = true) : ch.state ≠ .stopped := by
  rcases delivering_iff.1 h with h | h <;> simp [h]

theorem isStarting_of_job {ch : Channel} {cue : Cue} {role : Role} {ignore discard : Bool}
    (h : ch.job = some (.start cue role ignore discard)) : ch.isStarting = true := by
  simp [Channel.isStarting, h]

/-- A cue that is over leaves its channel lawful in every state that fits its queue and its binding. -/
theorem lawful_of_over {ch ch' : Channel} (h : ch.lawful) (hcur : ch.current.isSome) (hb : ch'.state ≠ .unbound)
    (hi : ch'.state = .idle → ch.queue = []) (e : ch' = { ch.cueOver with state := ch'.state }) : ch'.lawful := by
  obtain ⟨hq, hu, hn, -, hl, hp, -⟩ := h
  obtain ⟨hl', hp'⟩ := dropMessage_legal hl hp
  have hport : ch.port ≠ none := fun hp => by simp [hn (.inl (hu.2 hp))] at hcur
  rw [e]
  refine lawful_of_empty (by simpa using hq) ?_ ?_ hl' hp' rfl (cueOver_message ch) rfl map_discarded_unwanted
  · simp [hb, hport]
  · rintro (h | h)
    · exact absurd h hb
    · simpa using hi h

/-- A channel that goes on without a cue becomes IDLE only with an empty queue. -/
theorem nextState_eq_idle {ch : Channel} (h : ch.nextState = .idle) : ch.queue = [] ∨ ch.state = .idle := by
  unfold Channel.nextState at h
  split at h
  · next hs =>
    split at h
    · next hq => exact .inl hq
    · cases h
  · cases h
  · cases h
  · exact .inr h

/-- A channel that goes on stays bound, or unbound, as it is. -/
theorem nextState_eq_unbound {ch : Channel} : ch.nextState = .unbound ↔ ch.state = .unbound := by
  unfold Channel.nextState
  split
  · next h => rw [h]; split <;> simp
  · next h => simp [h]
  · next h => simp [h]
  · rfl

/-- A lawful channel with no cue, of which no resolution is wanted, may go on. -/
theorem lawful_wentOn {ch : Channel} (h : ch.lawful) (hc : ch.current = none) (hj : ∀ j, ch.job = some j → j.discarded = j) :
    ch.wentOn.lawful := by
  obtain ⟨hq, hu, -, he, hl, hp, -, hm, -⟩ := h
  obtain ⟨hm, hr⟩ := hm (.inl hc)
  refine lawful_of_empty hq (nextState_eq_unbound.trans hu) ?_ hl hp hc hm hr hj
  rintro (h | h)
  · exact he (.inl (nextState_eq_unbound.1 h))
  · exact (nextState_eq_idle h).elim id fun h => he (.inr h)

section MessageSent
variable (ch : Channel) (m : Message)

@[simp] theorem messageSent_state : (ch.messageSent m).state = ch.state := rfl
@[simp] theorem messageSent_port : (ch.messageSent m).port = ch.port := rfl
@[simp] theorem messageSent_queue : (ch.messageSent m).queue = ch.queue := rfl
@[simp] theorem messageSent_current : (ch.messageSent m).current = ch.current.map (·.sentMessage m) := rfl
@[simp] theorem messageSent_message : (ch.messageSent m).message = none := rfl
@[simp] theorem messageSent_job : (ch.messageSent m).job = ch.job := rfl
@[simp] theorem messageSent_delivering : (ch.messageSent m).delivering = ch.delivering := rfl
@[simp] theorem messageSent_lanes : (ch.messageSent m).lanes = ch.pendingLanes.getD ch.lanes := rfl
@[simp] theorem messageSent_pendingLanes : (ch.messageSent m).pendingLanes = none := rfl

/-- A channel with no run has none after its message. -/
theorem messageSent_runs (h : ch.runs = []) : (ch.messageSent m).runs = [] := by
  simp [Channel.messageSent, Channel.boundary, Channel.runsAfter, h]

end MessageSent

/-- A move keeps the table of channel states. -/
theorem ChannelMove.lawful {x y : Channel × Option Slot} (h : ChannelMove x y) (hx : x.1.lawful) : y.1.lawful := by
  obtain ⟨ch, e⟩ := x
  dsimp only at hx
  have hx' := hx
  obtain ⟨hq, hu, hn, he, hl, hp, hs, hm, hg⟩ := hx
  have bound : ch.current.isSome → ch.state ≠ .unbound := fun hc h => by simp [hn (.inl h)] at hc
  cases h with
  | tended => exact hx'
  | ended _ _ hc => exact lawful_of_over hx' hc (by simpa using bound hc) (fun h => he (.inr (by simpa using h))) rfl
  | endedOn _ _ hc =>
    refine lawful_of_over hx' hc (fun h => bound hc (by simpa using nextState_eq_unbound.1 h)) (fun h => ?_) rfl
    exact (nextState_eq_idle h).elim (by simp) fun h => he (.inr (by simpa using h))
  | endedCut _ _ hc => exact lawful_of_over hx' hc (by simp) (by simp) rfl
  | stoppedEmpty _ _ hst hc =>
    refine lawful_wentOn hx' hc fun j hj => discarded_eq_self ?_ ?_
    · rintro cue role ignore rfl; simpa [Channel.delivering, hst] using (hs cue role ignore hj).1
    · rintro frame stop rfl; simpa [Channel.delivering, hst] using (hg frame stop hj).1
  | skipped _ _ cue role ignore hj =>
    obtain ⟨-, hc⟩ := hs cue role ignore hj
    refine lawful_wentOn (ch := { ch with job := none, queue := ch.queue.tail }) ⟨?_, hu, hn, ?_, hl, hp, ?_, hm, ?_⟩ hc ?_
    · simp only [List.length_tail]; omega
    · intro h; simp [he h]
    all_goals simp
  | rebound _ _ port st cutoff hc hq' hm' hr' hj hb =>
    exact lawful_of_empty hq (by rcases hb with ⟨rfl, rfl⟩ | ⟨h, rfl⟩ <;> simp_all [Option.isSome_iff_ne_none]) (fun _ => hq') hl hp hc hm' hr' hj
  | dropped =>
    obtain ⟨hl', hp'⟩ := dropMessage_legal hl hp
    refine ⟨by simpa, by simpa, by simpa, by simpa, hl', hp', fun _ _ _ h => ?_, by simp, fun _ _ h => ?_⟩ <;>
      simpa [ChannelJob.discarded] using map_discarded_unwanted _ h
  | remainderKept _ _ f hf hc =>
    obtain ⟨hl', hp'⟩ := dropMessage_legal hl hp
    refine ⟨by simpa, by simpa [bound hc] using hu, by simp, by simp, hl', hp', fun _ _ _ h => ?_, by simp, fun _ _ h => ?_⟩ <;>
      simpa [ChannelJob.discarded] using map_discarded_unwanted _ h
  | toStop _ _ hd =>
    have hst := delivering_iff.1 hd
    refine ⟨hq, ?_, by simp, by simp, hl, hp, fun _ _ _ h => ?_, fun h => hm (.inl (by simpa using h)), fun _ _ h => ?_⟩
    · rcases hst with h | h <;> simpa [h] using hu
    all_goals simpa [ChannelJob.discarded] using map_discarded_unwanted _ h
  | lanesTaken _ _ lanes h =>
    unfold Channel.takeLanes
    split
    · exact ⟨hq, hu, hn, he, h, by simp, hs, hm, hg⟩
    · exact ⟨hq, hu, hn, he, hl, by simpa using h, hs, hm, hg⟩
  | sent _ _ m =>
    refine ⟨hq, hu, fun h => by simp [hn h], he, ?_, by simp, fun _ _ _ h => by simpa using hs _ _ _ h, fun h => ?_,
      fun _ _ h => by simpa using hg _ _ h⟩
    · cases h : ch.pendingLanes
      · simpa [h] using hl
      · simpa [h] using hp _ h
    · exact ⟨rfl, messageSent_runs ch m (hm (by simpa using h)).2⟩
  | noted _ _ f hf =>
    exact ⟨hq, hu, fun h => by simp [hn h], he, hl, hp, fun _ _ _ h => ⟨(hs _ _ _ h).1, by simp [(hs _ _ _ h).2]⟩,
      fun h => hm (by simpa using h), fun _ _ h => ⟨(hg _ _ h).1, by simpa using (hg _ _ h).2⟩⟩
  | resumed _ _ hst =>
    have hd : ch.delivering = false := by rcases hst with h | h <;> simp [Channel.delivering, h]
    have hb : ch.port ≠ none := fun h => by simp [hu.2 h] at hst
    have hs' : ∀ cue role ignore, ch.job ≠ some (.start cue role ignore false) := fun _ _ _ h => by simpa [hd] using (hs _ _ _ h).1
    have hg' : ∀ frame stop, ch.job ≠ some (.segment frame stop false) := fun _ _ h => by simpa [hd] using (hg _ _ h).1
    have hj : ∀ j, ch.job = some j → j.discarded = j := fun j e =>
      discarded_eq_self (fun _ _ _ h => hs' _ _ _ (h ▸ e)) fun _ _ h => hg' _ _ (h ▸ e)
    by_cases h : ch.current.isSome || !ch.queue.isEmpty
    · exact ⟨hq, by simpa [h] using hb, by simp [h], by simp [h], hl, hp, fun _ _ _ h => absurd h (hs' _ _ _),
        fun h' => hm (.inl (by simpa [h] using h')), fun _ _ h => absurd h (hg' _ _)⟩
    · obtain ⟨hc, hq'⟩ : ch.current = none ∧ ch.queue = [] := by simpa using h
      exact lawful_of_empty hq (by simpa [hc, hq'] using hb) (fun _ => hq') hl hp hc (hm (.inl hc)).1 (hm (.inl hc)).2 hj
  | assembled _ _ m wait hc hst => exact ⟨hq, hu, hn, he, hl, hp, hs, fun h => by simp_all, hg⟩
  | issued _ _ buffers runs hc hd =>
    refine ⟨hq, hu, hn, he, hl, hp, hs, ?_, hg⟩
    rintro (h | h)
    · exact absurd h (Option.isSome_iff_ne_none.1 hc)
    · exact absurd h (ne_stopped_of_delivering hd)
  | presentedDisengage => exact ⟨hq, hu, hn, he, hl, hp, by simp, hm, by simp⟩
  | presentedStart _ _ cue role ignore hd hj hc hst =>
    exact ⟨hq, hu, hn, he, hl, hp, fun _ _ _ _ => ⟨by simp [Channel.delivering, hst], hc⟩, hm, by simp⟩
  | presentedSegment _ _ frame stop hd hj hc hst =>
    exact ⟨hq, hu, hn, he, hl, hp, by simp, hm, fun _ _ _ => ⟨hst, Option.isSome_iff_ne_none.1 hc⟩⟩
  | startDiscarded | grantDiscarded | segmentDiscarded | disengaged => exact ⟨hq, hu, hn, he, hl, hp, by simp, hm, by simp⟩
  | started _ _ cue role ignore cur runs hj =>
    obtain ⟨hd, -⟩ := hs _ _ _ hj
    have hst := delivering_iff.1 hd
    refine ⟨by simp only [List.length_tail]; omega, hu, ?_, ?_, hl, hp, by simp, ?_, by simp⟩ <;> rcases hst with h | h <;> simp [h]
  | segmentKept _ _ frame stop run hj =>
    obtain ⟨hd, hc⟩ := hg _ _ hj
    refine ⟨hq, hu, hn, he, hl, hp, by simp, ?_, by simp⟩
    rintro (h | h)
    · exact absurd h hc
    · exact absurd h (ne_stopped_of_delivering hd)
  | marked _ _ f => exact ⟨hq, hu, hn, he, hl, hp, hs, fun h => by simp [hm h], hg⟩
  | flushed => exact ⟨by simp, hu, hn, fun _ => rfl, hl, hp, hs, hm, hg⟩
  | queued _ _ cue hb hlen =>
    have hub : ch.state ≠ .unbound := fun h => by simp [hu.1 h] at hb
    by_cases hi : ch.state = .idle
    · have hc := hn (.inr (.inl hi))
      refine ⟨by simpa using hlen, ?_, by simp [hc], by simp [hi], hl, hp, ?_, fun _ => hm (.inl hc), ?_⟩
      · simpa [hi] using hu
      · intro _ _ _ h; simpa [Channel.delivering, hi] using (hs _ _ _ h).1
      · intro _ _ h; simpa [Channel.delivering, hi] using (hg _ _ h).1
    · simp only [hi, if_false]
      exact ⟨by simpa using hlen, hu, hn, fun h => absurd h (by simp [hub, hi]), hl, hp, hs, hm, hg⟩
  | toHalt _ _ hst =>
    refine ⟨hq, by simpa [hst] using hu, by simp, by simp, hl, hp, fun _ _ _ h => ⟨rfl, (hs _ _ _ h).2⟩,
      fun h => hm (.inl (by simpa using h)), fun _ _ h => ⟨rfl, (hg _ _ h).2⟩⟩
  | halted _ _ hst hc hj =>
    refine ⟨hq, by simpa [hst] using hu, fun _ => hc, by simp, hl, hp, fun _ _ _ h => ?_, fun _ => hm (.inl hc), fun _ _ h => ?_⟩
    · simp [isStarting_of_job (ch := ch) h] at hj
    · exact absurd hc (hg _ _ h).2
  | cutCleared _ _ hst =>
    have hc := hn (by simp [hst])
    refine ⟨hq, by simpa [hst] using hu, by simp, by simp, hl, hp, fun _ _ _ h => ?_, fun _ => hm (.inl hc), fun _ _ h => ?_⟩
    · simpa [Channel.delivering, hst] using (hs _ _ _ h).1
    · exact absurd hc (hg _ _ h).2

end Sys2Proof.Machine
end

-- ==== Proofs: what every operation keeps ====
section
/-! What every operation but a reply and the answer of a job keeps: each channel and its engagement change by `ChannelMove`s, ports change
by notices and credit alone, and the arbiter is overtaken by nothing. -/

namespace Sys2Proof.Machine

open Relation

/-! ### Channels and engagements -/

/-- Each channel and its engagement come from one state to the other by moves. -/
def Moves (s t : State) : Prop := ∀ c, ReflTransGen ChannelMove (s.view c) (t.view c)

theorem Moves.refl (s : State) : Moves s s := fun _ => .refl

theorem Moves.trans {s t u : State} (h : Moves s t) (g : Moves t u) : Moves s u := fun c => (h c).trans (g c)

/-- Nothing moves where neither the channels nor the engagement table change. -/
theorem Moves.of_eq {s t : State} (hc : t.channels = s.channels) (he : t.engine.engagement = s.engine.engagement) : Moves s t := by
  intro c
  have : t.view c = s.view c := by simp only [State.view, State.channel, State.engagedSlot, hc, he]
  rw [this]

/-- Only one channel moves. -/
theorem Moves.one {s t : State} (c : ChannelId) {x : Channel} (he : t.engine.engagement = s.engine.engagement)
    (hc : ∀ d, t.channel d = if d = c then x else s.channel d)
    (h : ReflTransGen ChannelMove (s.channel c, s.engagedSlot c) (x, s.engagedSlot c)) : Moves s t := by
  intro d
  simp only [State.view, hc, State.engagedSlot, he]
  split
  · next e => rw [e]; exact h
  · exact .refl

/-- A channel and its engagement entry move together. -/
theorem Moves.engage {s t : State} (c : ChannelId) {ch : Channel} {e : Option Slot} (hc : t.channels = (s.setChannel c ch).channels)
    (he : t.engine.engagement = (s.setEngagement c e).engine.engagement)
    (h : ChannelMove (s.channel c, s.engagedSlot c) (ch, e)) : Moves s t := by
  intro d
  have hd : t.view d = ((s.setChannel c ch).channel d, (s.setEngagement c e).engagedSlot d) := by
    simp only [State.view, State.channel, State.engagedSlot, hc, he]
  rw [hd, channel_setChannel, engagedSlot_setEngagement]
  split
  · next e => rw [e]; exact .single h
  · exact .refl

/-- A property that each move keeps holds of every channel after moves. -/
theorem Moves.keeps {P : Channel → Option Slot → Prop} (hP : ∀ x y, ChannelMove x y → P x.1 x.2 → P y.1 y.2) {s t : State}
    (h : Moves s t) (hs : ∀ c, P (s.channel c) (s.engagedSlot c)) : ∀ c, P (t.channel c) (t.engagedSlot c) := fun c =>
  (h c).rec (motive := fun y _ => P y.1 y.2) (hs c) fun _ m ih => hP _ _ m ih

/-! ### Ports -/

/-- A port whose service and replies are as they were, and that has at most been sent notices, or lost some (R158, R165). -/
structure Port.Notified (q q' : Port) : Prop where
  service : q'.service = q.service
  replies : q'.replies = q.replies
  notices : q.notices <+: q'.notices
  lost : q.noticesLost = true → q'.noticesLost = true

theorem Port.Notified.refl (q : Port) : q.Notified q := ⟨rfl, rfl, List.prefix_rfl, id⟩

theorem Port.Notified.trans {q q' q'' : Port} (h : q.Notified q') (g : q'.Notified q'') : q.Notified q'' :=
  ⟨g.service.trans h.service, g.replies.trans h.replies, h.notices.trans g.notices,
    g.lost ∘ h.lost⟩

/-- Every port has at most been sent notices, or lost some. -/
def Notified (s t : State) : Prop := ∀ q, (s.port q).Notified (t.port q)

theorem Notified.refl (s : State) : Notified s s := fun _ => .refl _

theorem Notified.trans {s t u : State} (h : Notified s t) (g : Notified t u) : Notified s u := fun q => (h q).trans (g q)

theorem Notified.of_eq {s t : State} (h : t.ports = s.ports) : Notified s t := fun q => by
  have : t.port q = s.port q := by simp only [State.port, h]
  rw [this]; exact .refl _

/-- A notice that has reached a port stays reached. -/
theorem Notified.reached {s t : State} (h : Notified s t) {n : Notice} {p : PortId} (hr : Reached n p s) : Reached n p t :=
  hr.imp (fun hn => (h p).notices.subset hn) (h p).lost

theorem notify_notified (s : State) (p : PortId) (n : Notice) : Notified s (notify p n s) := by
  intro q
  unfold notify
  dsimp only
  split
  · rw [port_setPort]
    split
    · next e => subst e; exact ⟨rfl, rfl, List.prefix_append _ _, id⟩
    · exact .refl _
  · have : ∀ t, (raiseCause .noticeOverflow t).port q = t.port q := fun t => by simp [State.port]
    rw [this, port_setPort]
    split
    · next e => subst e; exact ⟨rfl, rfl, List.prefix_rfl, fun _ => rfl⟩
    · exact .refl _

/-- A notice that is sent reaches its port (R165). -/
theorem notify_reached (s : State) (p : PortId) (n : Notice) : Reached n p (notify p n s) := by
  unfold notify Reached
  dsimp only
  split
  · simp
  · have : ∀ t, (raiseCause .noticeOverflow t).port p = t.port p := fun t => by simp [State.port]
    simp [this]

theorem notifyBound_notified (s : State) (c : ChannelId) (n : Notice) : Notified s (notifyBound c n s) := by
  unfold notifyBound
  split
  · exact notify_notified s _ n
  · exact .refl s

theorem notifyBound_reached (s : State) (c : ChannelId) (n : Notice) (p : PortId) (h : (s.channel c).port = some p) :
    Reached n p (notifyBound c n s) := by
  simp only [notifyBound, h]
  exact notify_reached s p n

theorem notifyControl_notified (s : State) (n : Notice) : Notified s (notifyControl n s) :=
  foldl_keeps (P := Notified s) _ (fun t p h => by
    split
    · exact h.trans (notify_notified t p n)
    · exact h) _ _ (.refl s)

/-! ### The arbiter -/

/-- What an operation that ends no job at the engine keeps of the arbiter (R14): no job vanishes, a granted job is not overtaken, and the
arbiter's law holds on. -/
structure Presents (s t : State) : Prop where
  starting : t.starting = s.starting
  waits : ∀ n, s.waitsAt n = true → t.waitsAt n = true
  serving : s.arbiter.serving ≠ none → t.arbiter = s.arbiter
  law : ArbiterLaw s → ArbiterLaw t

theorem Presents.refl (s : State) : Presents s s := ⟨rfl, fun _ => id, fun _ => rfl, id⟩

theorem Presents.trans {s t u : State} (h : Presents s t) (g : Presents t u) : Presents s u :=
  ⟨g.starting.trans h.starting, fun n hn => g.waits n (h.waits n hn),
    fun hs => (g.serving (by rw [h.serving hs]; exact hs)).trans (h.serving hs), g.law ∘ h.law⟩

theorem starting_congr {s t : State} (h : t.engine.condition = s.engine.condition) : t.starting = s.starting := by
  simp only [State.starting, State.inWalk, State.inFormat, h]

/-- Where the same jobs wait and the arbiter is as it was, its law holds on. -/
theorem Presents.of_eq {s t : State} (he : t.engine.condition = s.engine.condition) (ha : t.arbiter = s.arbiter)
    (hw : ∀ n, t.waitsAt n = s.waitsAt n) : Presents s t := by
  refine ⟨starting_congr he, fun n hn => (hw n).trans hn, fun _ => ha, fun h => ?_⟩
  simpa only [ArbiterLaw, starting_congr he, ha, hw] using h

/-- Where jobs are presented and the free engine takes the next one, the arbiter's law holds on. -/
theorem Presents.grant {s u : State} (he : u.engine.condition = s.engine.condition) (ha : u.arbiter = s.arbiter)
    (hw : ∀ n, s.waitsAt n = true → u.waitsAt n = true) : Presents s (grantJob u) := by
  have hst : u.starting = s.starting := starting_congr he
  have hg : ∀ n, (grantJob u).waitsAt n = u.waitsAt n := fun n => by
    simp only [State.waitsAt, State.portWaits, State.port, State.channel, grantJob_ports, grantJob_channels, grantJob_hold]
  refine ⟨(starting_congr (by simp)).trans hst, fun n hn => (hg n).trans (hw n hn), fun hs => ?_, fun h => ?_⟩
  · rcases grantJob_cases u with ⟨e, -⟩ | ⟨n, -, hn, -⟩
    · rw [e, ha]
    · exact absurd (ha ▸ hn) hs
  · refine arbiterLaw_grantJob u (fun h' => ha ▸ h.1 (hst ▸ h')) fun h' n hn => ?_
    obtain ⟨hwait, hlast⟩ := (h.2 (hst ▸ h')).1 n (ha ▸ hn)
    exact ⟨hw n hwait, ha ▸ hlast⟩

/-- Whether a job waits at a position rests on the services of the ports, the jobs of the channels and the mirror write. -/
theorem waitsAt_eq {s t : State} (hp : ∀ q, (t.port q).service = (s.port q).service)
    (hc : ∀ c, (t.channel c).job.isSome = (s.channel c).job.isSome) (hm : t.hold.mirrorWaiting = s.hold.mirrorWaiting) (n : Nat) :
    t.waitsAt n = s.waitsAt n := by
  simp only [State.waitsAt, State.portWaits, hp, hc, hm]

/-- A job waits wherever one waited where a channel has a job if it had one. -/
theorem waitsAt_setChannel (s : State) (c : ChannelId) {x : Channel} (h : (s.channel c).job.isSome = true → x.job.isSome = true)
    (n : Nat) (hn : s.waitsAt n = true) : (s.setChannel c x).waitsAt n = true := by
  unfold State.waitsAt at hn ⊢
  split
  · next hp => rw [dif_pos hp] at hn; exact hn
  · next hp =>
    split
    · next hc =>
      rw [channel_setChannel]
      simp only [hp, hc, dite_true, dite_false] at hn
      split
      · next e => exact h (e ▸ hn)
      · exact hn
    · next hc => rw [dif_neg hp, dif_neg hc] at hn; exact hn

/-! ### The three together -/

/-- What every operation but a reply and the answer of a job keeps. -/
structure Plays (s t : State) : Prop where
  moves : Moves s t
  notified : Notified s t
  presents : Presents s t

theorem Plays.refl (s : State) : Plays s s := ⟨.refl s, .refl s, .refl s⟩

theorem Plays.trans {s t u : State} (h : Plays s t) (g : Plays t u) : Plays s u :=
  ⟨h.moves.trans g.moves, h.notified.trans g.notified, h.presents.trans g.presents⟩

/-- Moves and notices that leave the jobs and the arbiter as they are. -/
theorem Plays.keep {s t : State} (hm : Moves s t) (hn : Notified s t) (hj : ∀ c, (t.channel c).job.isSome = (s.channel c).job.isSome)
    (he : t.engine.condition = s.engine.condition := by simp) (ha : t.arbiter = s.arbiter := by simp)
    (hh : t.hold.mirrorWaiting = s.hold.mirrorWaiting := by simp) : Plays s t :=
  ⟨hm, hn, .of_eq he ha (waitsAt_eq (fun q => (hn q).service) hj hh)⟩

/-- An operation on other blocks. -/
theorem Plays.of_eq {s t : State} (hn : Notified s t) (hc : t.channels = s.channels := by simp)
    (hg : t.engine.engagement = s.engine.engagement := by simp) (he : t.engine.condition = s.engine.condition := by simp)
    (ha : t.arbiter = s.arbiter := by simp) (hh : t.hold.mirrorWaiting = s.hold.mirrorWaiting := by simp) : Plays s t :=
  .keep (.of_eq hc hg) hn (fun c => by simp only [State.channel, hc]) he ha hh

/-- Only one channel moves, and has a job where it had one. -/
theorem Plays.one {s t : State} (c : ChannelId) {x : Channel} (hc : ∀ d, t.channel d = if d = c then x else s.channel d)
    (h : ReflTransGen ChannelMove (s.channel c, s.engagedSlot c) (x, s.engagedSlot c)) (hn : Notified s t)
    (hj : x.job.isSome = (s.channel c).job.isSome := by simp) (he : t.engine = s.engine := by simp)
    (ha : t.arbiter = s.arbiter := by simp) (hh : t.hold = s.hold := by simp) : Plays s t := by
  refine .keep (.one c (by rw [he]) hc h) hn (fun d => ?_) (by rw [he]) ha (by rw [hh])
  rw [hc]
  split
  · next e => rw [e, hj]
  · rfl

/-- A channel is replaced by what a move makes of it. -/
theorem Plays.set (s : State) (c : ChannelId) {x : Channel} (h : ChannelMove (s.channel c, s.engagedSlot c) (x, s.engagedSlot c))
    (hj : x.job.isSome = (s.channel c).job.isSome := by simp) : Plays s (s.setChannel c x) :=
  .one c (fun d => channel_setChannel s c d x) (.single h) (.of_eq rfl) hj rfl rfl rfl

/-! ### Shared operations -/

section Shared
variable (s : State) (c : ChannelId)

theorem notify_plays (p : PortId) (n : Notice) : Plays s (notify p n s) := .of_eq (notify_notified s p n)
theorem notifyBound_plays (n : Notice) : Plays s (notifyBound c n s) := .of_eq (notifyBound_notified s c n)
theorem notifyControl_plays (n : Notice) : Plays s (notifyControl n s) := .of_eq (notifyControl_notified s n)
theorem raiseCause_plays (k : Cause) : Plays s (raiseCause k s) := .of_eq (.of_eq (by simp))
theorem alarmEvent_plays (d : FaultDetail) : Plays s (alarmEvent d s) := .of_eq (.of_eq (by simp))
theorem grantAll_plays : Plays s (grantAll s) := .of_eq (.of_eq (by simp))
theorem freeOrder_plays {α : Type} (rank : α → Nat) (l : List α) : Plays s (freeOrder rank l s).2 := .of_eq (.of_eq (by simp))

theorem flagFaulted_plays (x : Slot) : Plays s (flagFaulted x s) := .of_eq (.of_eq rfl) rfl rfl rfl rfl rfl

theorem walkLinkedFault_plays (x : Slot) : Plays s (walkLinkedFault x s) := .of_eq (.of_eq rfl) rfl rfl rfl rfl rfl

theorem recordFault_plays (who : Requester) (part : RecordPart) (x : Slot) : Plays s (recordFault who part x s) :=
  (flagFaulted_plays s x).trans ((alarmEvent_plays _ _).trans (notifyControl_plays _ _))

theorem noteRepairs_plays (n : Nat) : Plays s (noteRepairs n s) := by
  unfold noteRepairs
  split
  · exact .of_eq (.of_eq rfl) rfl rfl rfl rfl rfl
  · exact raiseCause_plays s _

theorem writeRecord_plays (x : Slot) (r : Record) : Plays s (s.writeRecord x r) := .of_eq (.of_eq rfl)

end Shared

/-! ### Playback -/

section Playback
variable (s : State) (c : ChannelId)

theorem withBuffer_plays (b : BufferId) (x : Buffer) : Plays s (s.setChannel c ((s.channel c).withBuffer b x)) :=
  .set s c (.tended _ _ _ _ _ _) rfl

theorem forgetRequest_plays (b : BufferId) : Plays s (forgetRequest c b s) := .of_eq (.of_eq rfl)

theorem setStore_plays (r : StoreReader) : Plays s (s.setStore r) := .of_eq (.of_eq rfl)

theorem drained_move (ch : Channel) (e : Option Slot) (requests : List BlockRequest) : ChannelMove (ch, e) (ch.drained requests c, e) :=
  .tended ch e _ _ _ _

theorem endMissing_plays (b : BufferId) : Plays s (endMissing c b s) := by
  unfold endMissing
  exact (forgetRequest_plays s c b).trans (withBuffer_plays _ c b _)

theorem endData_plays (b : BufferId) (data : List Byte) : Plays s (endData c b data s) := by
  unfold endData
  split
  · exact (forgetRequest_plays s c b).trans (withBuffer_plays _ c b _)
  · exact endMissing_plays s c b

theorem noteConcealed_plays : Plays s (s.setChannel c (s.channel c).noteConcealed) :=
  .set s c (.noted _ _ (fun cur => { cur with concealNoticed := true }) fun _ => rfl) rfl

theorem endConcealed_plays (b : BufferId) (block : Nat) (failure : Failure) : Plays s (endConcealed c b block failure s) := by
  unfold endConcealed
  split
  · next place _ =>
    have h : Plays s ((forgetRequest c b s).setChannel c (((forgetRequest c b s).channel c).withBuffer b (.concealed place))) :=
      (forgetRequest_plays s c b).trans (withBuffer_plays _ c b _)
    dsimp only
    split
    · split
      · exact h
      · exact h.trans ((noteConcealed_plays _ c).trans (notifyBound_plays _ c _))
    · exact h
  · exact endMissing_plays s c b

theorem failAttempt_plays (b : BufferId) (failure : Failure) : Plays s (failAttempt c b failure s) := by
  unfold failAttempt
  split
  · exact .refl s
  · split
    · exact endMissing_plays s c b
    · split
      · exact setStore_plays s _
      · exact endConcealed_plays s c b _ _

theorem releaseBuffers_plays : Plays s (releaseBuffers c s) := by
  unfold releaseBuffers
  dsimp only
  split
  · exact .refl s
  · exact .set s c (.tended _ _ _ _ _ _) rfl

/-- A message is assembled in RUNNING, HALTING and STOPPING alone (R71, R81). -/
theorem nextMessage_state {ch : Channel} {cur : CurrentCue} {kinds : List FrameKind} (h : nextMessage ch cur = some kinds) :
    ch.delivering = true ∨ ch.state = .stopping := by
  unfold nextMessage at h
  dsimp only at h
  split at h
  · cases h
  · split at h
    · next g => simp at g; exact g.1
    · split at h
      · next g => simp at g; exact .inr g.1
      · cases h

theorem assemble_plays : Plays s (assemble c s) := by
  unfold assemble
  dsimp only
  split
  · next cur hc _ =>
    split
    · next kinds hk =>
      refine .set s c (.assembled _ _ _ _ (by simp [hc]) ?_) rfl
      rcases nextMessage_state hk with h | h
      · exact ne_stopped_of_delivering h
      · simp [h]
    · exact .refl s
  · exact .refl s

theorem issueOne_plays : Plays s (issueOne c s) := by
  unfold issueOne
  dsimp only
  split
  · next cur b hc hb =>
    split
    · exact .refl s
    · next hd =>
      split
      · split
        · exact .refl s
        · split
          · exact .refl s
          · exact (setStore_plays s _).trans
              (.set _ c (.issued (s.channel c) _ _ _ (by simp [hc]) (by simpa using hd)) rfl)
      · exact .refl s
  · exact .refl s

theorem issueAll_plays : Plays s (issueAll c s) :=
  (((issueOne_plays s c).trans (issueOne_plays _ c)).trans (issueOne_plays _ c)).trans (issueOne_plays _ c)

theorem endCue_notified (status : CueStatus) : Notified s (endCue c status s) := by
  unfold endCue
  split
  · exact .refl s
  · next cur _ =>
    exact (notifyBound_notified s c (.cueEnded cur.tag status cur.delivered cur.gap cur.concealed)).trans (.of_eq (by simp))

theorem goOn_notified : Notified s (goOn c s) := by
  unfold goOn
  split
  · split
    · exact .of_eq rfl
    · exact .refl s
  · exact (Notified.of_eq rfl).trans (notifyBound_notified (enterState c .halted s) c _)
  · exact (Notified.of_eq rfl).trans (notifyBound_notified (enterState c .stopped s) c _)
  · exact .refl s

theorem stopCue_notified : Notified s (stopCue c s) := by
  unfold stopCue
  split
  · exact .refl s
  · exact (endCue_notified s c _).trans ((Notified.of_eq rfl).trans (notifyBound_notified (enterState c .cut (endCue c .cut s)) c _))

theorem letGo_plays : Plays s (letGo c s) :=
  .one c (letGo_channel s c) (.tail (.single (drained_move c _ _ _)) (.dropped _ _)) (.of_eq (by simp))

theorem endCue_plays (status : CueStatus) : Plays s (endCue c status s) := by
  cases h : (s.channel c).current with
  | none => rw [endCue_of_none s c status h]; exact .refl s
  | some cur =>
    have h : (s.channel c).current.isSome := by simp [h]
    exact .one c (fun d => endCue_channel s c d status h) (.tail (.single (drained_move c _ _ _)) (.ended _ _ h))
      (endCue_notified s c status)

/-- A cue ends and the channel goes on. -/
theorem goOn_endCue_plays (status : CueStatus) (h : (s.channel c).current.isSome) : Plays s (goOn c (endCue c status s)) := by
  refine .one c (x := ((s.channel c).drained s.store.requests c).cueOver.wentOn) (fun d => ?_)
    (.tail (.single (drained_move c _ _ _)) (.endedOn _ _ h)) ((endCue_notified s c status).trans (goOn_notified _ c)) (by simp [Channel.wentOn])
  simp only [goOn_channel, endCue_channel s c _ status h, if_true]
  split <;> rfl

theorem finishCue_plays : Plays s (finishCue c s) := by
  unfold finishCue
  dsimp only
  split
  · next cur hc _ =>
    split
    · exact .refl s
    · split
      · exact goOn_endCue_plays s c _ (by simp [hc])
      · split
        · exact endCue_plays s c _
        · exact .refl s
  · exact .refl s

theorem keepRemainder_plays (h : (s.channel c).current.isSome) : Plays s (keepRemainder c s) :=
  .one c (keepRemainder_channel s c)
    (.tail (.single (drained_move c _ _ _)) (.remainderKept _ _ (fun cur => { cur with crossing := none }) (fun _ => rfl) h))
    (.of_eq (by simp))

theorem stoppingEnd_plays : Plays s (stoppingEnd c s) := by
  unfold stoppingEnd
  dsimp only
  split
  · next h =>
    have hs : (s.channel c).state = .stopping := by simp at h; exact h.1.1.1
    split
    · next hc => exact .one c (goOn_channel s c) (.single (.stoppedEmpty _ _ hs hc)) (goOn_notified s c) rfl
    · next cur hc =>
      have hc : (s.channel c).current.isSome := by simp [hc]
      split
      · exact goOn_endCue_plays s c _ hc
      · exact (keepRemainder_plays s c hc).trans (notifyBound_plays _ c _)
  · exact .refl s

/-- Everything that can be due at the engine for a channel with no job there (R15, R76, R77). -/
theorem jobDue_cases {j : ChannelJob} (h : jobDue s c = some j) :
    (s.channel c).disengageDue = true ∧ j = .disengage ∨
      (s.channel c).disengageDue = false ∧ (s.channel c).current = none ∧ (s.channel c).state = .running ∧
        (∃ cue, (s.channel c).queue.head? = some cue ∧
          j = .start cue (s.boundRole c) (decide ((s.channel c).cutoff = .ignore)) false) ∨
      (s.channel c).disengageDue = false ∧ (s.channel c).delivering = true ∧
        (∃ cur, (s.channel c).current = some cur ∧ segmentDue cur (s.channel c).runs = some j) := by
  unfold jobDue at h
  dsimp only at h
  split at h
  · next hd => exact .inl ⟨hd, by simpa using h.symm⟩
  · next hd =>
    have hd : (s.channel c).disengageDue = false := by simpa using hd
    split at h
    · next cue _ hc hq =>
      split at h
      · next hs => exact .inr (.inl ⟨hd, hc, hs, cue, by simp [hq], by simpa using h.symm⟩)
      · cases h
    · cases h
    · next cur hc =>
      split at h
      · next hs => exact .inr (.inr ⟨hd, hs, cur, hc, h⟩)
      · cases h

/-- A segment resolution that is due is one whose answer is wanted. -/
theorem segmentDue_cases {cur : CurrentCue} {runs : List Run} {j : ChannelJob} (h : segmentDue cur runs = some j) :
    ∃ frame, j = .segment frame cur.f1 false := by
  unfold segmentDue at h
  split at h
  · cases h
  · split at h
    · exact ⟨_, by simpa using h.symm⟩
    · split at h
      · exact ⟨_, by simpa using h.symm⟩
      · cases h
    · cases h

/-- A job is presented where none was, and a free engine takes it at once (R14, R15). -/
theorem presentJob_plays : Plays s (presentJob c s) := by
  unfold presentJob
  dsimp only
  split
  · next j hj h =>
    have hm : ChannelMove (s.channel c, s.engagedSlot c) ({ s.channel c with job := some j, disengageDue := false }, s.engagedSlot c) := by
      rcases jobDue_cases s c h with ⟨hd, rfl⟩ | ⟨hd, hc, hs, cue, -, rfl⟩ | ⟨hd, hs, cur, hc, hg⟩
      · exact .presentedDisengage _ _ hd hj
      · exact .presentedStart _ _ _ _ _ hd hj hc hs
      · obtain ⟨frame, rfl⟩ := segmentDue_cases hg
        exact .presentedSegment _ _ _ _ hd hj (by simp [hc]) hs
    refine ⟨.one c (by simp) (fun d => by rw [grantJob_channel, channel_setChannel]) (.single hm), .of_eq (by simp),
      .grant rfl rfl (waitsAt_setChannel s c fun _ => rfl)⟩
  · exact .refl s

theorem settleChannel_plays : Plays s (settleChannel c s) :=
  (releaseBuffers_plays s c).trans <| (finishCue_plays _ c).trans <| (issueAll_plays _ c).trans <| (assemble_plays _ c).trans <|
    (stoppingEnd_plays _ c).trans (presentJob_plays _ c)

theorem settle_plays : Plays s (settle c s) := (settleChannel_plays s c).trans (grantAll_plays _)

theorem muteCue_plays : Plays s (muteCue c s) :=
  (Plays.set s c (.noted _ _ (fun cur => { cur with muted := true }) fun _ => rfl) rfl).trans (letGo_plays _ c)

theorem stopCue_plays : Plays s (stopCue c s) := by
  cases h : (s.channel c).current with
  | none => simp only [stopCue, h]; exact .refl s
  | some cur =>
    have h : (s.channel c).current.isSome := by simp [h]
    exact .one c (fun d => stopCue_channel s c d h) (.tail (.single (drained_move c _ _ _)) (.endedCut _ _ h)) (stopCue_notified s c)

theorem cutoffEvent_plays (h : (s.channel c).current.isSome) : Plays s (cutoffEvent c s) := by
  unfold cutoffEvent
  dsimp only
  split
  · exact .refl s
  · exact stopCue_plays s c
  · split
    · exact endCue_plays s c _
    · exact goOn_endCue_plays s c _ h
  · split
    · exact endCue_plays s c _
    · exact muteCue_plays s c

theorem cutoffDue_current {s : State} {c : ChannelId} (h : s.cutoffDue c = true) : (s.channel c).current.isSome := by
  unfold State.cutoffDue at h
  split at h
  · cases h
  · next hc => simp [hc]

theorem judge_plays : Plays s (judge c s) := by
  unfold judge
  split
  · next h => exact cutoffEvent_plays s c (cutoffDue_current h)
  · exact .refl s

theorem judgeChannels_plays (l : List ChannelId) : Plays s (judgeChannels l s) :=
  (foldl_keeps (P := Plays s) _ (fun t c h => h.trans ((judge_plays t c).trans (settleChannel_plays _ c))) _ _
    (freeOrder_plays s _ _)).trans (grantAll_plays _)

end Playback

end Sys2Proof.Machine
end

-- ==== Proofs: what lookups and reads do ====
section
/-! Lookups and reads do two things only (R8, R144, R146, R148): words that can be corrected are written back, and slots that they
come to are flagged. What follows from that for every part of the state is said once here. -/

namespace Sys2Proof.Machine

/-! ### Faulted flags and records -/

theorem isFaulted_iff (s : State) (y : Slot) : s.isFaulted y = true ↔ y ∈ s.engine.faulted := by
  simp [State.isFaulted]

theorem mem_slotInsert (x y : Slot) (l : List Slot) : y ∈ slotInsert x l ↔ y = x ∨ y ∈ l := by
  induction l with
  | nil => simp [slotInsert]
  | cons z rest ih =>
    unfold slotInsert
    split
    · simp
    · split
      · next h => subst h; simp
      · simp only [List.mem_cons, ih]; tauto

theorem isFaulted_flagFaulted (s : State) (x y : Slot) : (flagFaulted x s).isFaulted y = true ↔ y = x ∨ s.isFaulted y = true := by
  rw [isFaulted_iff, isFaulted_iff]
  exact mem_slotInsert x y _

@[simp] theorem recordFault_engine (s : State) (who : Requester) (part : RecordPart) (x : Slot) :
    (recordFault who part x s).engine = (flagFaulted x s).engine := by
  simp [recordFault]

theorem isFaulted_recordFault (s : State) (who : Requester) (part : RecordPart) (x y : Slot) :
    (recordFault who part x s).isFaulted y = true ↔ y = x ∨ s.isFaulted y = true := by
  rw [isFaulted_iff, recordFault_engine, ← isFaulted_iff, isFaulted_flagFaulted]

theorem isFaulted_walkLinkedFault (s : State) (x y : Slot) : (walkLinkedFault x s).isFaulted y = true ↔ y = x ∨ s.isFaulted y = true :=
  isFaulted_flagFaulted s x y

/-- Two records with the same fields, of which the same words are lost. -/
def Record.SameData (r r' : Record) : Prop :=
  r' = { r with words := r'.words } ∧ ∀ w, (r'.condition w).lost = (r.condition w).lost

theorem Record.SameData.refl (r : Record) : r.SameData r := ⟨rfl, fun _ => rfl⟩

theorem Record.SameData.trans {r r' r'' : Record} (h : r.SameData r') (g : r'.SameData r'') : r.SameData r'' :=
  ⟨by rw [g.1, h.1], fun w => (g.2 w).trans (h.2 w)⟩

theorem Record.SameData.key {r r' : Record} (h : r.SameData r') : r'.key = r.key := by rw [h.1]

theorem Record.SameData.state {r r' : Record} (h : r.SameData r') : r'.state = r.state := by rw [h.1]

theorem corrected_sameData (r : Record) (w : RecordWord) : r.SameData (r.corrected w) := by
  refine ⟨rfl, fun v => ?_⟩
  rw [condition_corrected]
  split <;> rfl

/-! ### Sifting -/

/-- What lookups and reads make of the part, flagging no slot but those that `F` holds of. -/
inductive Sifts (F : Slot → Prop) (s : State) : State → Prop
  | refl : Sifts F s s
  /-- Words of a record are corrected and written back (R144). -/
  | repaired {t : State} (h : Sifts F s t) (x : Slot) (w : RecordWord) (n : Nat) :
      Sifts F s (noteRepairs n (t.writeRecord x ((t.record x).corrected w)))
  /-- A record fault is found at run time (R146). -/
  | faulted {t : State} (h : Sifts F s t) (who : Requester) (part : RecordPart) (x : Slot) (hx : F x) :
      Sifts F s (recordFault who part x t)
  /-- A lookup of the walk flags a linked slot (R148). -/
  | walkFaulted {t : State} (h : Sifts F s t) (x : Slot) (hx : F x) : Sifts F s (walkLinkedFault x t)

namespace Sifts

variable {F : Slot → Prop} {s t u : State}

theorem trans (h : Sifts F s t) (g : Sifts F t u) : Sifts F s u := by
  induction g with
  | refl => exact h
  | repaired _ x w n ih => exact ih.repaired x w n
  | faulted _ who part x hx ih => exact ih.faulted who part x hx
  | walkFaulted _ x hx ih => exact ih.walkFaulted x hx

theorem plays (h : Sifts F s t) : Plays s t := by
  induction h with
  | refl => exact .refl s
  | repaired _ x w n ih => exact ih.trans ((writeRecord_plays _ x _).trans (noteRepairs_plays _ n))
  | faulted _ who part x _ ih => exact ih.trans (recordFault_plays _ who part x)
  | walkFaulted _ x _ ih => exact ih.trans (walkLinkedFault_plays _ x)

/-- A property that no repair and no flag changes. -/
theorem congr {α : Type} (f : State → α) (hr : ∀ n x r v, f (noteRepairs n (v.writeRecord x r)) = f v)
    (hf : ∀ who part x v, f (recordFault who part x v) = f v) (hw : ∀ x v, f (walkLinkedFault x v) = f v) (h : Sifts F s t) :
    f t = f s := by
  induction h with
  | refl => rfl
  | repaired _ x w n ih => rw [hr, ih]
  | faulted _ who part x _ ih => rw [hf, ih]
  | walkFaulted _ x _ ih => rw [hw, ih]

theorem channels (h : Sifts F s t) : t.channels = s.channels := h.congr State.channels (by simp) (by simp) (by simp)
theorem store (h : Sifts F s t) : t.store = s.store := h.congr State.store (by simp) (by simp) (by simp)
theorem hold (h : Sifts F s t) : t.hold = s.hold := h.congr State.hold (by simp) (by simp) (by simp)
theorem pinTable (h : Sifts F s t) : t.pinTable = s.pinTable := h.congr State.pinTable (by simp) (by simp) (by simp)
theorem timing (h : Sifts F s t) : t.timing = s.timing := h.congr State.timing (by simp) (by simp) (by simp)
theorem arbiter (h : Sifts F s t) : t.arbiter = s.arbiter := h.congr State.arbiter (by simp) (by simp) (by simp)
theorem header (h : Sifts F s t) : t.memory.header = s.memory.header :=
  h.congr (fun v => v.memory.header) (by simp) (by simp) (by simp)

theorem noteRepairs_engine (n : Nat) (v : State) : (noteRepairs n v).engine = { v.engine with walk := (noteRepairs n v).engine.walk } := by
  unfold noteRepairs
  split <;> simp

/-- Of the engine's tables only the flags, and the counts of the walk, change. -/
theorem engine (h : Sifts F s t) : t.engine = { s.engine with faulted := t.engine.faulted, walk := t.engine.walk } := by
  induction h with
  | refl => rfl
  | repaired _ x w n ih => rw [noteRepairs_engine, writeRecord_engine, ih]
  | faulted _ who part x _ ih => rw [recordFault_engine, flagFaulted, setEngine_engine, ih]
  | walkFaulted _ x _ ih => simp only [walkLinkedFault, flagFaulted, setEngine_engine]; rw [ih]

theorem condition (h : Sifts F s t) : t.engine.condition = s.engine.condition := by rw [h.engine]
theorem directory (h : Sifts F s t) : t.engine.directory = s.engine.directory := by rw [h.engine]
theorem freeStack (h : Sifts F s t) : t.engine.freeStack = s.engine.freeStack := by rw [h.engine]
theorem engagement (h : Sifts F s t) : t.engine.engagement = s.engine.engagement := by rw [h.engine]
theorem chain (h : Sifts F s t) (b : BitVec 14) : t.engine.chain b = s.engine.chain b := by simp only [Engine.chain, h.directory]
theorem linkedSlots (h : Sifts F s t) : t.engine.linkedSlots = s.engine.linkedSlots := by simp only [Engine.linkedSlots, h.directory]
theorem engagedSlot (h : Sifts F s t) (c : ChannelId) : t.engagedSlot c = s.engagedSlot c := by
  simp only [State.engagedSlot, h.engagement]
theorem engagements (h : Sifts F s t) (x : Slot) : t.engagements x = s.engagements x := by
  simp only [State.engagements, h.engagement]
theorem channel (h : Sifts F s t) (c : ChannelId) : t.channel c = s.channel c := by simp only [State.channel, h.channels]
theorem inFormat (h : Sifts F s t) : t.inFormat = s.inFormat := by simp only [State.inFormat, h.condition]
theorem starting (h : Sifts F s t) : t.starting = s.starting := starting_congr h.condition

theorem isFaulted_noteRepairs (n : Nat) (v : State) (y : Slot) : (noteRepairs n v).isFaulted y = v.isFaulted y := by
  simp only [State.isFaulted]; rw [noteRepairs_engine]

/-- A slot is flagged afterwards only where it was, or where the sifting came to it. -/
theorem isFaulted_of (h : Sifts F s t) {y : Slot} (hy : t.isFaulted y = true) : s.isFaulted y = true ∨ F y := by
  induction h with
  | refl => exact .inl hy
  | repaired _ x w n ih => rw [isFaulted_noteRepairs] at hy; exact ih hy
  | faulted _ who part x hx ih =>
    rcases (isFaulted_recordFault _ who part x y).1 hy with rfl | hy
    · exact .inr hx
    · exact ih hy
  | walkFaulted _ x hx ih =>
    rcases (isFaulted_walkLinkedFault _ x y).1 hy with rfl | hy
    · exact .inr hx
    · exact ih hy

/-- No flag is cleared. -/
theorem isFaulted (h : Sifts F s t) {y : Slot} (hy : s.isFaulted y = true) : t.isFaulted y = true := by
  induction h with
  | refl => exact hy
  | repaired _ x w n ih => rw [isFaulted_noteRepairs]; exact ih
  | faulted _ who part x _ ih => exact (isFaulted_recordFault _ who part x y).2 (.inr ih)
  | walkFaulted _ x _ ih => exact (isFaulted_walkLinkedFault _ x y).2 (.inr ih)

theorem not_isFaulted (h : Sifts F s t) {y : Slot} (hy : t.isFaulted y = false) : s.isFaulted y = false := by
  cases e : s.isFaulted y
  · rfl
  · rw [h.isFaulted e] at hy; exact hy

theorem record_noteRepairs (n : Nat) (v : State) (y : Slot) : (noteRepairs n v).record y = v.record y := by
  simp only [State.record, noteRepairs_memory]

/-- Every record keeps its fields, and what is lost of it. -/
theorem record (h : Sifts F s t) (y : Slot) : (s.record y).SameData (t.record y) := by
  induction h with
  | refl => exact .refl _
  | repaired _ x w n ih =>
    rw [record_noteRepairs, record_writeRecord]
    split
    · next e => subst e; exact ih.trans (corrected_sameData _ w)
    · exact ih
  | faulted _ who part x _ ih => simpa only [State.record, recordFault_memory] using ih
  | walkFaulted _ x _ ih => exact ih

theorem memory_wf (h : Sifts F s t) (hs : s.memory.wf) : t.memory.wf := by
  induction h with
  | refl => exact hs
  | repaired _ x w n ih => rw [noteRepairs_memory]; exact writeRecord_wf _ _ _ ih
  | faulted _ who part x _ ih => rw [recordFault_memory]; exact ih
  | walkFaulted _ x _ ih => exact ih

end Sifts

/-! ### Reads and lookups sift -/

section Reads
variable (F : Slot → Prop) (s : State)

theorem readWord_sifts (x : Slot) (w : RecordWord) : Sifts F s (readWord x w s).2 := by
  unfold readWord
  dsimp only
  split
  · exact .refl
  · exact Sifts.refl.repaired x w _

theorem readWords_sifts (x : Slot) (l : List RecordWord) : Sifts F s (readWords x l s).2 := by
  induction l generalizing s with
  | nil => exact .refl
  | cons w rest ih =>
    have hw := readWord_sifts F s x w
    unfold readWords
    split
    · next t e => rw [e] at hw; exact hw.trans (ih t)
    · next t e => rw [e] at hw; exact hw.trans (ih t)

theorem isFaulted_readWords (x : Slot) (l : List RecordWord) (y : Slot) : (readWords x l s).2.isFaulted y = s.isFaulted y := by
  have h := readWords_sifts (fun _ => False) s x l
  cases e : (readWords x l s).2.isFaulted y
  · exact (h.not_isFaulted e).symm
  · exact ((h.isFaulted_of e).resolve_right id).symm

/-- No slot of a key's chain matches the key: each is flagged or carries another key. -/
def Absent (key : Key) : Prop := ∀ y ∈ s.engine.chain key.bucket, s.isFaulted y = true ∨ (s.record y).key ≠ key

/-- A slot of a key's chain carries the key, is not flagged, and its key can be read. -/
def Finds (key : Key) (x : Slot) : Prop :=
  x ∈ s.engine.chain key.bucket ∧ s.isFaulted x = false ∧ (s.record x).key = key ∧ ((s.record x).condition .key).lost = false

/-- What brings a lookup's key fault about: the slot is flagged, and nothing else happens but sifting. -/
def Flags (onFault : Slot → State → State) : Prop :=
  ∀ x t, F x → Sifts F t (onFault x t) ∧ (onFault x t).isFaulted x = true

theorem recordFault_flags (who : Requester) (part : RecordPart) : Flags F (recordFault who part) := fun x t hx =>
  ⟨Sifts.refl.faulted who part x hx, (isFaulted_recordFault t who part x x).2 (.inl rfl)⟩

theorem walkLinkedFault_flags : Flags F walkLinkedFault := fun x t hx =>
  ⟨Sifts.refl.walkFaulted x hx, (isFaulted_walkLinkedFault t x x).2 (.inl rfl)⟩

/-- Everything that a lookup along a chain can do: it finds an unflagged slot with the key, or passes over every slot. -/
theorem lookupChain_cases (onFault : Slot → State → State) (hf : Flags F onFault) (key : Key) :
    ∀ (l : List Slot) (saw : Bool) (s : State), (∀ x ∈ l, F x) →
      ∃ r u, lookupChain onFault key l saw s = (r, u) ∧ Sifts F s u ∧
        ((∃ x, r = .found x ∧ x ∈ l ∧ u.isFaulted x = false ∧ (u.record x).key = key ∧ ((u.record x).condition .key).lost = false) ∨
          (r = .notFound ∨ r = .notFoundFaulted) ∧ ∀ y ∈ l, u.isFaulted y = true ∨ (u.record y).key ≠ key)
  | [], saw, s, _ => ⟨_, _, rfl, .refl, .inr ⟨by cases saw <;> simp, by simp⟩⟩
  | x :: rest, saw, s, hF => by
    have hrest : ∀ y ∈ rest, F y := fun y hy => hF y (List.mem_cons_of_mem _ hy)
    -- what is known once the lookup has passed `x` over, in a state `t` that it has come to
    have pass : ∀ (saw : Bool) (t : State), Sifts F s t → t.isFaulted x = true ∨ (t.record x).key ≠ key →
        ∃ r u, lookupChain onFault key rest saw t = (r, u) ∧ Sifts F s u ∧
          ((∃ x', r = .found x' ∧ x' ∈ x :: rest ∧ u.isFaulted x' = false ∧ (u.record x').key = key ∧
              ((u.record x').condition .key).lost = false) ∨
            (r = .notFound ∨ r = .notFoundFaulted) ∧ ∀ y ∈ x :: rest, u.isFaulted y = true ∨ (u.record y).key ≠ key) := by
      intro saw t ht hx
      obtain ⟨r, u, e, hu, hcase⟩ := lookupChain_cases onFault hf key rest saw t hrest
      refine ⟨r, u, e, ht.trans hu, ?_⟩
      rcases hcase with ⟨x', hr, hx', h⟩ | ⟨hr, h⟩
      · exact .inl ⟨x', hr, List.mem_cons_of_mem _ hx', h⟩
      · refine .inr ⟨hr, fun y hy => ?_⟩
        rcases List.mem_cons.1 hy with rfl | hy
        · rw [(hu.record y).key]
          exact hx.imp_left hu.isFaulted
        · exact h y hy
    unfold lookupChain
    split
    · next h => exact pass true s .refl (.inl h)
    · next h =>
      have hw := readWord_sifts F s x .key
      obtain ⟨hlost, hrec⟩ := readWord_cases x .key s
      split
      · next t e =>
        rw [e] at hw hlost hrec
        split
        · next hk =>
          refine ⟨_, _, rfl, hw, .inl ⟨x, rfl, List.mem_cons_self, ?_, hk, ?_⟩⟩
          · have := isFaulted_readWords s x [.key] x
            simp only [readWords, e] at this
            rw [this]; simpa using h
          · rw [(hw.record x).2]; simpa using hlost.symm
        · next hk => exact pass saw t hw (.inr hk)
      · next t e =>
        rw [e] at hw
        obtain ⟨hs, hfl⟩ := hf x t (hF x List.mem_cons_self)
        exact pass true _ (hw.trans hs) (.inl hfl)

/-- Everything that a lookup can do (R8). -/
theorem lookup_cases (onFault : Slot → State → State) (hf : Flags F onFault) (key : Key) (hF : ∀ x ∈ s.engine.chain key.bucket, F x) :
    (∃ x u, lookup onFault key s = (.found x, u) ∧ Sifts F s u ∧ Finds u key x) ∨
      ∃ r u, lookup onFault key s = (r, u) ∧ Sifts F s u ∧ (r = .notFound ∨ r = .notFoundFaulted) ∧ Absent u key := by
  obtain ⟨r, u, e, hu, hcase⟩ := lookupChain_cases F onFault hf key _ false s hF
  rcases hcase with ⟨x, rfl, hx, h⟩ | ⟨hr, h⟩
  · exact .inl ⟨x, u, e, hu, by rw [hu.chain]; exact hx, h⟩
  · exact .inr ⟨r, u, e, hu, hr, fun y hy => h y (hu.chain _ ▸ hy)⟩

end Reads

end Sys2Proof.Machine
end

-- ==== Proofs: the tables of the directory ====
section
/-! What linking and unlinking a slot do to the chains of the directory (R7), and to the list of the slots that stand in them. -/

namespace Sys2Proof.Machine

/-! ### Chains as a sparse table -/

/-- Nothing is listed at a number below every one that a rising table lists. -/
theorem sparseGet_of_lt {α : Type} (d : α) {table : List (Nat × α)} {k : Nat} {v : α} {n : Nat}
    (h : ((k, v) :: table).Pairwise fun a b => a.1 < b.1) (hn : n < k) : sparseGet d ((k, v) :: table) n = d := by
  refine sparseGet_of_not_mem d _ n fun e he => ?_
  rcases List.mem_cons.1 he with rfl | he
  · exact (Nat.ne_of_lt hn).symm
  · have : k < e.1 := (List.pairwise_cons.1 h).1 e he
    omega

/-- What a rising table lists is what it gives. -/
theorem sparseGet_of_mem {α : Type} (d : α) {table : List (Nat × α)} (h : table.Pairwise fun a b => a.1 < b.1) {k : Nat} {v : α}
    (hm : (k, v) ∈ table) : sparseGet d table k = v := by
  induction table with
  | nil => cases hm
  | cons e rest ih =>
    obtain ⟨l, w⟩ := e
    rw [List.pairwise_cons] at h
    rcases List.mem_cons.1 hm with e | hm
    · cases e; simp [sparseGet]
    · have : k ≠ l := fun e => by have := h.1 _ hm; simp only at this; omega
      rw [sparseGet, if_neg this]
      exact ih h.2 hm

/-- What a table gives at a number it lists, or its default. -/
theorem mem_of_sparseGet {α : Type} {d : α} {table : List (Nat × α)} {n : Nat} (h : sparseGet d table n ≠ d) :
    (n, sparseGet d table n) ∈ table := by
  induction table with
  | nil => simp [sparseGet] at h
  | cons e rest ih =>
    obtain ⟨k, v⟩ := e
    simp only [sparseGet] at h ⊢
    split
    · next e => subst e; exact List.mem_cons_self
    · next e => rw [if_neg e] at h; exact List.mem_cons_of_mem _ (ih h)

/-- One thing put at the head of a chain joins the things that the chains hold. -/
theorem flatMap_sparseInsert {α : Type} (x : α) (n : Nat) {table : List (Nat × List α)}
    (h : table.Pairwise fun a b => a.1 < b.1) :
    ((sparseInsert n (x :: sparseGet [] table n) table).flatMap Prod.snd).Perm (x :: table.flatMap Prod.snd) := by
  induction table with
  | nil => simp [sparseInsert, sparseGet]
  | cons e rest ih =>
    obtain ⟨k, v⟩ := e
    unfold sparseInsert
    split
    · next hn => simp [sparseGet_of_lt [] h hn]
    · split
      · next e => subst e; simp [sparseGet]
      · next hn hk =>
        rw [sparseGet, if_neg hk, List.flatMap_cons, List.flatMap_cons]
        exact ((ih (List.pairwise_cons.1 h).2).append_left _).trans List.perm_middle

/-- The things that the chains hold once one of them has been taken out of its chain. -/
theorem flatMap_filter_chains {α : Type} (p : α → Bool) (table : List (Nat × List α)) [DecidableEq (List α)] :
    ((table.map fun b => (b.1, b.2.filter p)).filter fun b => b.2 ≠ []).flatMap Prod.snd = (table.flatMap Prod.snd).filter p := by
  induction table with
  | nil => rfl
  | cons e rest ih =>
    rw [List.map_cons, List.flatMap_cons, List.filter_append, ← ih, List.filter_cons]
    split
    · rfl
    · next h => simp only [ne_eq, decide_not, Bool.not_eq_true', decide_eq_false_iff_not, not_not] at h; simp [h]

namespace Engine

variable {e : Engine} {x y : Slot} {b b' : BitVec 14}

theorem mem_linkedSlots : y ∈ e.linkedSlots ↔ ∃ k l, (k, l) ∈ e.directory ∧ y ∈ l := by
  simp [Engine.linkedSlots]

theorem mem_linkedSlots_of_chain (h : y ∈ e.chain b) : y ∈ e.linkedSlots :=
  mem_linkedSlots.2 ⟨_, _, mem_of_sparseGet (List.ne_nil_of_mem h), h⟩

/-- A slot that stands in a chain stands in the chain of some bucket. -/
theorem exists_chain (hw : SparseWf [] e.directory) (hk : ∀ d ∈ e.directory, d.1 < 16384) (h : y ∈ e.linkedSlots) :
    ∃ b, y ∈ e.chain b := by
  obtain ⟨k, l, hm, hy⟩ := mem_linkedSlots.1 h
  refine ⟨BitVec.ofNat 14 k, ?_⟩
  have : (BitVec.ofNat 14 k).toNat = k := by simpa using Nat.mod_eq_of_lt (hk _ hm)
  rw [Engine.chain, this, sparseGet_of_mem [] hw.1 hm]
  exact hy

/-! ### Linking -/

theorem chain_link : (e.link b x).chain b' = if b' = b then x :: e.chain b else e.chain b' := by
  simp only [Engine.chain, Engine.link, sparseGet_sparseSet, BitVec.toNat_inj]

theorem link_wf (h : SparseWf [] e.directory) : SparseWf [] (e.link b x).directory :=
  sparseWf_sparseSet [] e.directory b.toNat (x :: e.chain b) h

theorem link_keys (h : ∀ d ∈ e.directory, d.1 < 16384) : ∀ d ∈ (e.link b x).directory, d.1 < 16384 := fun d hd =>
  (mem_sparseSet [] e.directory b.toNat (x :: e.chain b) d hd).elim (fun e => e ▸ b.isLt) (h d)

/-- A slot that is linked joins the linked slots. -/
theorem linkedSlots_link (h : SparseWf [] e.directory) : (e.link b x).linkedSlots.Perm (x :: e.linkedSlots) := by
  have hne : x :: e.chain b ≠ [] := List.cons_ne_nil _ _
  simp only [Engine.linkedSlots, Engine.link, sparseSet, if_neg hne]
  exact flatMap_sparseInsert x _ h.1

/-! ### Unlinking -/

theorem unlink_wf (h : SparseWf [] e.directory) : SparseWf [] (e.unlink x).directory := by
  unfold Engine.unlink
  refine ⟨List.Pairwise.filter _ (List.pairwise_map.2 h.1), fun d hd => ?_⟩
  exact of_decide_eq_true (List.mem_filter.1 hd).2

theorem unlink_keys (h : ∀ d ∈ e.directory, d.1 < 16384) : ∀ d ∈ (e.unlink x).directory, d.1 < 16384 := by
  intro d hd
  obtain ⟨d', hd', rfl⟩ := List.mem_map.1 (List.mem_filter.1 hd).1
  exact h d' hd'

theorem linkedSlots_unlink : (e.unlink x).linkedSlots = e.linkedSlots.filter fun y => y ≠ x :=
  flatMap_filter_chains _ _

theorem mem_linkedSlots_unlink : y ∈ (e.unlink x).linkedSlots ↔ y ∈ e.linkedSlots ∧ y ≠ x := by
  simp [linkedSlots_unlink]

/-- The slots before and after the one unlinked keep their order (R7). -/
theorem chain_unlink (h : SparseWf [] e.directory) : (e.unlink x).chain b = (e.chain b).filter fun y => y ≠ x := by
  unfold Engine.chain
  by_cases hf : ((e.chain b).filter fun y => y ≠ x) = []
  · rw [show sparseGet [] e.directory b.toNat = e.chain b from rfl, hf]
    refine sparseGet_of_not_mem _ _ _ fun d hd hk => ?_
    obtain ⟨hd, hne⟩ := List.mem_filter.1 hd
    obtain ⟨d', hd', rfl⟩ := List.mem_map.1 hd
    have : e.chain b = d'.2 := sparseGet_of_mem [] h.1 (by rw [← hk]; exact hd')
    rw [this] at hf
    exact of_decide_eq_true hne hf
  · have hne : e.chain b ≠ [] := fun e => hf (by rw [e]; rfl)
    refine sparseGet_of_mem [] (unlink_wf h).1 (List.mem_filter.2 ⟨List.mem_map.2 ⟨(b.toNat, e.chain b), mem_of_sparseGet hne, rfl⟩, ?_⟩)
    exact decide_eq_true hf

end Engine

end Sys2Proof.Machine
end

-- ==== Proofs: the moves of the catalogue ====
section
/-! What the jobs of the catalogue engine do to catalogue memory and to the engine's tables is a sequence of the moves below, and each of
them keeps the laws of the catalogue (R7, R11, R12), the soundness of the linked records (R2, R21, R37, R39) and the engagement of every
RETIRING item (R139). -/

namespace Sys2Proof.Machine

open Relation

/-- One move of the catalogue, with what is known where it is made. -/
inductive CatalogueMove : State → State → Prop
  /-- Neither a record nor the engine changes. -/
  | quiet {s t : State} (hm : t.memory.records = s.memory.records) (he : t.engine = s.engine) : CatalogueMove s t
  /-- A lookup or a read (R8, R144, R146). -/
  | sifted {s t : State} {F : Slot → Prop} (h : Sifts F s t) (hF : ∀ x, F x → x ∈ s.engine.linkedSlots) : CatalogueMove s t
  /-- A linked record is written under its key, and stays sound. -/
  | written {s : State} (x : Slot) (r : Record) (hf : s.inFormat = false) (hx : x ∈ s.engine.linkedSlots)
      (hk : r.key = (s.record x).key) (hc : r.condition .key = (s.record x).condition .key)
      (hs : (s.record x).unretired.faultyPart = none → r.unretired.faultyPart = none)
      (hr : r.state = .retiring → (s.record x).state = .retiring ∨ s.engagements x ≠ 0) : CatalogueMove s (s.writeRecord x r)
  /-- An item is entered (R18). -/
  | entered {s : State} (x : Slot) (r : Record) (rest : List Slot) (hf : s.inFormat = false) (hx : s.engine.freeStack = x :: rest)
      (ha : Absent s r.key) (hs : r.unretired.faultyPart = none) (hr : r.state ≠ .retiring) :
      CatalogueMove s ((s.writeRecord x r).setEngine (({ s.engine with freeStack := rest } : Engine).link r.key.bucket x))
  /-- The slot of an unengaged item is freed (R138). -/
  | freed {s : State} (x : Slot) (r : Record) (hf : s.inFormat = false) (hx : x ∈ s.engine.linkedSlots)
      (hn : s.isFaulted x = false) (he : s.engagements x = 0) : CatalogueMove s (freeSlot x r s)
  /-- A faulted slot is discarded (R152). -/
  | discarded {s : State} (x : Slot) (hf : s.inFormat = false) (hx : s.isFaulted x = true) (he : s.engagements x = 0) :
      CatalogueMove s (clearFaulted x (freeSlot x Record.freed s))
  /-- A faulted slot is restored (R151). -/
  | restored {s : State} (x : Slot) (r : Record) (hf : s.inFormat = false) (hx : s.isFaulted x = true) (he : s.engagements x = 0)
      (ha : Absent s r.key) (hs : r.unretired.faultyPart = none) (hr : r.state ≠ .retiring) :
      CatalogueMove s (clearFaulted x ((s.writeRecord x r).setEngine ((s.engine.unlink x).link r.key.bucket x)))

/-- Moves of the catalogue, one after another. -/
abbrev Catalogues : State → State → Prop := ReflTransGen CatalogueMove

/-! ### Small facts about the tables -/

theorem engagements_eq_zero {s : State} {x : Slot} : s.engagements x = 0 ↔ ∀ c, s.engagedSlot c ≠ some x := by
  rw [State.engagements, List.count_eq_zero, mem_toList_iff]
  simp [State.engagedSlot]

theorem isFaulted_clearFaulted (s : State) (x y : Slot) :
    (clearFaulted x s).isFaulted y = true ↔ y ≠ x ∧ s.isFaulted y = true := by
  rw [isFaulted_iff, isFaulted_iff]
  simp [clearFaulted, and_comm]

@[simp] theorem freeSlot_isFaulted (s : State) (x y : Slot) (r : Record) : (freeSlot x r s).isFaulted y = s.isFaulted y := rfl

@[simp] theorem freeSlot_engagedSlot (s : State) (x : Slot) (r : Record) (c : ChannelId) :
    (freeSlot x r s).engagedSlot c = s.engagedSlot c := rfl

@[simp] theorem freeSlot_engagements (s : State) (x : Slot) (r : Record) (y : Slot) :
    (freeSlot x r s).engagements y = s.engagements y := rfl

@[simp] theorem freeSlot_linkedSlots (s : State) (x : Slot) (r : Record) :
    (freeSlot x r s).engine.linkedSlots = s.engine.linkedSlots.filter fun y => y ≠ x := Engine.linkedSlots_unlink

theorem freeSlot_record (s : State) (x y : Slot) (r : Record) : (freeSlot x r s).record y = if y = x then r else s.record y :=
  record_writeRecord s x y r

theorem inFormat_congr {s t : State} (h : t.engine.condition = s.engine.condition) : t.inFormat = s.inFormat := by
  simp only [State.inFormat, h]

theorem placedSlots_congr {s t : State} (h : t.engine.condition = s.engine.condition) : t.placedSlots = s.placedSlots := by
  simp only [State.placedSlots, h]

/-! ### The laws of the catalogue outside a format -/

/-- The laws of the catalogue, as they are outside a format. -/
structure CatalogueKept (s : State) : Prop where
  memory : s.memory.wf
  chains : SparseWf [] s.engine.directory
  buckets : ∀ e ∈ s.engine.directory, e.1 < 16384
  places : SlotPlaces s
  directory : DirectoryLaw s
  engaged : ∀ c x, s.engagedSlot c = some x → x ∈ s.engine.linkedSlots

theorem catalogueLaw_iff {s : State} (hf : s.inFormat = false) : CatalogueLaw s ↔ CatalogueKept s := by
  simp only [CatalogueLaw, hf, Bool.false_eq_true, if_false, MemoryLaw]
  exact ⟨fun ⟨a, b, c, d, e, f⟩ => ⟨a, b, c, d, e, f⟩, fun ⟨a, b, c, d, e, f⟩ => ⟨a, b, c, d, e, f⟩⟩

theorem CatalogueKept.law {s : State} (h : CatalogueKept s) (hf : s.inFormat = false) : CatalogueLaw s := (catalogueLaw_iff hf).2 h

namespace CatalogueKept

variable {s t : State} (h : CatalogueKept s)
include h

theorem not_mem_stack {x : Slot} (hx : x ∈ s.engine.linkedSlots) : x ∉ s.engine.freeStack := fun hs =>
  (List.nodup_append.1 h.places.1).2.2 x hx x hs rfl

/-- Where no slot of a key's chain matches it, none in the whole directory does (R6). -/
theorem absent {k : Key} (ha : Absent s k) : ∀ y ∈ s.engine.linkedSlots, s.isFaulted y = true ∨ (s.record y).key ≠ k := by
  intro y hy
  obtain ⟨b, hb⟩ := Engine.exists_chain h.chains h.buckets hy
  by_cases hk : (s.record y).key = k
  · have : b = k.bucket := by rw [← h.directory.1 b y hb, hk]
    exact ha y (this ▸ hb)
  · exact .inr hk

/-- A directory to which one more slot has been linked, under a key that no other slot matches. -/
theorem directory_link {e : Engine} {x : Slot} {k : Key} (hw : SparseWf [] e.directory)
    (hc : ∀ b y, y ∈ e.chain b → y ∈ s.engine.chain b ∧ y ≠ x) (hl : ∀ y ∈ e.linkedSlots, y ∈ s.engine.linkedSlots ∧ y ≠ x)
    (ht : t.engine.directory = (e.link k.bucket x).directory) (hx : (t.record x).key = k)
    (hr : ∀ y, y ≠ x → t.record y = s.record y) (hf : ∀ y, y ≠ x → t.isFaulted y = s.isFaulted y) (ha : Absent s k) :
    DirectoryLaw t := by
  have readable : ∀ y, y ≠ x → t.keyReadable y → s.keyReadable y := fun y hy h => by
    rwa [State.keyReadable, hr y hy, hf y hy] at h
  have other : ∀ y ∈ e.linkedSlots, t.keyReadable y → (t.record y).key ≠ k := fun y hy hk => by
    obtain ⟨hy, hne⟩ := hl y hy
    rw [hr y hne]
    exact (h.absent ha y hy).resolve_left (by simp [(readable y hne hk).1])
  have mem : ∀ y ∈ t.engine.linkedSlots, y = x ∨ y ∈ e.linkedSlots := fun y hy => by
    rw [Engine.linkedSlots, ht] at hy
    exact List.mem_cons.1 ((Engine.linkedSlots_link hw).mem_iff.1 hy)
  refine ⟨fun b y hy => ?_, fun y z hy hz hry hrz hk => ?_⟩
  · rw [Engine.chain, ht] at hy
    change y ∈ (e.link k.bucket x).chain b at hy
    have old : ∀ b, y ∈ e.chain b → (t.record y).key.bucket = b := fun b hy => by
      obtain ⟨hy, hne⟩ := hc b y hy
      rw [hr y hne, h.directory.1 b y hy]
    rw [Engine.chain_link] at hy
    split at hy
    · next e => subst e; exact (List.mem_cons.1 hy).elim (fun e => by rw [e, hx]) (old _)
    · exact old b hy
  · rcases mem y hy with rfl | hy' <;> rcases mem z hz with rfl | hz'
    · rfl
    · exact absurd (hk.symm.trans hx) (other z hz' hrz)
    · exact absurd (hk.trans hx) (other y hy' hry)
    · obtain ⟨hy', hney⟩ := hl y hy'
      obtain ⟨hz', hnez⟩ := hl z hz'
      rw [hr y hney, hr z hnez] at hk
      exact h.directory.2 y z hy' hz' (readable y hney hry) (readable z hnez hrz) hk

/-! ### Each move keeps them -/

theorem quiet (hm : t.memory.records = s.memory.records) (he : t.engine = s.engine) : CatalogueKept t := by
  obtain ⟨h1, h2, h3, h4, h5, h6⟩ := h
  constructor <;>
    simpa only [Memory.wf, SlotPlaces, State.placedSlots, DirectoryLaw, State.keyReadable, State.isFaulted, State.record, State.engagedSlot,
      hm, he]

theorem sifted {F : Slot → Prop} (hs : Sifts F s t) (hF : ∀ x, F x → x ∈ s.engine.linkedSlots) : CatalogueKept t := by
  have hflag : ∀ x, x ∈ t.engine.faulted ↔ x ∈ s.engine.faulted ∨ x ∈ t.engine.faulted ∧ x ∈ s.engine.linkedSlots := by
    intro x
    rw [← isFaulted_iff, ← isFaulted_iff]
    exact ⟨fun hx => (hs.isFaulted_of hx).imp_right fun hf => ⟨hx, hF x hf⟩, fun hx => hx.elim hs.isFaulted And.left⟩
  refine ⟨hs.memory_wf h.memory, hs.directory ▸ h.chains, hs.directory ▸ h.buckets, ⟨?_, ?_, ?_⟩, ⟨?_, ?_⟩, ?_⟩
  · rw [hs.linkedSlots, hs.freeStack]; exact h.places.1
  · intro x hx
    rw [hs.freeStack]
    rcases (hflag x).1 hx with hx | ⟨-, hx⟩
    · exact h.places.2.1 x hx
    · exact h.not_mem_stack hx
  · intro x
    rw [placedSlots_congr hs.condition, hs.linkedSlots, hs.freeStack, h.places.2.2 x, hflag x]
    tauto
  · intro b x hx
    rw [hs.chain] at hx
    rw [(hs.record x).key]
    exact h.directory.1 b x hx
  · intro x y hx hy hrx hry hk
    rw [hs.linkedSlots] at hx hy
    rw [(hs.record x).key, (hs.record y).key] at hk
    have readable : ∀ z, t.keyReadable z → s.keyReadable z := fun z hz => ⟨hs.not_isFaulted hz.1, by rw [← (hs.record z).2]; exact hz.2⟩
    exact h.directory.2 x y hx hy (readable x hrx) (readable y hry) hk
  · intro c x hx
    rw [hs.engagedSlot] at hx
    rw [hs.linkedSlots]
    exact h.engaged c x hx

theorem written {x : Slot} {r : Record} (hk : r.key = (s.record x).key) (hc : r.condition .key = (s.record x).condition .key) :
    CatalogueKept (s.writeRecord x r) := by
  have key : ∀ y, ((s.writeRecord x r).record y).key = (s.record y).key := fun y => by
    rw [record_writeRecord]; split
    · next e => rw [e, hk]
    · rfl
  have readable : ∀ y, (s.writeRecord x r).keyReadable y → s.keyReadable y := fun y hy => by
    refine ⟨hy.1, ?_⟩
    have := hy.2
    rw [record_writeRecord] at this
    split at this
    · next e => rw [e, ← hc]; exact this
    · exact this
  refine ⟨writeRecord_wf s x r h.memory, h.chains, h.buckets, h.places, ⟨fun b y hy => ?_, fun y z hy hz hry hrz e => ?_⟩, h.engaged⟩
  · rw [key]; exact h.directory.1 b y hy
  · rw [key, key] at e; exact h.directory.2 y z hy hz (readable y hry) (readable z hrz) e

theorem entered {x : Slot} {r : Record} {rest : List Slot} (hx : s.engine.freeStack = x :: rest) (ha : Absent s r.key) :
    CatalogueKept ((s.writeRecord x r).setEngine (({ s.engine with freeStack := rest } : Engine).link r.key.bucket x)) := by
  obtain ⟨hnodup, hfaulted, hplaced⟩ := h.places
  have hperm := Engine.linkedSlots_link (e := { s.engine with freeStack := rest }) (x := x) (b := r.key.bucket) h.chains
  have hnot : x ∉ s.engine.linkedSlots := fun hl => h.not_mem_stack hl (by simp [hx])
  have hrec : ∀ y, y ≠ x → (s.writeRecord x r).record y = s.record y := fun y hy => by rw [record_writeRecord, if_neg hy]
  rw [hx] at hnodup hfaulted hplaced
  refine ⟨writeRecord_wf s x r h.memory, Engine.link_wf h.chains, Engine.link_keys h.buckets, ⟨?_, ?_, ?_⟩, ?_, ?_⟩
  · refine ((hperm.append_right rest).trans ?_).nodup_iff.2 hnodup
    exact List.perm_middle.symm
  · exact fun y hy hr => hfaulted y hy (List.mem_cons_of_mem x hr)
  · intro y
    rw [show ((s.writeRecord x r).setEngine (({ s.engine with freeStack := rest } : Engine).link r.key.bucket x)).placedSlots =
      s.placedSlots from rfl, hplaced y, List.mem_cons, setEngine_engine, hperm.mem_iff, List.mem_cons]
    change (y ∈ s.engine.linkedSlots ∨ _) ↔ (_ ∨ y ∈ s.engine.linkedSlots) ∨ y ∈ rest ∨ y ∈ s.engine.faulted
    tauto
  · refine h.directory_link (e := { s.engine with freeStack := rest }) (x := x) h.chains (fun b y hy => ⟨hy, ?_⟩) (fun y hy => ⟨hy, ?_⟩)
      rfl ?_ hrec (fun y _ => rfl) ha
    · rintro rfl; exact hnot (Engine.mem_linkedSlots_of_chain hy)
    · rintro rfl; exact hnot hy
    · rw [setEngine_record, record_writeRecord, if_pos rfl]
  · exact fun c y hy => hperm.mem_iff.2 (List.mem_cons_of_mem x (h.engaged c y hy))

/-- A slot that no channel engages is unlinked, and pushed on the free slot stack. -/
theorem freed {x : Slot} {r : Record} (hp : x.val < s.placedSlots) (hx : x ∉ s.engine.freeStack) (he : s.engagements x = 0)
    (hf : t.engine.faulted = s.engine.faulted.filter fun y => y ≠ x) (hcond : t.engine.condition = s.engine.condition)
    (hdir : t.engine.directory = (s.engine.unlink x).directory) (hst : t.engine.freeStack = x :: s.engine.freeStack)
    (hen : t.engine.engagement = s.engine.engagement) (hm : t.memory = (s.writeRecord x r).memory) : CatalogueKept t := by
  obtain ⟨hnodup, hfaulted, hplaced⟩ := h.places
  have hlinked : t.engine.linkedSlots = (s.engine.unlink x).linkedSlots := by simp only [Engine.linkedSlots, hdir]
  have hchain : ∀ b, t.engine.chain b = (s.engine.unlink x).chain b := fun b => by simp only [Engine.chain, hdir]
  have hrec : ∀ y, y ≠ x → t.record y = s.record y := fun y hy => by
    rw [State.record, hm, ← State.record, record_writeRecord, if_neg hy]
  have hfl : ∀ y, y ≠ x → t.isFaulted y = s.isFaulted y := fun y hy => by
    simp [State.isFaulted, hf, hy]
  refine ⟨hm ▸ writeRecord_wf s x r h.memory, hdir ▸ Engine.unlink_wf h.chains, hdir ▸ Engine.unlink_keys h.buckets, ⟨?_, ?_, ?_⟩,
    ⟨?_, ?_⟩, ?_⟩
  · rw [hlinked, Engine.linkedSlots_unlink, hst]
    refine List.perm_middle.nodup_iff.2 (List.nodup_cons.2 ⟨by simp [hx], ?_⟩)
    exact hnodup.sublist (List.filter_sublist.append_right _)
  · intro y hy
    rw [hf, List.mem_filter] at hy
    rw [hst, List.mem_cons, not_or]
    exact ⟨of_decide_eq_true hy.2, hfaulted y hy.1⟩
  · intro y
    rw [placedSlots_congr hcond, hlinked, Engine.mem_linkedSlots_unlink, hst, hf]
    by_cases e : y = x
    · subst e; simpa using hp
    · simpa [e] using hplaced y
  · intro b y hy
    rw [hchain, Engine.chain_unlink h.chains, List.mem_filter] at hy
    rw [hrec y (of_decide_eq_true hy.2)]
    exact h.directory.1 b y hy.1
  · intro y z hy hz hry hrz hk
    rw [hlinked, Engine.mem_linkedSlots_unlink] at hy hz
    rw [State.keyReadable, hrec _ hy.2, hfl _ hy.2] at hry
    rw [State.keyReadable, hrec _ hz.2, hfl _ hz.2] at hrz
    rw [hrec _ hy.2, hrec _ hz.2] at hk
    exact h.directory.2 y z hy.1 hz.1 hry hrz hk
  · intro c y hy
    have hy : s.engagedSlot c = some y := by simpa only [State.engagedSlot, hen] using hy
    rw [hlinked, Engine.mem_linkedSlots_unlink]
    exact ⟨h.engaged c y hy, fun e => engagements_eq_zero.1 he c (e ▸ hy)⟩

theorem restored {x : Slot} {r : Record} (hx : s.isFaulted x = true) (ha : Absent s r.key) :
    CatalogueKept (clearFaulted x ((s.writeRecord x r).setEngine ((s.engine.unlink x).link r.key.bucket x))) := by
  obtain ⟨hnodup, hfaulted, hplaced⟩ := h.places
  have hperm := Engine.linkedSlots_link (x := x) (b := r.key.bucket) (Engine.unlink_wf (x := x) h.chains)
  have hfree : x ∉ s.engine.freeStack := hfaulted x ((isFaulted_iff s x).1 hx)
  have hrec : ∀ y, y ≠ x → (s.writeRecord x r).record y = s.record y := fun y hy => by rw [record_writeRecord, if_neg hy]
  have hmem : ∀ y, y ∈ ((s.engine.unlink x).link r.key.bucket x).linkedSlots ↔ y = x ∨ y ∈ s.engine.linkedSlots := fun y => by
    rw [hperm.mem_iff, List.mem_cons, Engine.mem_linkedSlots_unlink]; tauto
  refine ⟨writeRecord_wf s x r h.memory, Engine.link_wf (Engine.unlink_wf h.chains), Engine.link_keys (Engine.unlink_keys h.buckets),
    ⟨?_, ?_, ?_⟩, ?_, ?_⟩
  · refine (hperm.append_right s.engine.freeStack).nodup_iff.2 (List.nodup_cons.2 ⟨?_, ?_⟩)
    · simp [Engine.linkedSlots_unlink, hfree]
    · rw [Engine.linkedSlots_unlink]
      exact hnodup.sublist (List.filter_sublist.append_right _)
  · exact fun y hy => hfaulted y (List.mem_filter.1 hy).1
  · intro y
    change y.val < s.placedSlots ↔ y ∈ ((s.engine.unlink x).link r.key.bucket x).linkedSlots ∨ y ∈ s.engine.freeStack ∨
      y ∈ s.engine.faulted.filter fun z => z ≠ x
    rw [hmem, hplaced y]
    by_cases e : y = x
    · subst e; simp [(isFaulted_iff s y).1 hx]
    · simp [e]
  · refine h.directory_link (e := s.engine.unlink x) (x := x) (Engine.unlink_wf h.chains) (fun b y hy => ?_)
      (fun y hy => Engine.mem_linkedSlots_unlink.1 hy) rfl ?_ hrec (fun y hy => ?_) ha
    · rw [Engine.chain_unlink h.chains, List.mem_filter] at hy
      exact ⟨hy.1, of_decide_eq_true hy.2⟩
    · change ((s.writeRecord x r).record x).key = r.key
      rw [record_writeRecord, if_pos rfl]
    · rw [Bool.eq_iff_iff, isFaulted_clearFaulted]
      exact ⟨And.right, fun h => ⟨hy, h⟩⟩
  · exact fun c y hy => (hmem y).2 (.inr (h.engaged c y hy))

end CatalogueKept

/-- A move of the catalogue keeps its laws. -/
theorem CatalogueMove.law {s t : State} (m : CatalogueMove s t) (h : CatalogueLaw s) : CatalogueLaw t := by
  cases m with
  | quiet hm he =>
    cases hf : s.inFormat with
    | false => exact (((catalogueLaw_iff hf).1 h).quiet hm he).law ((inFormat_congr (by rw [he])).trans hf)
    | true =>
      obtain ⟨hm', hw, hk, hen⟩ := h
      rw [hf] at hen
      refine ⟨by rw [MemoryLaw, Memory.wf, hm]; exact hm', he ▸ hw, he ▸ hk, ?_⟩
      rw [inFormat_congr (s := s) (by rw [he]), hf]
      exact fun c => (congrArg (fun e => rowGet (Engine.engagement e) c) he).trans (hen c)
  | sifted hs hF =>
    cases hf : s.inFormat with
    | false => exact (((catalogueLaw_iff hf).1 h).sifted hs hF).law (hs.inFormat.trans hf)
    | true =>
      obtain ⟨hm, hw, hk, he⟩ := h
      rw [hf] at he
      refine ⟨hs.memory_wf hm, hs.directory ▸ hw, hs.directory ▸ hk, ?_⟩
      rw [hs.inFormat, hf]
      exact fun c => (hs.engagedSlot c).trans (he c)
  | written x r hf hx hk hc => exact (((catalogueLaw_iff hf).1 h).written hk hc).law hf
  | entered x r rest hf hx ha => exact (((catalogueLaw_iff hf).1 h).entered hx ha).law hf
  | freed x r hf hx hn he =>
    have hk := (catalogueLaw_iff hf).1 h
    have hnot : x ∉ s.engine.faulted := fun hm => by simp [(isFaulted_iff s x).2 hm] at hn
    refine (hk.freed (t := freeSlot x r s) (r := r) ((hk.places.2.2 x).2 (.inl hx)) (hk.not_mem_stack hx) he ?_ rfl rfl rfl rfl
      rfl).law hf
    refine (List.filter_eq_self.2 fun y hy => ?_).symm
    have : y ≠ x := fun e => hnot (e ▸ hy)
    simpa
  | discarded x hf hx he =>
    have hk := (catalogueLaw_iff hf).1 h
    have hx' := (isFaulted_iff s x).1 hx
    exact (hk.freed (t := clearFaulted x (freeSlot x Record.freed s)) (r := Record.freed) ((hk.places.2.2 x).2 (.inr (.inr hx')))
      (hk.places.2.1 x hx') he rfl rfl rfl rfl rfl rfl).law hf
  | restored x r hf hx he ha => exact (((catalogueLaw_iff hf).1 h).restored hx ha).law hf

/-! ### Each move keeps the linked records sound -/

/-- The checks of a record ask for its fields, and not for the condition of its words. -/
theorem Record.SameData.faultyPart {r r' : Record} (h : r.SameData r') : r'.unretired.faultyPart = r.unretired.faultyPart := by
  rw [h.1]
  unfold Record.unretired
  dsimp only
  split <;> rfl

theorem CatalogueMove.inFormat {s t : State} (m : CatalogueMove s t) : t.inFormat = s.inFormat := by
  cases m with
  | quiet hm he => exact inFormat_congr (by rw [he])
  | sifted hs hF => exact hs.inFormat
  | written | entered | freed | discarded | restored => rfl

/-- The linked slots after a move were linked before, or carry a record that is sound and not RETIRING. -/
theorem CatalogueMove.recordLaw {s t : State} (m : CatalogueMove s t) (hc : CatalogueLaw s) (h : RecordLaw s) : RecordLaw t := by
  intro hf x hx
  rw [m.inFormat] at hf
  have kept := (catalogueLaw_iff hf).1 hc
  cases m with
  | quiet hm he => rw [he] at hx; rw [State.record, hm]; exact h hf x hx
  | sifted hs hF => rw [hs.linkedSlots] at hx; rw [(hs.record x).faultyPart]; exact h hf x hx
  | written y r _ hy hk hc hs hr =>
    rw [record_writeRecord]
    split
    · next e => exact hs (h hf y hy)
    · exact h hf x hx
  | entered y r rest _ hy ha hs hr =>
    rw [setEngine_record, record_writeRecord]
    split
    · exact hs
    · next e =>
      have := (Engine.linkedSlots_link (e := { s.engine with freeStack := rest }) kept.chains).mem_iff.1 hx
      exact h hf x ((List.mem_cons.1 this).resolve_left e)
  | freed y r _ hy hn he =>
    rw [freeSlot_linkedSlots, List.mem_filter] at hx
    rw [freeSlot_record, if_neg (of_decide_eq_true hx.2)]
    exact h hf x hx.1
  | discarded y _ hy he =>
    have hx : x ∈ (freeSlot y Record.freed s).engine.linkedSlots := hx
    rw [freeSlot_linkedSlots, List.mem_filter] at hx
    change ((freeSlot y Record.freed s).record x).unretired.faultyPart = none
    rw [freeSlot_record, if_neg (of_decide_eq_true hx.2)]
    exact h hf x hx.1
  | restored y r _ hy he ha hs hr =>
    change ((s.writeRecord y r).record x).unretired.faultyPart = none
    rw [record_writeRecord]
    split
    · exact hs
    · next e =>
      have := (Engine.linkedSlots_link (e := s.engine.unlink y) (Engine.unlink_wf kept.chains)).mem_iff.1 hx
      exact h hf x (Engine.mem_linkedSlots_unlink.1 ((List.mem_cons.1 this).resolve_left e)).1

/-! ### Each move keeps every RETIRING item engaged -/

/-- Outside a format, every RETIRING item whose slot is not faulted is engaged, but for the slots given. -/
def RetiringBut (except : Slot → Prop) (s : State) : Prop :=
  s.inFormat = false → ∀ x ∈ s.engine.linkedSlots, ¬ except x → s.isFaulted x = false → (s.record x).state = .retiring →
    s.engagements x ≠ 0

theorem retiringLaw_iff {s : State} : RetiringLaw s ↔ RetiringBut (fun _ => False) s := by
  simp [RetiringLaw, RetiringBut]

theorem CatalogueMove.retiringBut {s t : State} (m : CatalogueMove s t) (hc : CatalogueLaw s) {except : Slot → Prop}
    (h : RetiringBut except s) : RetiringBut except t := by
  intro hf x hx hex hfl hst
  rw [m.inFormat] at hf
  have kept := (catalogueLaw_iff hf).1 hc
  cases m with
  | quiet hm he =>
    rw [he] at hx
    simp only [State.isFaulted, State.record, hm, he, State.engagements] at hfl hst ⊢
    exact h hf x hx hex hfl hst
  | sifted hs hF =>
    rw [hs.linkedSlots] at hx
    rw [(hs.record x).state] at hst
    rw [hs.engagements]
    exact h hf x hx hex (hs.not_isFaulted hfl) hst
  | written y r _ hy hk hc hs hr =>
    rw [record_writeRecord] at hst
    split at hst
    · next e =>
      subst e
      exact (hr hst).elim (h hf x hy hex hfl) id
    · exact h hf x hx hex hfl hst
  | entered y r rest _ hy ha hs hr =>
    rw [setEngine_record, record_writeRecord] at hst
    split at hst
    · exact absurd hst hr
    · next e =>
      have := (Engine.linkedSlots_link (e := { s.engine with freeStack := rest }) kept.chains).mem_iff.1 hx
      exact h hf x ((List.mem_cons.1 this).resolve_left e) hex hfl hst
  | freed y r _ hy hn he =>
    rw [freeSlot_linkedSlots, List.mem_filter] at hx
    rw [freeSlot_record, if_neg (of_decide_eq_true hx.2)] at hst
    exact h hf x hx.1 hex hfl hst
  | discarded y _ hy he =>
    have hx : x ∈ (freeSlot y Record.freed s).engine.linkedSlots := hx
    rw [freeSlot_linkedSlots, List.mem_filter] at hx
    have hne : x ≠ y := of_decide_eq_true hx.2
    change ((freeSlot y Record.freed s).record x).state = .retiring at hst
    rw [freeSlot_record, if_neg hne] at hst
    refine h hf x hx.1 hex (Bool.eq_false_iff.2 fun hs => ?_) hst
    exact Bool.eq_false_iff.1 hfl ((isFaulted_clearFaulted _ y x).2 ⟨hne, hs⟩)
  | restored y r _ hy he ha hs hr =>
    change ((s.writeRecord y r).record x).state = .retiring at hst
    rw [record_writeRecord] at hst
    split at hst
    · exact absurd hst hr
    · next hne =>
      have := (Engine.linkedSlots_link (e := s.engine.unlink y) (Engine.unlink_wf kept.chains)).mem_iff.1 hx
      refine h hf x (Engine.mem_linkedSlots_unlink.1 ((List.mem_cons.1 this).resolve_left hne)).1 hex
        (Bool.eq_false_iff.2 fun hs => ?_) hst
      exact Bool.eq_false_iff.1 hfl ((isFaulted_clearFaulted _ y x).2 ⟨hne, hs⟩)

/-! ### Moves one after another -/

theorem Catalogues.law {s t : State} (m : Catalogues s t) (h : CatalogueLaw s) : CatalogueLaw t := by
  induction m with
  | refl => exact h
  | tail _ m ih => exact m.law ih

theorem Catalogues.recordLaw {s t : State} (m : Catalogues s t) (hc : CatalogueLaw s) (h : RecordLaw s) : RecordLaw t := by
  induction m with
  | refl => exact h
  | tail g m ih => exact m.recordLaw (Catalogues.law g hc) ih

theorem Catalogues.retiringBut {s t : State} (m : Catalogues s t) (hc : CatalogueLaw s) {except : Slot → Prop}
    (h : RetiringBut except s) : RetiringBut except t := by
  induction m with
  | refl => exact h
  | tail g m ih => exact m.retiringBut (Catalogues.law g hc) ih

theorem Catalogues.retiringLaw {s t : State} (m : Catalogues s t) (hc : CatalogueLaw s) (h : RetiringLaw s) : RetiringLaw t :=
  retiringLaw_iff.2 (m.retiringBut hc (retiringLaw_iff.1 h))

end Sys2Proof.Machine
end

-- ==== Proofs: the grants of the store reader ====
section
/-! The store reader makes every grant it can (R109): after `grantAll` no slot is free, or no request waits; and an operation that leaves
the slots and the requests as they are leaves no grant due. -/

namespace Sys2Proof.Machine

/-- The free read slots. -/
def State.freeTags (s : State) : Finset ReadTag := Finset.univ.filter fun t => s.readSlot t = .free

theorem mem_freeTags {s : State} {t : ReadTag} : t ∈ s.freeTags ↔ s.readSlot t = .free := by simp [State.freeTags]

theorem freeTag_eq_none {s : State} : s.freeTag = none ↔ s.freeTags = ∅ := by
  simp [State.freeTag, Finset.eq_empty_iff_forall_notMem, mem_freeTags]

theorem readSlot_of_freeTag {s : State} {t : ReadTag} (h : s.freeTag = some t) : s.readSlot t = .free := by
  simpa using List.find?_some h

theorem grantTo_readSlot (t : ReadTag) (r : BlockRequest) (s : State) (y : ReadTag) :
    (grantTo t r s).readSlot y =
      if y = t then .active r.channel r.buffer r.block (r.failed + 1) (s.timing.read * 10) else s.readSlot y :=
  readSlot_setReadSlot ..

/-- A grant takes a free slot (R109). -/
theorem grantTo_freeTags {t : ReadTag} (r : BlockRequest) {s : State} (h : s.readSlot t = .free) :
    (grantTo t r s).freeTags ⊂ s.freeTags := by
  rw [Finset.ssubset_iff_of_subset]
  · exact ⟨t, mem_freeTags.2 h, by simp [mem_freeTags, grantTo_readSlot]⟩
  · intro y hy
    rw [mem_freeTags, grantTo_readSlot] at hy
    split at hy
    · cases hy
    · exact mem_freeTags.2 hy

/-- As many grants as there are free slots leave none due. -/
theorem grantSlots_noGrantDue (n : Nat) (s : State) (h : s.freeTags.card ≤ n) : NoGrantDue (grantSlots n s) := by
  induction n generalizing s with
  | zero => exact .inl (freeTag_eq_none.2 (Finset.card_eq_zero.1 (Nat.le_zero.1 h)))
  | succ n ih =>
    unfold grantSlots
    split
    · next t r ht hr =>
      have := Finset.card_lt_card (grantTo_freeTags r (readSlot_of_freeTag ht))
      exact ih _ (by omega)
    · next hno =>
      cases ht : s.freeTag with
      | none => exact .inl ht
      | some t =>
        cases hr : s.nextRequest with
        | none => exact .inr hr
        | some r => exact absurd hr (hno t r ht)

/-- The store reader makes every grant it can (R109). -/
theorem grantAll_noGrantDue (s : State) : NoGrantDue (grantAll s) :=
  grantSlots_noGrantDue 8 s (Finset.card_le_univ _)

theorem settle_noGrantDue (c : ChannelId) (s : State) : NoGrantDue (settle c s) := grantAll_noGrantDue _

theorem judgeChannels_noGrantDue (l : List ChannelId) (s : State) : NoGrantDue (judgeChannels l s) := grantAll_noGrantDue _

/-- Whether a grant is due rests on the store reader alone. -/
theorem NoGrantDue.of_store {s t : State} (h : t.store = s.store) (hs : NoGrantDue s) : NoGrantDue t := by
  have hf : t.freeTag = s.freeTag := by unfold State.freeTag State.readSlot; rw [h]
  have hn : t.nextRequest = s.nextRequest := by unfold State.nextRequest State.waitingOf; rw [h]
  rwa [NoGrantDue, hf, hn]

end Sys2Proof.Machine
end

-- ==== Proofs: the requests that present no job ====
section
/-! What each request that presents no job to the engine does: it is answered, once an operation that `Plays` has taken place. -/

namespace Sys2Proof.Machine

open Relation

variable (s : State)

/-- What an operation does that ends no job, answers no request and leaves no grant of a read slot due. -/
structure Works (s t : State) : Prop where
  plays : Plays s t
  catalogues : Catalogues s t
  grants : NoGrantDue s → NoGrantDue t

theorem Works.refl : Works s s := ⟨.refl s, .refl, id⟩

theorem Works.trans {s t u : State} (h : Works s t) (g : Works t u) : Works s u :=
  ⟨h.plays.trans g.plays, h.catalogues.trans g.catalogues, g.grants ∘ h.grants⟩

/-- A channel settles at the end of an operation outside the catalogue, and the store reader makes every grant it can. -/
theorem Plays.settled {s t : State} (h : Plays s t) (c : ChannelId) (hm : t.memory = s.memory := by simp)
    (he : t.engine = s.engine := by simp) : Works s (settle c t) :=
  ⟨h.trans (settle_plays t c), .single (.quiet (by simp [hm]) (by simpa)), fun _ => settle_noGrantDue c t⟩

/-- An operation outside the catalogue and the store reader. -/
theorem Plays.works {s t : State} (h : Plays s t) (hm : t.memory = s.memory := by simp) (he : t.engine = s.engine := by simp)
    (hs : t.store = s.store := by simp) : Works s t := ⟨h, .single (.quiet (by rw [hm]) he), .of_store hs⟩

/-- A request of a port is answered, after operations that end no job and answer no request. -/
def Answers (p : PortId) (s t : State) : Prop := ∃ code fields u, Works s u ∧ t = reply p code fields u

theorem Works.answers {s u : State} (h : Works s u) {p : PortId} {code : ReplyCode} {fields : List Field} :
    Answers p s (reply p code fields u) := ⟨code, fields, u, h, rfl⟩

theorem refused {p : PortId} {code : ReplyCode} {fields : List Field} : Answers p s (reply p code fields s) := (Works.refl s).answers

/-! ### Requests on channels -/

/-- What a request that names a channel can do: be refused, or its work (R72). -/
theorem onChannel_keeps {P : State → Prop} (p : PortId) (channel : Byte) (work : ChannelId → State)
    (ha : ∀ code fields, P (reply p code fields s)) (hw : ∀ c, P (work c)) : P (onChannel p channel work s) := by
  unfold onChannel
  split
  · exact hw _
  · exact ha _ _

/-- What a request that only the bound port may make can do: be refused, or its work on a channel bound to the port (R72). -/
theorem onBound_keeps {P : State → Prop} (p : PortId) (channel : Byte) (work : ChannelId → State)
    (ha : ∀ code fields, P (reply p code fields s)) (hw : ∀ c, (s.channel c).port = some p → P (work c)) :
    P (onBound p channel work s) := by
  refine onChannel_keeps s p channel _ ha fun c => ?_
  split
  · next h => exact hw c h
  · exact ha _ _

/-! ### Channels -/

section Channels
variable (c : ChannelId)

theorem endCue_current (status : CueStatus) : ((endCue c status s).channel c).current = none := by
  cases h : (s.channel c).current with
  | none => rw [endCue_of_none s c status h, h]
  | some cur => rw [endCue_channel s c c status (by simp [h])]; simp

theorem endCue_queue (status : CueStatus) : ((endCue c status s).channel c).queue = (s.channel c).queue := by
  cases h : (s.channel c).current with
  | none => rw [endCue_of_none s c status h]
  | some cur => rw [endCue_channel s c c status (by simp [h])]; simp

theorem releaseChannel_plays : Plays s (releaseChannel c s) :=
  (Plays.set s c (.flushed _ _)).trans ((endCue_plays _ c _).trans (letGo_plays _ c))

/-- A channel that has been released holds nothing, and wants no answer of a resolution (R73). -/
theorem releaseChannel_empty :
    ((releaseChannel c s).channel c).current = none ∧ ((releaseChannel c s).channel c).queue = [] ∧
      ((releaseChannel c s).channel c).message = none ∧ ((releaseChannel c s).channel c).runs = [] ∧
      ∀ j, ((releaseChannel c s).channel c).job = some j → j.discarded = j := by
  simp only [releaseChannel, letGo_channel, if_true]
  refine ⟨by simp [endCue_current], by simp [endCue_queue], by simp, by simp, ?_⟩
  exact map_discarded_unwanted

theorem clearCredit_notified (q : PortId) : Notified s (clearCredit q c s) := by
  intro p
  simp only [clearCredit, port_setPort]
  split
  · next e => subst e; exact ⟨rfl, rfl, List.prefix_rfl, id⟩
  · exact .refl _

theorem clearCredit_plays (q : PortId) : Plays s (clearCredit q c s) := .of_eq (clearCredit_notified s c q) rfl rfl rfl rfl rfl

theorem dropOldCredit_plays : Plays s (dropOldCredit c s) := by
  unfold dropOldCredit
  split
  · exact clearCredit_plays s c _
  · exact .refl s

@[simp] theorem clearCredit_channel (q : PortId) (d : ChannelId) : (clearCredit q c s).channel d = s.channel d := rfl

@[simp] theorem dropOldCredit_channel (d : ChannelId) : (dropOldCredit c s).channel d = s.channel d := by
  unfold dropOldCredit; split <;> rfl

theorem dropOldCredit_memory : (dropOldCredit c s).memory = s.memory := by unfold dropOldCredit; split <;> rfl

theorem dropOldCredit_engine : (dropOldCredit c s).engine = s.engine := by unfold dropOldCredit; split <;> rfl

theorem bindTo_releaseChannel_plays (q : PortId) : Plays s (bindTo c q (releaseChannel c s)) := by
  obtain ⟨hc, hq, hm, hr, hj⟩ := releaseChannel_empty s c
  refine (releaseChannel_plays s c).trans <| (dropOldCredit_plays _ c).trans <| (clearCredit_plays _ c q).trans <| .set _ c ?_
  refine .rebound _ _ _ _ _ ?_ ?_ ?_ ?_ ?_ (.inr ⟨rfl, rfl⟩) <;> simpa

theorem unbind_plays (q : PortId) : Plays s (unbind q c s) := by
  obtain ⟨hc, hq, hm, hr, hj⟩ := releaseChannel_empty s c
  refine (releaseChannel_plays s c).trans <| (clearCredit_plays _ c q).trans <| Plays.trans (.set _ c ?_) (settle_plays _ c)
  refine .rebound _ _ _ _ _ ?_ ?_ ?_ ?_ ?_ (.inl ⟨rfl, rfl⟩) <;> simpa

theorem bindChannel_answers (p : PortId) (port : Byte) : Answers p s (bindChannel p port s c) := by
  unfold bindChannel
  dsimp only
  split
  · split
    · exact refused s
    · exact ((bindTo_releaseChannel_plays s c _).settled c (by simp [bindTo, dropOldCredit_memory]) (by simp [bindTo, dropOldCredit_engine])).answers
  · exact refused s

theorem queueCue_answers (p : PortId) (cue : Cue) (h : (s.channel c).port = some p) : Answers p s (queueCue p cue s c) := by
  unfold queueCue
  dsimp only
  split
  · exact refused s
  · next hl => exact ((Plays.set s c (.queued _ _ _ (by simp [h]) (by omega))).settled c).answers

theorem endMissing_channel (b : BufferId) : ∃ buffers, (endMissing c b s).channel c = { s.channel c with buffers := buffers } :=
  ⟨_, by simp only [endMissing, channel_setChannel_self, forgetRequest_channel]; rfl⟩

theorem endMissing_channel_ne (b : BufferId) {d : ChannelId} (h : d ≠ c) : (endMissing c b s).channel d = s.channel d := by
  simp [endMissing, channel_setChannel, h]

theorem endRetries_channel_ne {d : ChannelId} (h : d ≠ c) : (endRetries c s).channel d = s.channel d := by
  unfold endRetries
  refine foldl_keeps (P := fun t => t.channel d = s.channel d) _ (fun t b e => ?_) _ _ rfl
  split
  · split
    · rw [endMissing_channel_ne t c b h, e]
    · exact e
  · exact e

/-- Requests that wait for a retry and end change nothing of their channel but its buffers (R116). -/
theorem endRetries_channel : ∃ buffers, (endRetries c s).channel c = { s.channel c with buffers := buffers } := by
  unfold endRetries
  refine foldl_keeps (P := fun t => ∃ buffers, t.channel c = { s.channel c with buffers := buffers }) _ (fun t b h => ?_) _ _ ⟨_, rfl⟩
  obtain ⟨buffers, h⟩ := h
  split
  · split
    · obtain ⟨buffers, h'⟩ := endMissing_channel t c b
      exact ⟨buffers, by rw [h', h]⟩
    · exact ⟨buffers, h⟩
  · exact ⟨buffers, h⟩

theorem stopChannel_answers (p : PortId) : Answers p s (stopChannel p s c) := by
  unfold stopChannel wrongState
  split
  · next hd =>
    obtain ⟨buffers, hb⟩ := endRetries_channel (enterState c .stopping s) c
    have hc : (enterState c .stopping s).channel c = { s.channel c with state := .stopping } := by simp [enterState_channel]
    have hmove : ReflTransGen ChannelMove (s.channel c, s.engagedSlot c)
        ({ s.channel c with state := .stopping, buffers := buffers, job := (s.channel c).job.map ChannelJob.discarded }, s.engagedSlot c) :=
      .tail (.single (.tended _ _ buffers _ _ _)) (.toStop _ _ hd)
    refine (Plays.settled (.one c (fun d => ?_) hmove (.of_eq (by simp)) (by simp) (by simp) (by simp) (by simp)) c).answers
    simp only [channel_setChannel]
    split
    · rw [hb, hc]
    · next hne => rw [endRetries_channel_ne _ _ hne, enterState_channel, if_neg hne]
  · exact refused s

theorem haltChannel_answers (p : PortId) : Answers p s (haltChannel p s c) := by
  unfold haltChannel wrongState
  dsimp only
  split
  · next hs =>
    split
    · exact (Plays.settled (.set s c (.toHalt _ _ hs)) c rfl rfl).answers
    · next h =>
      simp only [Bool.or_eq_true, not_or, Bool.not_eq_true, Option.isSome_eq_false_iff, Option.isNone_iff_eq_none] at h
      exact (Plays.settled (Plays.trans (.set s c (.halted _ _ hs h.1 h.2)) (notifyBound_plays _ c _)) c).answers
  · exact refused s

theorem resumeChannel_answers (p : PortId) : Answers p s (resumeChannel p s c) := by
  unfold resumeChannel wrongState
  dsimp only
  split
  · next hs => exact (Plays.settled (.set s c (.resumed _ _ (by simpa using hs))) c rfl rfl).answers
  · exact refused s

theorem clearCut_answers (p : PortId) : Answers p s (clearCut p s c) := by
  unfold clearCut
  split
  · next hs => exact (Plays.set s c (.cutCleared _ _ hs)).works.answers
  · exact refused s

theorem flushChannel_answers (p : PortId) : Answers p s (flushChannel p s c) := by
  unfold flushChannel wrongState
  dsimp only
  split
  · exact refused s
  · exact (Plays.settled (Plays.trans (.set s c (.flushed _ _)) (endCue_plays _ c _)) c).answers

theorem setLanes_answers (p : PortId) (count word : Nat) (entries : List Byte) : Answers p s (setLanes p count word entries s c) := by
  unfold setLanes
  dsimp only
  split
  · exact refused s
  · next hc =>
    split
    · exact refused s
    · next hw =>
      split
      · exact refused s
      · split
        · exact refused s
        · refine (Plays.set s c (.lanesTaken _ _ _ ?_)).works.answers
          simp only [Bool.not_eq_true', decide_eq_false_iff_not, not_not] at hc hw
          exact ⟨hc.1, hc.2, hw.1, hw.2⟩

theorem setCutoff_answers (p : PortId) (behaviour : Byte) : Answers p s (setCutoff p behaviour s c) := by
  unfold setCutoff
  dsimp only
  split
  · exact refused s
  · split
    · exact refused s
    · split
      · exact (Plays.settled (Plays.trans (.set s c (.tended _ _ _ _ _ _)) (judge_plays _ c)) c).answers
      · exact (Plays.set s c (.tended _ _ _ _ _ _)).works.answers

theorem channelStatus_answers (p : PortId) (role : Role) : Answers p s (channelStatus p role s c) := by
  unfold channelStatus
  split <;> exact refused s

end Channels

/-! ### Holds -/

theorem copyHolds_plays (c : ChannelId) (groups itemHold : Byte) : Plays s (copyHolds groups itemHold s c) := by
  have h := ChannelMove.noted (s.channel c) (s.engagedSlot c) (fun cur => { cur with groups := groups, itemHold := itemHold }) fun _ => rfl
  exact Plays.set s c h

theorem writeHolds_plays (x : Slot) (groups itemHold : Byte) : Plays s (writeHolds x groups itemHold s) := by
  have hw := writeRecord_plays s x (({ s.record x with groups := groups, itemHold := itemHold } : Record).fresh .holds)
  unfold writeHolds
  refine Plays.trans ?_ (judgeChannels_plays _ _)
  exact foldl_keeps (P := Plays s) _ (fun t c h => h.trans (copyHolds_plays t c _ _)) _ _ hw

theorem presentMirror_plays : Plays s (presentMirror s) := by
  refine ⟨.of_eq (by simp [presentMirror]) (by simp [presentMirror]), .of_eq (by simp [presentMirror]), .grant rfl rfl fun n hn => ?_⟩
  unfold State.waitsAt at hn ⊢
  split
  · next hp => rw [dif_pos hp] at hn; exact hn
  · next hp =>
    split
    · next hc => rw [dif_neg hp, dif_pos hc] at hn; exact hn
    · next hc => 
      simp only [hp, hc, dite_false, Bool.and_eq_true, decide_eq_true_eq] at hn ⊢
      exact ⟨hn.1, rfl⟩

theorem setHold_plays (h : HoldUnit) (hm : h.mirrorWaiting = s.hold.mirrorWaiting := by rfl) : Plays s (s.setHold h) :=
  .of_eq (.of_eq rfl) rfl rfl rfl rfl hm

theorem setLatch_works (g : GroupId) (source : HoldSource) (port : Option PortId) : Works s (setLatch g source port s) := by
  unfold setLatch
  refine ⟨(setHold_plays s _).trans <| (notifyControl_plays _ _).trans <| (judgeChannels_plays _ _).trans (presentMirror_plays _),
    .single (.quiet (by simp [State.setHold]) (by simp [State.setHold])), fun _ => ?_⟩
  exact (judgeChannels_noGrantDue _ _).of_store (presentMirror_store _)

theorem groupRequest_answers (p : PortId) (group : Byte) (work : GroupId → State) (hw : ∀ g, Answers p s (work g)) :
    Answers p s (groupRequest p group work s) := by
  unfold groupRequest
  split
  · exact hw _
  · exact refused s

theorem holdGroupOn_answers (p : PortId) (g : GroupId) : Answers p s (holdGroupOn p s g) := by
  unfold holdGroupOn
  split
  · exact refused s
  · exact (setLatch_works s _ _ _).answers

theorem liftGroupOn_answers (p : PortId) (g : GroupId) : Answers p s (liftGroupOn p s g) := by
  unfold liftGroupOn
  split
  · exact refused s
  · split
    · exact refused s
    · exact (((setHold_plays s _).trans <| (notifyControl_plays _ _).trans (presentMirror_plays _)).works).answers

theorem lineRise_works (g : GroupId) : Works s (lineRise g s) := by
  unfold lineRise
  split
  · exact .refl s
  · have h := (setHold_plays s _).trans (raiseCause_plays (s.setHold { s.hold with lines := s.hold.lines ||| groupBit g }) .holdLine)
    have hw := h.works (by simp [State.setHold]) (by simp [State.setHold]) (by simp [State.setHold])
    dsimp only
    split
    · exact hw
    · exact hw.trans (setLatch_works _ _ _ _)

theorem lineFall_works (g : GroupId) : Works s (lineFall g s) := by
  unfold lineFall
  split
  · exact ((setHold_plays s _).trans (raiseCause_plays _ _)).works (by simp [State.setHold]) (by simp [State.setHold])
      (by simp [State.setHold])
  · exact .refl s

end Sys2Proof.Machine
end

-- ==== Proofs: the other requests that present no job, and the commands that serve none ====
section
/-! What the requests on pins, roles, timing, the store reader and the attention unit do, and what the commands do that serve no request:
the arrivals, the dispatch, the outgoing side, the store reader's events, the hold lines and the time base. -/

namespace Sys2Proof.Machine

open Relation

variable (s : State)

/-! ### Requests on pins, timing and attention -/

theorem setPins_plays (pins : List Pin) : Plays s (s.setPins pins) := .of_eq (.of_eq rfl) rfl rfl rfl rfl rfl

theorem setAttention_plays (a : Attention) : Plays s (s.setAttention a) := .of_eq (.of_eq rfl) rfl rfl rfl rfl rfl

theorem setPins_works (pins : List Pin) : Works s (s.setPins pins) := (setPins_plays s pins).works rfl rfl rfl

theorem setAttention_works (a : Attention) : Works s (s.setAttention a) := (setAttention_plays s a).works rfl rfl rfl

/-- A port whose service, replies and notices stand as they were. -/
theorem setPort_notified (p : PortId) {q : Port} (h : (s.port p).Notified q) : Notified s (s.setPort p q) := by
  intro y
  rw [port_setPort]
  split
  · next e => rw [e]; exact h
  · exact .refl _

theorem setPort_plays (p : PortId) {q : Port} (h : (s.port p).Notified q) : Plays s (s.setPort p q) :=
  .of_eq (setPort_notified s p h) rfl rfl rfl rfl rfl

theorem unpin_answers (p : PortId) (role : Role) (slot : Slot) (port : Byte) : Answers p s (unpin p role slot port s) := by
  unfold unpin
  split
  · dsimp only
    split
    · split
      · exact refused s
      · exact (setPins_works s _).answers
    · exact refused s
  · exact refused s

theorem setTiming_answers (p : PortId) (collection read retry : Nat) : Answers p s (setTiming p collection read retry s) := by
  unfold setTiming
  split
  · exact refused s
  · split
    · exact refused s
    · split
      · exact refused s
      · have h : Plays s { s with timing := { collection := collection, read := read, retry := retry } } :=
          .of_eq (.of_eq rfl) rfl rfl rfl rfl rfl
        exact (h.works rfl rfl rfl).answers

theorem clearLinkFaults_plays : Plays s (clearLinkFaults s) := by
  refine .of_eq (fun p => ?_) rfl rfl rfl rfl rfl
  have : (clearLinkFaults s).port p = { s.port p with linkFault := false } := rowGet_map ..
  rw [this]
  exact ⟨rfl, rfl, List.prefix_rfl, id⟩

theorem acknowledge_answers (p : PortId) (causes : CauseSet) : Answers p s (acknowledge p causes s) := by
  have h := setAttention_plays s (s.attention.acknowledge causes)
  unfold acknowledge
  dsimp only
  split
  · exact ((h.trans (clearLinkFaults_plays _)).works rfl rfl rfl).answers
  · exact (setAttention_works s _).answers

theorem setMask_answers (p : PortId) (enables : CauseSet) : Answers p s (setMask p enables s) :=
  (setAttention_works s _).answers

/-! ### ASSIGN_ROLE -/

theorem unbind_works (q : PortId) (c : ChannelId) : Works s (unbind q c s) :=
  ⟨unbind_plays s c q, .single (.quiet (by simp) (by simp)), fun _ => settle_noGrantDue _ _⟩

theorem freeOrder_works {α : Type} (rank : α → Nat) (l : List α) : Works s (freeOrder rank l s).2 := (freeOrder_plays s rank l).works

theorem foldl_works {α : Type} (f : State → α → State) (hf : ∀ t a, Works t (f t a)) (l : List α) {t : State} (h : Works s t) :
    Works s (l.foldl f t) :=
  foldl_keeps (P := Works s) f (fun t a h => h.trans (hf t a)) l t h

theorem setRole_works (pins : List Pin) (p : PortId) (role : Role) :
    Works s ((s.setPins pins).setPort p { s.port p with role := role }) := by
  have h : (s.port p).Notified { s.port p with role := role } := ⟨rfl, rfl, List.prefix_rfl, id⟩
  exact ((setPins_plays s pins).trans (setPort_plays (s.setPins pins) p h)).works rfl rfl rfl

theorem assignRole_answers (p target : PortId) (role : Role) : Answers p s (assignRole p target role s) := by
  unfold assignRole
  dsimp only
  split
  · exact refused s
  · have h := foldl_works s (fun w c => unbind target c w) (fun t c => unbind_works t target c)
      (freeOrder Fin.val (s.boundTo target) s).1 (freeOrder_works s Fin.val (s.boundTo target))
    exact (h.trans (setRole_works _ _ target role)).answers

/-! ### The store reader -/

theorem setReadSlot_plays (g : ReadTag) (x : ReadSlot) : Plays s (s.setReadSlot g x) := setStore_plays s _

theorem setStalled_plays (b : Bool) : Plays s (setStalled b s) := .of_eq (.of_eq rfl) rfl rfl rfl rfl rfl

theorem stallBegins_plays (block : Nat) : Plays s (stallBegins block s) := by
  unfold stallBegins
  split
  · exact (setStalled_plays s true).trans (alarmEvent_plays _ _)
  · exact .refl s

theorem stallEnds_plays : Plays s (stallEnds s) := by
  unfold stallEnds
  split
  · exact .refl s
  · exact setStalled_plays s false

theorem cancelSlot_plays (n : Nat) (x : ReadTag × ChannelId × BufferId) : Plays s (cancelSlot (n, s) x).2 :=
  (setReadSlot_plays s _ _).trans (failAttempt_plays _ _ _ _)

theorem cancelSlot_memory (acc : Nat × State) (x : ReadTag × ChannelId × BufferId) : (cancelSlot acc x).2.memory = acc.2.memory := by
  simp [cancelSlot, State.setReadSlot]

theorem cancelSlot_engine (acc : Nat × State) (x : ReadTag × ChannelId × BufferId) : (cancelSlot acc x).2.engine = acc.2.engine := by
  simp [cancelSlot, State.setReadSlot]

/-- What is kept of the catalogue, the channels and the ports by an operation that may leave a grant due. -/
structure Stores (s t : State) : Prop where
  plays : Plays s t
  memory : t.memory = s.memory
  engine : t.engine = s.engine

theorem Stores.granted {s t : State} (h : Stores s t) : Works s (grantAll t) :=
  ⟨h.plays.trans (grantAll_plays t), .single (.quiet (by simp [h.memory]) (by simpa using h.engine)), fun _ => grantAll_noGrantDue t⟩

theorem Stores.trans {s t u : State} (h : Stores s t) (g : Stores t u) : Stores s u :=
  ⟨h.plays.trans g.plays, g.memory.trans h.memory, g.engine.trans h.engine⟩

theorem settleChannel_stores (c : ChannelId) : Stores s (settleChannel c s) := ⟨settleChannel_plays s c, by simp, by simp⟩

theorem grantAll_stores : Stores s (grantAll s) := ⟨grantAll_plays s, by simp, by simp⟩

theorem clearStale_stores : Stores s (clearStale s) := ⟨setStore_plays s _, rfl, rfl⟩

theorem stallEnds_stores : Stores s (stallEnds s) := ⟨stallEnds_plays s, by simp, by simp⟩

theorem cancelSlots_stores (l : List (ReadTag × ChannelId × BufferId)) (acc : Nat × State) : Stores acc.2 (l.foldl cancelSlot acc).2 := by
  induction l generalizing acc with
  | nil => exact ⟨.refl _, rfl, rfl⟩
  | cons x rest ih =>
    have h : Stores acc.2 (cancelSlot acc x).2 := ⟨cancelSlot_plays acc.2 acc.1 x, cancelSlot_memory acc x, cancelSlot_engine acc x⟩
    exact h.trans (ih _)

theorem settleChannels_stores (l : List (ReadTag × ChannelId × BufferId)) {t : State} (h : Stores s t) :
    Stores s (l.foldl (fun w x => settleChannel x.2.1 w) t) :=
  foldl_keeps (P := Stores s) (fun w (x : ReadTag × ChannelId × BufferId) => settleChannel x.2.1 w)
    (fun t x h => h.trans (settleChannel_stores t x.2.1)) l t h

theorem resetStore_works : Works s (resetStore s).2 := by
  have ho : Stores s (freeOrder (fun x : ReadTag × ChannelId × BufferId => x.1.val) s.activeSlots s).2 :=
    ⟨freeOrder_plays s _ _, by simp, by simp⟩
  unfold resetStore
  cases hf : freeOrder (fun x : ReadTag × ChannelId × BufferId => x.1.val) s.activeSlots s with
  | mk order t =>
    rw [hf] at ho
    have hc := cancelSlots_stores order (0, t)
    cases hs : order.foldl cancelSlot (0, t) with
    | mk n u =>
      rw [hs] at hc
      have hg := (ho.trans hc).trans ((clearStale_stores u).trans ((stallEnds_stores _).trans (grantAll_stores _)))
      simp only [hs]
      exact (settleChannels_stores s order hg).granted

/-! ### The services -/

end Sys2Proof.Machine
end

-- ==== Proofs: the commands that serve no request and no job ====
section
/-! Arrivals, the dispatch, the outgoing side, the store reader's events, the collection timeout, the hold lines and the time base: none of
them touches the catalogue, answers a job at the engine or leaves a grant of a read slot due. -/

namespace Sys2Proof.Machine

open Relation

/-- What a command keeps that ends no job at the engine. -/
structure Quiet (s t : State) : Prop where
  moves : Moves s t
  presents : Presents s t
  catalogues : Catalogues s t
  grants : NoGrantDue s → NoGrantDue t

theorem Works.quiet {s t : State} (h : Works s t) : Quiet s t := ⟨h.plays.moves, h.plays.presents, h.catalogues, h.grants⟩

variable (s : State)

theorem Quiet.refl : Quiet s s := (Works.refl s).quiet

/-- A port changes, and the request that it has in service, if any, is as it was. -/
theorem setPort_quiet (p : PortId) {q : Port} (h : q.service = (s.port p).service) : Quiet s (s.setPort p q) := by
  refine ⟨.of_eq rfl rfl, .of_eq rfl rfl (waitsAt_eq (fun y => ?_) (fun _ => rfl) rfl), .single (.quiet rfl rfl), .of_store rfl⟩
  rw [port_setPort]
  split
  · next e => rw [e, h]
  · rfl

theorem Quiet.trans {s t u : State} (h : Quiet s t) (g : Quiet t u) : Quiet s u :=
  ⟨h.moves.trans g.moves, h.presents.trans g.presents, h.catalogues.trans g.catalogues, g.grants ∘ h.grants⟩

theorem raiseCause_works (k : Cause) : Works s (raiseCause k s) := (raiseCause_plays s k).works

theorem linkFault_quiet (p : PortId) : Quiet s (linkFault p s) := by
  unfold linkFault
  exact (setPort_quiet s p (q := { s.port p with linkFault := true }) rfl).trans (raiseCause_works _ _).quiet

/-! ### Arrivals -/

theorem takeIn_quiet (p : PortId) (body : List Byte) : Quiet s (takeIn p body s) := by
  unfold takeIn
  dsimp only
  split
  · exact linkFault_quiet s p
  · split
    · exact setPort_quiet s p rfl
    · split
      · exact setPort_quiet s p rfl
      · exact linkFault_quiet s p

theorem takeCredit_quiet (p : PortId) (channel : Byte) (amount : Nat) : Quiet s (takeCredit p channel amount s) := by
  unfold takeCredit
  split
  · dsimp only
    split
    · exact setPort_quiet s p rfl
    · exact .refl s
  · exact .refl s

/-! ### The dispatch -/

theorem portWaits_of_service {p : PortId} {v : Service} (h : (s.port p).service = some v) :
    s.portWaits p = v.request.presentsJob := by
  simp [State.portWaits, h]

theorem portWaits_of_none {p : PortId} (h : (s.port p).service = none) : s.portWaits p = false := by
  simp [State.portWaits, h]

theorem portWaits_setPort_ne {p y : PortId} (q : Port) (h : y ≠ p) : (s.setPort p q).portWaits y = s.portWaits y := by
  simp only [State.portWaits, port_setPort, if_neg h]

/-- A port's request is put in service where none was: no job that waited stops waiting. -/
theorem waitsAt_setPort {p : PortId} {q : Port} (h : (s.port p).service = none) (n : Nat) (hn : s.waitsAt n = true) :
    (s.setPort p q).waitsAt n = true := by
  unfold State.waitsAt at hn ⊢
  split
  · next hp =>
    rw [dif_pos hp] at hn
    have hne : (⟨n, hp⟩ : PortId) ≠ p := fun e => by rw [e, portWaits_of_none s h] at hn; cases hn
    rw [portWaits_setPort_ne s q hne]
    exact hn
  · next hp => rw [dif_neg hp] at hn; exact hn

/-- The same jobs wait where a port's service presents one exactly where it did. -/
theorem waitsAt_setPort_eq {p : PortId} {q : Port} (h : (s.setPort p q).portWaits p = s.portWaits p) (n : Nat) :
    (s.setPort p q).waitsAt n = s.waitsAt n := by
  unfold State.waitsAt
  split
  · next hp =>
    by_cases e : (⟨n, hp⟩ : PortId) = p
    · rw [e, h]
    · rw [portWaits_setPort_ne s q e]
  · rfl

/-- A request that is answered as it is dispatched leaves its port with none in service. -/
theorem reply_setPort_quiet {p : PortId} {q : Port} {v : Service} (code : ReplyCode) (fields : List Field)
    (h : (s.port p).service = none) (hq : q.service = some v) : Quiet s (reply p code fields (s.setPort p q)) := by
  have e := reply_of_service (s := s.setPort p q) (p := p) (v := v) code fields (by simpa using hq)
  rw [e, answered, setPort_setPort]
  exact setPort_quiet s p h.symm

/-- A request that is put in service. -/
theorem serve_quiet {p : PortId} {q : Port} {v : Service} (h : (s.port p).service = none) (hq : q.service = some v) :
    (v.request.presentsJob = false → Quiet s (s.setPort p q)) ∧ Quiet s (grantJob (s.setPort p q)) := by
  constructor
  · intro hv
    refine ⟨.of_eq rfl rfl, .of_eq rfl rfl (waitsAt_setPort_eq s ?_), .single (.quiet rfl rfl), .of_store rfl⟩
    rw [portWaits_of_none s h, portWaits_of_service (v := v) _ (by simpa using hq), hv]
  · exact ⟨.of_eq (by simp) (by simp), .grant rfl rfl (waitsAt_setPort s h), .single (.quiet (by simp) (by simp)), .of_store (by simp)⟩

theorem judgeRequest_quiet (p : PortId) (body : List Byte) (h : (s.port p).service = none) : Quiet s (judgeRequest p body s) := by
  unfold judgeRequest
  dsimp only
  split
  · exact setPort_quiet s p rfl
  · split
    · split
      · exact reply_setPort_quiet s _ _ h rfl
      · split
        · exact (serve_quiet s h rfl).2
        · next hj => exact (serve_quiet s h rfl).1 (by simpa using hj)
    · exact setPort_quiet s p rfl

theorem dispatch_quiet (p : PortId) : Quiet s (dispatch p s) := by
  unfold dispatch
  dsimp only
  split
  · next body rest hv _ =>
    split
    · refine Quiet.trans (setPort_quiet s p (q := { s.port p with intake := rest }) rfl) (judgeRequest_quiet _ p body ?_)
      simpa using hv
    · exact .refl s
  · exact .refl s

/-! ### The outgoing side -/

theorem takeAudio_quiet (p : PortId) (c : ChannelId) (m : Message) : Quiet s (takeAudio p c m s) := setPort_quiet s p rfl

theorem messageSent_plays (c : ChannelId) (m : Message) : Plays s (s.setChannel c ((s.channel c).messageSent m)) :=
  .set s c (.sent _ _ m)

theorem channelSends_quiet (p : PortId) (c : ChannelId) (m : Message) : Quiet s (channelSends p c m s) := by
  have h := (messageSent_plays (takeAudio p c m s) c m).trans (finishCue_plays _ c)
  unfold channelSends
  refine (takeAudio_quiet s p c m).trans ?_
  dsimp only
  split
  · exact ((h.trans (judge_plays _ c)).settled c).quiet
  · exact (h.settled c).quiet

theorem arbitrate_quiet (p : PortId) : Quiet s (arbitrate p s) := by
  unfold arbitrate
  dsimp only
  split
  · exact .refl s
  · split
    · exact setPort_quiet s p rfl
    · exact setPort_quiet s p rfl
    · split
      · exact channelSends_quiet s p _ _
      · exact .refl s

theorem sendPiece_quiet (p : PortId) : Quiet s (sendPiece p s) := by
  unfold sendPiece
  dsimp only
  split
  · exact .refl s
  · exact setPort_quiet s p rfl

/-! ### The store reader's events -/

theorem Stores.settled {s t : State} (h : Stores s t) (c : ChannelId) : Works s (settle c t) :=
  h.plays.settled c h.memory h.engine

theorem afterAnswer_works {t : State} (h : Stores s t) (c : ChannelId) : Works s (afterAnswer c t) :=
  (h.trans (grantAll_stores t)).settled c

theorem setReadSlot_stores (g : ReadTag) (x : ReadSlot) : Stores s (s.setReadSlot g x) := ⟨setReadSlot_plays s g x, rfl, rfl⟩

theorem failAttempt_stores (c : ChannelId) (b : BufferId) (f : Failure) : Stores s (failAttempt c b f s) :=
  ⟨failAttempt_plays s c b f, by simp, by simp⟩

theorem endData_stores (c : ChannelId) (b : BufferId) (data : List Byte) : Stores s (endData c b data s) :=
  ⟨endData_plays s c b data, by simp, by simp⟩

theorem answerTag_works (tag : Byte) (attempt : ChannelId → BufferId → State → State)
    (ha : ∀ c b t, Stores t (attempt c b t)) : Works s (answerTag tag attempt s) := by
  unfold answerTag
  split
  · unfold answerSlot
    split
    · exact .refl s
    · exact ((setReadSlot_stores s _ _).trans (stallEnds_stores _)).granted
    · exact afterAnswer_works s ((setReadSlot_stores s _ _).trans (ha _ _ _)) _
  · exact .refl s

theorem slotTimeout_works (g : ReadTag) : Works s (slotTimeout g s) := by
  unfold slotTimeout
  split
  · next c b block _ _ =>
    have h := ((setReadSlot_stores s g (.stale block)).trans (failAttempt_stores _ c b .timeout))
    exact afterAnswer_works s (h.trans ⟨stallBegins_plays _ block, by simp, by simp⟩) c
  · exact .refl s

/-! ### The collection timeout -/

theorem expireWait_works (c : ChannelId) (cur : CurrentCue) (h : (s.channel c).current.isSome) : Works s (expireWait c cur s) := by
  unfold expireWait
  have hk : Stores s (notifyBound c (.collectionTimeout cur.tag cur.next) (keepRemainder c s)) :=
    ⟨(keepRemainder_plays s c h).trans (notifyBound_plays _ c _), by simp, by simp⟩
  have hu : Stores s (if cur.muted then endCue c .cut (notifyBound c (.collectionTimeout cur.tag cur.next) (keepRemainder c s))
      else notifyBound c (.collectionTimeout cur.tag cur.next) (keepRemainder c s)) := by
    split
    · exact hk.trans ⟨endCue_plays _ c _, by simp, by simp⟩
    · exact hk
  dsimp only
  split
  · exact (hu.trans ⟨judge_plays _ c, by simp, by simp⟩).settled c
  · exact hu.settled c

theorem waitTimeout_works (c : ChannelId) : Works s (waitTimeout c s) := by
  unfold waitTimeout
  dsimp only
  split
  · next cur hc _ =>
    split
    · exact expireWait_works s c cur (by simp [hc])
    · exact .refl s
  · exact .refl s

/-! ### The time base -/

theorem channel_tickTimers (c : ChannelId) : (tickTimers s).channel c = (s.channel c).tick := rowGet_map ..

theorem readSlot_tickTimers (g : ReadTag) : (tickTimers s).readSlot g = (s.readSlot g).tick := rowGet_map ..

theorem tickTimers_plays : Plays s (tickTimers s) := by
  refine .keep (fun c => ?_) (.of_eq rfl) (fun c => by rw [channel_tickTimers]; rfl) rfl rfl rfl
  have e : (tickTimers s).view c = ((s.channel c).tick, s.engagedSlot c) := by rw [State.view, channel_tickTimers]; rfl
  rw [e]
  exact .single (.tended _ _ _ _ _ _)

/-- A tick frees no slot and makes no request wait (R109, R110). -/
theorem tickTimers_grants (h : NoGrantDue s) : NoGrantDue (tickTimers s) := by
  rcases h with h | h
  · refine .inl (freeTag_eq_none.2 ?_)
    rw [freeTag_eq_none] at h
    ext g
    have := Finset.eq_empty_iff_forall_notMem.1 h g
    rw [mem_freeTags] at this ⊢
    rw [readSlot_tickTimers]
    cases hg : s.readSlot g <;> simp_all [ReadSlot.tick]
  · exact .inr h

theorem sendLapses_plays (cause : LapseCause) (l : List Pin) : Plays s (sendLapses cause l s) :=
  foldl_keeps (P := Plays s) _ (fun t x h => h.trans (notify_plays t x.port _)) _ _ (.refl s)

theorem countPins_works : Works s (countPins s) := by
  unfold countPins
  have ho := freeOrder_works (s.setPins ((s.pinTable.pins.filter fun x => 1 < x.remaining).map fun x =>
    { x with remaining := x.remaining - 1 })) Pin.rank (s.pinTable.pins.filter fun x => x.remaining ≤ 1)
  exact (setPins_works s _).trans (ho.trans ((sendLapses_plays _ _ _).works))

theorem setPrescaler_works (n : Nat) : Works s { s with pinTable := { s.pinTable with prescaler := n } } := by
  have h : Plays s { s with pinTable := { s.pinTable with prescaler := n } } := .of_eq (.of_eq rfl) rfl rfl rfl rfl rfl
  exact h.works rfl rfl rfl

theorem tickPins_works : Works s (tickPins s) := by
  unfold tickPins
  split
  · exact (setPrescaler_works s 0).trans (countPins_works _)
  · exact setPrescaler_works s _

theorem advanceFaultTime_works : Works s (advanceFaultTime s) :=
  Plays.works (.of_eq (.of_eq (by simp)))

theorem tick_works : Works s (tick s) := by
  have h : Works (advanceFaultTime s) (tickTimers (advanceFaultTime s)) :=
    ⟨tickTimers_plays _, .single (.quiet rfl rfl), tickTimers_grants _⟩
  exact (advanceFaultTime_works s).trans (h.trans (tickPins_works _))

end Sys2Proof.Machine
end

-- ==== Proofs: the channels' jobs at the engine ====
section
/-! START_RESOLUTION, SEGMENT_RESOLUTION, DISENGAGE and MIRROR_WRITE (R15, R48, R76, R122, R140): what each does up to the end of its job,
and that the laws of the catalogue outlive it. -/

namespace Sys2Proof.Machine

open Relation

/-- What a job at the engine keeps, up to its end, outside a format; and it neither begins nor ends one. -/
structure JobDone (s t : State) : Prop where
  moves : Moves s t
  inFormat : t.inFormat = s.inFormat
  grants : NoGrantDue s → NoGrantDue t
  catalogue : s.inFormat = false → CatalogueLaw s → CatalogueLaw t
  records : s.inFormat = false → CatalogueLaw s → RecordLaw s → RecordLaw t
  retiring : s.inFormat = false → CatalogueLaw s → EngagementLaw s → RetiringLaw s → RetiringLaw t

theorem JobDone.of_catalogues {s t : State} (hm : Moves s t) (hi : t.inFormat = s.inFormat) (hg : NoGrantDue s → NoGrantDue t)
    (hc : s.inFormat = false → CatalogueLaw s → Catalogues s t) : JobDone s t :=
  ⟨hm, hi, hg, fun hf h => (hc hf h).law h, fun hf h => (hc hf h).recordLaw h, fun hf h _ => (hc hf h).retiringLaw h⟩

/-! ### The engagement table -/

section Engagement
variable {s : State} (c : ChannelId)

theorem setEngagement_catalogueLaw {e : Option Slot} (hf : s.inFormat = false) (he : ∀ x, e = some x → x ∈ s.engine.linkedSlots)
    (h : CatalogueLaw s) : CatalogueLaw (s.setEngagement c e) := by
  obtain ⟨h1, h2, h3, h4, h5, h6⟩ := (catalogueLaw_iff hf).1 h
  refine CatalogueKept.law ⟨h1, h2, h3, h4, h5, fun d x hx => ?_⟩ hf
  rw [engagedSlot_setEngagement] at hx
  split at hx
  · exact he x hx
  · exact h6 d x hx

theorem engagements_ne_zero {x : Slot} : s.engagements x ≠ 0 ↔ ∃ d, s.engagedSlot d = some x := by
  rw [Ne, engagements_eq_zero]; simp

/-- An engagement that a channel with none makes leaves every other as it was. -/
theorem setEngagement_retiringLaw {x : Slot} (hn : s.engagedSlot c = none) (h : RetiringLaw s) :
    RetiringLaw (s.setEngagement c (some x)) := by
  intro hf y hy hfl hst
  obtain ⟨d, hd⟩ := engagements_ne_zero.1 (h hf y hy hfl hst)
  have hne : d ≠ c := fun e => by rw [e, hn] at hd; cases hd
  exact engagements_ne_zero.2 ⟨d, by rw [engagedSlot_setEngagement, if_neg hne, hd]⟩

/-- An engagement that ends leaves every item but its own engaged as it was. -/
theorem setEngagement_retiringBut {x : Slot} (hx : s.engagedSlot c = some x) (h : RetiringLaw s) :
    RetiringBut (· = x) (s.setEngagement c none) := by
  intro hf y hy hne hfl hst
  obtain ⟨d, hd⟩ := engagements_ne_zero.1 (h hf y hy hfl hst)
  have : d ≠ c := fun e => by rw [e, hx] at hd; exact hne (Option.some.inj hd).symm
  exact engagements_ne_zero.2 ⟨d, by rw [engagedSlot_setEngagement, if_neg this, hd]⟩

/-- Where the one slot left out is unlinked, faulted, not RETIRING or engaged, every RETIRING item is engaged. -/
theorem RetiringBut.retiringLaw {x : Slot} (h : RetiringBut (· = x) s)
    (hx : x ∈ s.engine.linkedSlots → s.isFaulted x = false → (s.record x).state = .retiring → s.engagements x ≠ 0) : RetiringLaw s := by
  intro hf y hy hfl hst
  by_cases e : y = x
  · subst e; exact hx hy hfl hst
  · exact h hf y hy e hfl hst

end Engagement

/-! ### The end of a channel's job -/

section ChannelJobs
variable (s : State) (c : ChannelId)

theorem endJob_channel (d : ChannelId) : (endJob c s).channel d = if d = c then { s.channel c with job := none } else s.channel d :=
  channel_setChannel ..

theorem settle_catalogue : CatalogueMove s (settle c s) := .quiet (by simp) (by simp)

/-! ### START_RESOLUTION -/

theorem skipCue_channel (cue : Cue) (reason : SkipReason) (d : ChannelId) :
    (skipCue c cue reason s).channel d =
      if d = c then ({ s.channel c with queue := (s.channel c).queue.tail } : Channel).wentOn else s.channel d := by
  simp only [skipCue, goOn_channel, notifyBound_channel, channel_setChannel, if_true]
  split <;> rfl

/-- The chain of a key's bucket holds linked slots alone. -/
theorem linked_of_chain (key : Key) : ∀ x ∈ s.engine.chain key.bucket, x ∈ s.engine.linkedSlots := fun _ =>
  Engine.mem_linkedSlots_of_chain

/-- A start resolution is judged by a lookup and reads, and grants a linked slot alone (R76). -/
theorem judgeStart_cases (cue : Cue) (role : Role) (ignore : Bool) :
    ∃ answer t, judgeStart c cue role ignore s = (answer, t) ∧ Sifts (· ∈ s.engine.linkedSlots) s t ∧
      ∀ x r, answer = .ok (x, r) → x ∈ t.engine.linkedSlots := by
  unfold judgeStart
  split
  · exact ⟨_, _, rfl, .refl, by simp⟩
  · rcases lookup_cases (· ∈ s.engine.linkedSlots) s (recordFault (.channel c) .key) (recordFault_flags _ _ _) cue.key
      (linked_of_chain s cue.key) with ⟨x, t, e, ht, hx⟩ | ⟨r, t, e, ht, hr, -⟩
    · rw [e]
      dsimp only
      have hx := Engine.mem_linkedSlots_of_chain hx.1
      have hlink := hx
      rw [ht.linkedSlots] at hlink
      have hw : Sifts (· ∈ s.engine.linkedSlots) t (readStart x cue.start.toNat t).2 := readWords_sifts _ t x _
      split
      · next w u e' =>
        rw [e'] at hw
        exact ⟨_, _, rfl, (ht.trans hw).faulted _ _ x hlink, by simp⟩
      · next u e' =>
        rw [e'] at hw
        split
        · exact ⟨_, _, rfl, ht.trans hw, by simp⟩
        · refine ⟨_, _, rfl, ht.trans hw, fun y r h => ?_⟩
          cases h
          rw [hw.linkedSlots]
          exact hx
    · rw [e]
      rcases hr with rfl | rfl <;> exact ⟨_, _, rfl, ht, by simp⟩

/-- The answer of a start resolution makes moves of a channel that awaits it. -/
theorem takeStart_moves (cue : Cue) (role : Role) (ignore discard : Bool) (answer : StartAnswer)
    (h : (s.channel c).job = some (.start cue role ignore discard)) : Moves s (takeStart c cue discard answer s) := by
  have hj : (s.channel c).job.any ChannelJob.isStart = true := by simp [h, ChannelJob.isStart]
  unfold takeStart
  cases discard with
  | true =>
    split
    · exact .one c rfl (endJob_channel s c) (.single (.startDiscarded _ _ hj))
    · next x r => exact Moves.engage c (by simp [endJob]) (by simp [endJob]) (.grantDiscarded _ _ x hj)
  | false =>
    split
    · have hm := ChannelMove.skipped _ (s.engagedSlot c) _ _ _ h
      refine Moves.one c (by simp [skipCue, endJob]) (fun d => ?_) (.single hm)
      simp only [Bool.false_eq_true, if_false, skipCue_channel, endJob_channel, if_true]
      split <;> rfl
    · next x r =>
      have hm := ChannelMove.started _ (s.engagedSlot c) _ _ _ (startedCue cue x r)
        (resolveRun r (startedCue cue x r).f0 (startedCue cue x r).f1).toList h
      exact (Moves.engage c (by simp [startCue, endJob]) (by simp [startCue, endJob, startedCue]) hm).trans (judge_plays _ c).moves

/-- Of the catalogue, the answer of a start resolution changes the engagement of its channel alone, and by a grant alone. -/
theorem takeStart_catalogue (cue : Cue) (discard : Bool) (answer : StartAnswer) :
    (∃ x r, answer = .ok (x, r) ∧ CatalogueMove (s.setEngagement c (some x)) (takeStart c cue discard answer s)) ∨
      CatalogueMove s (takeStart c cue discard answer s) := by
  unfold takeStart
  split
  · refine .inr ?_
    split
    · exact .quiet rfl rfl
    · exact .quiet (by simp [skipCue]) (by simp [skipCue])
  · next x r =>
    refine .inl ⟨x, r, rfl, ?_⟩
    dsimp only
    split
    · exact .quiet rfl rfl
    · exact .quiet (by simp [startCue]) (by simp [startCue])

/-- A start resolution that is served ends its job, after what keeps the laws (R15, R76). -/
theorem serveStart_done : serveStart c s = s ∨
    ∃ t, serveStart c s = finishJob t ∧ s.arbiter.serving = some (channelPosition c) ∧ JobDone s t := by
  unfold serveStart
  split
  · next cue role ignore discard h =>
    split
    · next hg =>
      obtain ⟨answer, t, e, ht, hx⟩ := judgeStart_cases s c cue role ignore
      refine .inr ⟨_, by rw [e], by simpa [channelGranted, State.isServing] using hg, ?_⟩
      have hjob : (t.channel c).job = some (.start cue role ignore discard) := by rw [ht.channel]; exact h
      have hmove := takeStart_moves t c cue role ignore discard answer hjob
      have hsift : CatalogueMove s t := .sifted ht fun _ => id
      have hset := settle_catalogue (takeStart c cue discard answer t) c
      have hi : (takeStart c cue discard answer t).inFormat = t.inFormat := by
        rcases takeStart_catalogue t c cue discard answer with ⟨x, r, -, hq⟩ | hq <;> exact hq.inFormat
      refine ⟨ht.plays.moves.trans (hmove.trans (settle_plays _ c).moves), hset.inFormat.trans (hi.trans ht.inFormat),
        fun _ => settle_noGrantDue _ _, ?_, ?_, ?_⟩
      all_goals rcases takeStart_catalogue t c cue discard answer with ⟨x, r, rfl, hq⟩ | hq
      · intro hf hc
        exact hset.law (hq.law (setEngagement_catalogueLaw c (ht.inFormat.trans hf) (fun y hy => Option.some.inj hy ▸ hx x r rfl)
          (hsift.law hc)))
      · exact fun _ hc => hset.law (hq.law (hsift.law hc))
      · intro hf hc hr
        have hc' := setEngagement_catalogueLaw c (ht.inFormat.trans hf) (fun y hy => Option.some.inj hy ▸ hx x r rfl) (hsift.law hc)
        have hr' : RecordLaw (t.setEngagement c (some x)) := hsift.recordLaw hc hr
        exact hset.recordLaw (hq.law hc') (hq.recordLaw hc' hr')
      · exact fun _ hc hr => hset.recordLaw (hq.law (hsift.law hc)) (hq.recordLaw (hsift.law hc) (hsift.recordLaw hc hr))
      · intro hf hc he hr
        have hn : t.engagedSlot c = none := by
          rw [ht.engagedSlot]
          exact ((he c).2.2 (by simp [h, ChannelJob.isStart])).1
        have hc' := setEngagement_catalogueLaw c (ht.inFormat.trans hf) (fun y hy => Option.some.inj hy ▸ hx x r rfl) (hsift.law hc)
        have hr' := setEngagement_retiringLaw c (x := x) hn (Catalogues.retiringLaw (.single hsift) hc hr)
        exact Catalogues.retiringLaw (.tail (.single hq) hset) hc' hr'
      · exact fun _ hc _ hr => Catalogues.retiringLaw (.tail (.tail (.single hsift) hq) hset) hc hr
    · exact .inl rfl
  · exact .inl rfl

/-! ### SEGMENT_RESOLUTION -/

/-- A segment resolution is judged by reads of the engaged slot (R48). -/
theorem judgeSegment_sifts (frame stop : Nat) :
    Sifts (fun x => s.engagedSlot c = some x) s (judgeSegment c frame stop s).2 := by
  unfold judgeSegment
  split
  · exact .refl
  · next x hx =>
    split
    · exact .refl
    · have h1 := readWords_sifts (fun x => s.engagedSlot c = some x) s x [.rendition]
      split
      · next w t e =>
        rw [e] at h1
        dsimp only at h1 ⊢
        exact h1.faulted (.channel c) w.part x hx
      · next t e =>
        rw [e] at h1
        have h2 := readWords_sifts (fun x => s.engagedSlot c = some x) t x (runPassWord (t.record x) frame)
        split
        · next w u e' =>
          rw [e'] at h2
          dsimp only at h1 h2 ⊢
          exact (h1.trans h2).faulted (.channel c) w.part x hx
        · next u e' =>
          rw [e'] at h2
          exact h1.trans h2

/-- The answer of a segment resolution makes moves of a channel that awaits it. -/
theorem takeSegment_moves (frame stop : Nat) (discard : Bool) (answer : Option Run)
    (h : (s.channel c).job = some (.segment frame stop discard)) : Moves s (takeSegment c frame discard answer s) := by
  have hend : ReflTransGen ChannelMove (s.channel c, s.engagedSlot c) ({ s.channel c with job := none }, s.engagedSlot c) :=
    .single (.segmentDiscarded _ _ _ _ _ h)
  unfold takeSegment
  dsimp only
  split
  · exact .one c rfl (endJob_channel s c) hend
  · next hd =>
    have hd : discard = false := by simpa using hd
    subst hd
    split
    · next run =>
      refine .one c rfl (fun d => ?_) (.single (.segmentKept _ _ _ _ run h))
      simp only [channel_setChannel, endJob_channel, if_true]
      split <;> rfl
    · have hnote := ChannelMove.noted { s.channel c with job := none } (s.engagedSlot c)
        (fun cur => { cur with crossing := some frame }) fun _ => rfl
      have hmark := ChannelMove.marked { s.channel c with
        job := none, current := (s.channel c).current.map fun cur => { cur with crossing := some frame } } (s.engagedSlot c)
        (fun m => m.closeAt frame)
      refine .one c rfl (fun d => ?_) ((hend.tail hnote).tail hmark)
      simp only [channel_setChannel, endJob_channel, if_true]
      split <;> rfl

theorem takeSegment_catalogue (frame : Nat) (discard : Bool) (answer : Option Run) :
    CatalogueMove s (takeSegment c frame discard answer s) := by
  unfold takeSegment
  dsimp only
  split
  · exact .quiet rfl rfl
  · split <;> exact .quiet rfl rfl

/-- A segment resolution that is served ends its job, after what keeps the laws (R15, R48). -/
theorem serveSegment_done : serveSegment c s = s ∨
    ∃ t, serveSegment c s = finishJob t ∧ s.arbiter.serving = some (channelPosition c) ∧ JobDone s t := by
  unfold serveSegment
  split
  · next frame stop discard h =>
    split
    · next hg =>
      have ht := judgeSegment_sifts s c frame stop
      cases e : judgeSegment c frame stop s with
      | mk answer t =>
        rw [e] at ht
        refine .inr ⟨_, rfl, by simpa [channelGranted, State.isServing] using hg, ?_⟩
        have hmove := takeSegment_moves t c frame stop discard answer (by rw [ht.channel]; exact h)
        have htake := takeSegment_catalogue t c frame discard answer
        have hset := settle_catalogue (takeSegment c frame discard answer t) c
        refine .of_catalogues (ht.plays.moves.trans (hmove.trans (settle_plays _ c).moves))
          (hset.inFormat.trans (htake.inFormat.trans ht.inFormat)) (fun _ => settle_noGrantDue _ _) fun hf hc => ?_
        have hlinked : ∀ x, s.engagedSlot c = some x → x ∈ s.engine.linkedSlots := ((catalogueLaw_iff hf).1 hc).engaged c
        exact .tail (.tail (.single (.sifted ht hlinked)) htake) hset
    · exact .inl rfl
  · exact .inl rfl

/-! ### DISENGAGE -/

theorem freeSlot_plays (x : Slot) (r : Record) : Plays s (freeSlot x r s) := .of_eq (.of_eq rfl) rfl rfl rfl rfl rfl

/-- What the end of a slot's last engagement leaves: channels, engagements and a format in progress as they were, and a slot that is no RETIRING item
that could be read (R140). -/
structure Drained (x : Slot) (s t : State) : Prop where
  channels : t.channels = s.channels
  engagement : t.engine.engagement = s.engine.engagement
  inFormat : t.inFormat = s.inFormat
  catalogues : s.inFormat = false → x ∈ s.engine.linkedSlots → s.engagements x = 0 → Catalogues s t
  settled : x ∈ t.engine.linkedSlots → t.isFaulted x = false → (t.record x).state ≠ .retiring

theorem drained_of_sifts {s t : State} {x : Slot} (h : Sifts (· = x) s t)
    (hx : t.isFaulted x = false → (t.record x).state ≠ .retiring) : Drained x s t :=
  ⟨h.channels, h.engagement, h.inFormat, fun _ hl _ => .single (.sifted h fun _ e => e ▸ hl), fun _ => hx⟩

/-- A record fault found at the end of an engagement leaves the slot faulted. -/
theorem drained_of_fault {s t : State} {x : Slot} (h : Sifts (· = x) s t) (w : RecordWord) :
    Drained x s (recordFault (.channel c) w.part x t) := by
  refine drained_of_sifts (h.faulted (.channel c) w.part x rfl) fun hn => ?_
  rw [(isFaulted_recordFault t _ _ x x).2 (.inl rfl)] at hn
  cases hn

theorem drain_drained (x : Slot) : Drained x s (drain c x s) := by
  unfold drain
  split
  · next h => exact drained_of_sifts .refl fun h' => by simp [h] at h'
  · next hfl =>
    have h1 := readWords_sifts (· = x) s x [.state]
    have hn1 := isFaulted_readWords s x [.state] x
    split
    · next w t e => rw [e] at h1; exact drained_of_fault c h1 w
    · next t e =>
      rw [e] at h1 hn1
      split
      · have h2 := readWords_sifts (· = x) t x (.key :: .retiring :: passWords)
        have hn2 := isFaulted_readWords t x (.key :: .retiring :: passWords) x
        split
        · next w u e' => rw [e'] at h2; exact drained_of_fault c (h1.trans h2) w
        · next u e' =>
          rw [e'] at h2 hn2
          have hu := h1.trans h2
          have hn : u.isFaulted x = false := by rw [hn2, hn1]; simpa using hfl
          have hfree : x ∉ (freeSlot x (u.record x).freeRetired u).engine.linkedSlots := by simp
          have hd : Drained x s (freeSlot x (u.record x).freeRetired u) :=
            ⟨hu.channels, hu.engagement, hu.inFormat, fun hf hl he => .tail (.single (.sifted hu fun _ e => e ▸ hl))
              (.freed x _ (hu.inFormat.trans hf) (by rw [hu.linkedSlots]; exact hl) hn ((hu.engagements x).trans he)),
              fun h => absurd h hfree⟩
          dsimp only
          split
          · refine ⟨by rw [notify_channels]; exact hd.channels, by rw [notify_engine]; exact hd.engagement,
              (inFormat_congr (by rw [notify_engine])).trans hd.inFormat,
              fun hf hl he => (hd.catalogues hf hl he).tail (.quiet (by simp) (by simp)), fun h => ?_⟩
            rw [notify_engine] at h
            exact absurd h hfree
          · exact hd
      · next hst => exact drained_of_sifts h1 fun _ => hst

/-- What the laws of the catalogue are after an engagement entry has been emptied, and its slot drained where no entry names it any more. -/
theorem emptyEntry_laws (hf : s.inFormat = false) (hc : CatalogueLaw s) : CatalogueLaw (emptyEntry c s) ∧
    (RecordLaw s → RecordLaw (emptyEntry c s)) ∧ (RetiringLaw s → RetiringLaw (emptyEntry c s)) := by
  unfold emptyEntry
  split
  · exact ⟨hc, id, id⟩
  · next x hx =>
    have hlinked : x ∈ s.engine.linkedSlots := ((catalogueLaw_iff hf).1 hc).engaged c x hx
    have hc' : CatalogueLaw (s.setEngagement c none) := setEngagement_catalogueLaw c hf (by simp) hc
    dsimp only
    split
    · next he =>
      have hd := drain_drained (s.setEngagement c none) c x
      have hm := hd.catalogues hf hlinked he
      refine ⟨hm.law hc', hm.recordLaw hc', fun hr => ?_⟩
      exact RetiringBut.retiringLaw (hm.retiringBut hc' (setEngagement_retiringBut c hx hr)) fun hl hn hst =>
        absurd hst (hd.settled hl hn)
    · next he => exact ⟨hc', id, fun hr => (setEngagement_retiringBut c hx hr).retiringLaw fun _ _ _ => he⟩

theorem emptyEntry_channels : (emptyEntry c s).channels = s.channels := by
  unfold emptyEntry
  split
  · rfl
  · dsimp only
    split
    · rw [(drain_drained _ c _).channels]; rfl
    · rfl

theorem emptyEntry_engagement : (emptyEntry c s).engine.engagement = (s.setEngagement c none).engine.engagement := by
  unfold emptyEntry
  split
  · next h => rw [setEngagement_engine, ← h]; exact (rowSet_rowGet _ c).symm
  · dsimp only
    split
    · exact (drain_drained _ c _).engagement
    · rfl

theorem emptyEntry_inFormat : (emptyEntry c s).inFormat = s.inFormat := by
  unfold emptyEntry
  split
  · rfl
  · dsimp only
    split
    · exact (drain_drained _ c _).inFormat
    · rfl

/-- A disengage that is served ends its job, after what keeps the laws (R15, R140). -/
theorem serveDisengage_done : serveDisengage c s = s ∨
    ∃ t, serveDisengage c s = finishJob t ∧ s.arbiter.serving = some (channelPosition c) ∧ JobDone s t := by
  unfold serveDisengage
  split
  · next h =>
    split
    · next hg =>
      refine .inr ⟨_, rfl, by simpa [channelGranted, State.isServing] using hg, ?_⟩
      have hmove : Moves s (endJob c (emptyEntry c s)) := by
        refine Moves.engage c ?_ ?_ (.disengaged _ _ h)
        · simp only [endJob, setChannel_channels, emptyEntry_channels, State.channel]
        · rw [endJob_engine, emptyEntry_engagement]
      have hq : CatalogueMove (emptyEntry c s) (settle c (endJob c (emptyEntry c s))) := .quiet (by simp) (by simp)
      refine ⟨hmove.trans (settle_plays _ c).moves, hq.inFormat.trans (emptyEntry_inFormat s c), fun _ => settle_noGrantDue _ _,
        fun hf hc => ?_, fun hf hc hr => ?_,
        fun hf hc _ hr => ?_⟩ <;>
        obtain ⟨hc', hrec, hret⟩ := emptyEntry_laws s c hf hc
      · exact hq.law hc'
      · exact hq.recordLaw hc' (hrec hr)
      · exact Catalogues.retiringLaw (.single hq) hc' (hret hr)
    · exact .inl rfl
  · exact .inl rfl

end ChannelJobs

/-! ### MIRROR_WRITE -/

theorem serveMirrorWrite_done (s : State) : serveMirrorWrite s = s ∨
    ∃ t, serveMirrorWrite s = finishJob t ∧ s.arbiter.serving = some holdPosition ∧ JobDone s t := by
  unfold serveMirrorWrite
  split
  · next hg =>
    refine .inr ⟨_, rfl, by simpa [State.isServing] using hg, ?_⟩
    dsimp only
    split <;> exact .of_catalogues (.of_eq rfl rfl) rfl (.of_store rfl) fun _ _ => .single (.quiet rfl rfl)
  · exact .inl rfl

end Sys2Proof.Machine
end

-- ==== Proofs: sound records and renditions ====
section
/-! The soundness of a record (R2, R21, R24, R25, R37, R39), but for the state RETIRING, as one statement; and that a splice leaves a
rendition in canonical form (R45, R46). -/

namespace Sys2Proof.Machine

/-! ### Sound records -/

/-- What the checks of a record come to, where RETIRING is read as REVIEW. -/
structure Record.Sound (r : Record) : Prop where
  state : r.state = .review ∨ r.state = .released ∨ r.state = .retiring
  format : formatLegal r.rate r.channels r.sampleBytes r.length = true
  frame : r.frameBytes = r.channels * r.sampleBytes
  groups : groupSetLegal r.groups = true
  hold : r.itemHold = 0 ∨ r.itemHold = 1
  passes : ∀ i, (r.pass i).sound r.frameBytes = true
  rendition : renditionSound r.rendition r.length = true
  segments : ∀ g ∈ r.rendition, r.segmentSound g = true
  released : r.state = .released → r.rendition.any Segment.isPass = true

/-- No part of a record is at fault exactly where each of its checks passes (R150). -/
theorem faultyPart_eq_none_iff (r : Record) :
    r.faultyPart = none ↔ r.fixedSound = true ∧ (∀ i, (r.pass i).sound r.frameBytes = true) ∧
      renditionSound r.rendition r.length = true ∧ (∀ g ∈ r.rendition, r.segmentSound g = true) ∧
        (r.state = .released → r.rendition.any Segment.isPass = true) := by
  have hpass : ((List.finRange 4).find? fun i => !(r.pass i).sound r.frameBytes) = none ↔
      ∀ i, (r.pass i).sound r.frameBytes = true := by simp [List.find?_eq_none]
  have hseg : ((List.range r.rendition.length).find? fun j => !(r.rendition[j]?.map r.segmentSound).getD true) = none ↔
      ∀ g ∈ r.rendition, r.segmentSound g = true := by
    simp only [List.find?_eq_none, List.mem_range, Bool.not_eq_true', Bool.not_eq_false, List.forall_mem_iff_getElem]
    exact forall₂_congr fun j hj => by simp [hj]
  unfold Record.faultyPart
  split
  · next h => simp at h; simp [h]
  · next h =>
    have h : r.fixedSound = true := by simpa using h
    split
    · next i hi =>
      have := List.find?_some hi
      simp only [reduceCtorEq, false_iff, not_and]
      intro _ hp
      simp [hp i] at this
    · next hi =>
      split
      · next hr => simp at hr; simp [hr]
      · next hr =>
        have hr : renditionSound r.rendition r.length = true := by simpa using hr
        split
        · next j hj =>
          simp only [reduceCtorEq, false_iff]
          rintro ⟨-, -, -, hs, -⟩
          simp [hseg.2 hs] at hj
        · next hj =>
          have hs := hseg.1 hj
          have hp := hpass.1 hi
          simp only [h, hp, hr, true_and, implies_true, ite_eq_right_iff, reduceCtorEq, imp_false]
          refine ⟨fun h' => ⟨hs, fun e => ?_⟩, fun h' => ?_⟩
          · simpa [e] using h'
          · intro hb
            simp only [Bool.and_eq_true, decide_eq_true_eq, Bool.not_eq_true'] at hb
            rw [h'.2 hb.1] at hb
            simp at hb

/-- A record is sound, but for the state RETIRING, exactly where its checks pass with that state read as REVIEW (R139, R150). -/
theorem sound_iff (r : Record) : r.unretired.faultyPart = none ↔ r.Sound := by
  rw [faultyPart_eq_none_iff]
  have fixed : ∀ u : Record, u.fixedSound = true ↔ (u.state = .review ∨ u.state = .released) ∧
      formatLegal u.rate u.channels u.sampleBytes u.length = true ∧ u.frameBytes = u.channels * u.sampleBytes ∧
        groupSetLegal u.groups = true ∧ (u.itemHold = 0 ∨ u.itemHold = 1) := fun u => by
    simp [Record.fixedSound, and_assoc]
  by_cases h : r.state = .retiring
  · have e : r.unretired = { r with state := .review } := if_pos h
    rw [e, fixed]
    constructor
    · rintro ⟨⟨-, hf, hb, hg, hh⟩, hp, hr, hs, -⟩
      exact ⟨.inr (.inr h), hf, hb, hg, hh, hp, hr, hs, fun h' => by simp [h] at h'⟩
    · rintro ⟨-, hf, hb, hg, hh, hp, hr, hs, -⟩
      exact ⟨⟨.inl rfl, hf, hb, hg, hh⟩, hp, hr, hs, fun h' => by simp at h'⟩
  · have e : r.unretired = r := if_neg h
    rw [e, fixed]
    constructor
    · rintro ⟨⟨hst, hf, hb, hg, hh⟩, hp, hr, hs, hrel⟩
      exact ⟨hst.elim .inl fun h => .inr (.inl h), hf, hb, hg, hh, hp, hr, hs, hrel⟩
    · rintro ⟨hst, hf, hb, hg, hh, hp, hr, hs, hrel⟩
      exact ⟨⟨by simpa [h] using hst, hf, hb, hg, hh⟩, hp, hr, hs, hrel⟩

/-! ### Writes of single fields -/

/-- The checks ask for no condition of a word. -/
theorem Record.Sound.fresh {r : Record} (h : r.Sound) (w : RecordWord) : (r.fresh w).Sound := by
  obtain ⟨h1, h2, h3, h4, h5, h6, h7, h8, h9⟩ := h
  exact ⟨h1, h2, h3, h4, h5, h6, h7, h8, h9⟩

theorem Record.Sound.writeState {r : Record} (h : r.Sound) {st : ItemState} (hs : st = .review ∨ st = .retiring ∨ st = .released ∧
    r.rendition.any Segment.isPass = true) : (r.writeState st).Sound := by
  obtain ⟨h1, h2, h3, h4, h5, h6, h7, h8, h9⟩ := h
  suffices ({ r with state := st } : Record).Sound from this.fresh .state
  refine ⟨?_, h2, h3, h4, h5, h6, h7, h8, ?_⟩
  · rcases hs with rfl | rfl | ⟨rfl, -⟩ <;> simp
  · rcases hs with rfl | rfl | ⟨rfl, hr⟩
    · simp
    · simp
    · exact fun _ => hr

theorem Record.Sound.holds {r : Record} (h : r.Sound) {groups itemHold : Byte} (hg : groupSetLegal groups = true)
    (hi : itemHold = 0 ∨ itemHold = 1) : (({ r with groups := groups, itemHold := itemHold } : Record).fresh .holds).Sound := by
  obtain ⟨h1, h2, h3, h4, h5, h6, h7, h8, h9⟩ := h
  have h : ({ r with groups := groups, itemHold := itemHold } : Record).Sound := ⟨h1, h2, h3, hg, hi, h6, h7, h8, h9⟩
  exact h.fresh .holds

theorem Record.Sound.retire {r : Record} (h : r.Sound) (p : PortId) : (r.retire p).Sound := by
  obtain ⟨h1, h2, h3, h4, h5, h6, h7, h8, h9⟩ := h.writeState (st := .retiring) (.inr (.inl rfl))
  have h : ({ r.writeState .retiring with retiringPort := p.val } : Record).Sound := ⟨h1, h2, h3, h4, h5, h6, h7, h8, h9⟩
  exact h.fresh .retiring

/-! ### Writes of a pass entry -/

theorem pass_writePass (r : Record) (i j : Fin 4) (e : PassEntry) : (r.writePass i e).pass j = if j = i then e else r.pass j :=
  rowGet_rowSet ..

/-- The segments that a record names a pass by lie within a COMPLETE pass (R39). -/
theorem Record.Sound.not_names {r : Record} (h : r.Sound) {i : Fin 4} (hi : (r.pass i).state ≠ .complete) :
    ∀ g ∈ r.rendition, g.names i.val = false := by
  intro g hg
  have hs := h.segments g hg
  unfold Record.segmentSound at hs
  unfold Segment.names
  split
  · next j o e =>
    rw [e] at hs
    simp only [decide_eq_false_iff_not]
    rintro rfl
    simp [i.isLt, hi] at hs
  · rfl

/-- A pass entry that no segment names may be written with anything sound (R21, R39). -/
theorem Record.Sound.writePass {r : Record} (h : r.Sound) {i : Fin 4} {e : PassEntry} (he : e.sound r.frameBytes = true)
    (hn : ∀ g ∈ r.rendition, g.names i.val = false) : (r.writePass i e).Sound := by
  obtain ⟨h1, h2, h3, h4, h5, h6, h7, h8, h9⟩ := h
  refine ⟨h1, h2, h3, h4, h5, fun j => ?_, h7, fun g hg => ?_, h9⟩
  · rw [pass_writePass]
    split
    · exact he
    · exact h6 j
  · have hg' := h8 g hg
    have hname := hn g hg
    unfold Record.segmentSound at hg' ⊢
    unfold Segment.names at hname
    split
    · rfl
    · next k o e' =>
      rw [e'] at hg' hname
      dsimp only at hg' hname
      split
      · next hk =>
        rw [dif_pos hk] at hg'
        have : (⟨k, hk⟩ : Fin 4) ≠ i := fun e => by rw [← e] at hname; simp at hname
        rw [pass_writePass, if_neg this]
        exact hg'
      · next hk => rw [dif_neg hk] at hg'; exact hg'
    · next e' => rw [e'] at hg'; exact hg'

/-! ### Canonical lists of segments -/

/-- Segments that stand one after another, each of length at least 1, from one frame to another (R37). -/
def Abut (start stop : Nat) : List Segment → Prop
  | [] => start = stop
  | g :: rest => g.start = start ∧ 1 ≤ g.length ∧ Abut g.stop stop rest

/-- No two neighbours of a list are mergeable (R37). -/
abbrev Unmergeable (list : List Segment) : Prop := list.IsChain fun x y => x.mergeable y = false

/-- The check of a rendition (R37): its segments stand one after another, and no two neighbours are mergeable. -/
theorem contiguousTo_iff (stop : Nat) : ∀ (start : Nat) (l : List Segment),
    contiguousTo stop start l = true ↔ Abut start stop l ∧ Unmergeable l
  | start, [] => by simp [contiguousTo, Abut]
  | start, [g] => by simp [contiguousTo, Abut]
  | start, g :: h :: rest => by
    simp only [contiguousTo, Bool.and_eq_true, decide_eq_true_eq, contiguousTo_iff stop g.stop (h :: rest), Abut,
      List.isChain_cons_cons, Bool.not_eq_true']
    tauto

theorem Abut.append {start mid stop : Nat} {l l' : List Segment} (h : Abut start mid l) (h' : Abut mid stop l') :
    Abut start stop (l ++ l') := by
  induction l generalizing start with
  | nil => cases h; exact h'
  | cons g rest ih => exact ⟨h.1, h.2.1, ih h.2.2⟩

/-- What a list leaves before a frame stands one after another up to it (R45). -/
theorem Abut.before {start stop a : Nat} {l : List Segment} (h : Abut start stop l) (ha : start ≤ a) (hb : a ≤ stop) :
    Abut start a (l.flatMap fun g => g.before a) := by
  induction l generalizing start with
  | nil => cases h; exact Nat.le_antisymm ha hb
  | cons g rest ih =>
    obtain ⟨hs, hl, hr⟩ := h
    -- past the frame nothing is left
    have past : ∀ {s : Nat} {l : List Segment}, a ≤ s → Abut s stop l → (l.flatMap fun g => g.before a) = [] := by
      intro s l hsa hl
      induction l generalizing s with
      | nil => rfl
      | cons x xs ihx =>
        obtain ⟨hx1, hx2, hx3⟩ := hl
        have h1 : ¬ x.stop ≤ a := by simp only [Segment.stop]; omega
        have h2 : ¬ x.start < a := by omega
        simp only [List.flatMap_cons, Segment.before, if_neg h1, if_neg h2, List.nil_append]
        exact ihx (by simp only [Segment.stop]; omega) hx3
    rw [List.flatMap_cons, Segment.before]
    split
    · next hstop => exact ⟨hs, hl, ih hr hstop⟩
    · next hstop =>
      rw [past (by omega) hr]
      split
      · refine ⟨hs, by simp only; omega, ?_⟩
        simp only [Segment.stop] at hstop
        change g.start + (a - g.start) = a
        omega
      · exact (show start = a by omega)

/-- What a list leaves from a frame on stands one after another from it (R45). -/
theorem Abut.after {start stop b : Nat} {l : List Segment} (h : Abut start stop l) (ha : start ≤ b) (hb : b ≤ stop) :
    Abut b stop (l.flatMap fun g => g.after b) := by
  induction l generalizing start with
  | nil => cases h; exact Nat.le_antisymm hb ha
  | cons g rest ih =>
    obtain ⟨hs, hl, hr⟩ := h
    -- past the frame everything is left
    have past : ∀ {s : Nat} {l : List Segment}, b ≤ s → Abut s stop l → (l.flatMap fun g => g.after b) = l := by
      intro s l hsb hl
      induction l generalizing s with
      | nil => rfl
      | cons x xs ihx =>
        obtain ⟨hx1, hx2, hx3⟩ := hl
        have h1 : x.after b = [x] := if_pos (by omega)
        rw [List.flatMap_cons, h1, ihx (by simp only [Segment.stop]; omega) hx3]
        rfl
    rw [List.flatMap_cons, Segment.after]
    split
    · next hg =>
      rw [past (by simp only [Segment.stop]; omega) hr]
      exact ⟨by omega, hl, hr⟩
    · split
      · next hstop =>
        rw [past (by omega) hr]
        refine ⟨rfl, by simp only; omega, ?_⟩
        simp only [Segment.stop] at hr hstop ⊢
        rwa [show b + (g.start + g.length - b) = g.start + g.length by omega]
      · next hstop => exact ih hr (by omega)

/-- The cut list of a splice stands one after another over the whole item (R45). -/
theorem Abut.cutList {stop : Nat} {l : List Segment} {n : Segment} (h : Abut 0 stop l) (hn : 1 ≤ n.length) (hs : n.stop ≤ stop) :
    Abut 0 stop (cutList l n) := by
  have hstart : n.start ≤ stop := by simp only [Segment.stop] at hs; omega
  exact (h.before (Nat.zero_le _) hstart).append ⟨rfl, hn, h.after (Nat.zero_le _) hs⟩

/-- Merging two neighbours keeps a list standing one after another (R46). -/
theorem Abut.merge {start stop : Nat} {l : List Segment} (h : Abut start stop l) : Abut start stop (mergeSegments l) := by
  induction l generalizing start with
  | nil => exact h
  | cons x rest ih =>
    obtain ⟨hs, hl, hr⟩ := h
    have hr := ih hr
    unfold mergeSegments
    split
    · next e => rw [e] at hr; exact ⟨hs, hl, hr⟩
    · next y tail e =>
      rw [e] at hr
      split
      · obtain ⟨hy, hyl, ht⟩ := hr
        refine ⟨hs, by simp only; omega, ?_⟩
        simp only [Segment.stop] at hy ht ⊢
        rwa [show x.start + (x.length + y.length) = y.start + y.length by omega]
      · exact ⟨hs, hl, hr⟩

/-- A segment merged with the next one merges with a third exactly where the next one did. -/
theorem mergeable_merged {x y : Segment} (h : x.mergeable y = true) (z : Segment) :
    ({ x with length := x.length + y.length } : Segment).mergeable z = y.mergeable z := by
  unfold Segment.mergeable at h ⊢
  cases hx : x.source <;> cases hy : y.source <;> simp only [hx, hy, decide_eq_true_eq, Bool.false_eq_true] at h
  · cases z.source <;> rfl
  · obtain ⟨rfl, rfl⟩ := h
    cases z.source <;> simp [Nat.add_assoc]

/-- Merging leaves no two mergeable neighbours (R46). -/
theorem unmergeable_merge (l : List Segment) : Unmergeable (mergeSegments l) := by
  induction l with
  | nil => exact .nil
  | cons x rest ih =>
    unfold mergeSegments
    split
    · exact .singleton x
    · next y tail e =>
      rw [e] at ih
      split
      · next hm =>
        cases tail with
        | nil => exact .singleton _
        | cons z zs =>
          rw [Unmergeable, List.isChain_cons_cons] at ih ⊢
          exact ⟨(mergeable_merged hm z).trans ih.1, ih.2⟩
      · next hm =>
        rw [Unmergeable, List.isChain_cons_cons]
        exact ⟨by simpa using hm, ih⟩

/-! ### The segments of a splice are sound -/

/-- Each segment that a splice cuts lies within the pass that it names, as the whole one did (R39, R45). -/
theorem segmentSound_cutList {r : Record} {l : List Segment} {n : Segment} (hl : ∀ g ∈ l, r.segmentSound g = true)
    (hn : r.segmentSound n = true) : ∀ g ∈ cutList l n, r.segmentSound g = true := by
  intro g hg
  rcases List.mem_append.1 hg with hg | hg
  · obtain ⟨x, hx, hg⟩ := List.mem_flatMap.1 hg
    have hs := hl x hx
    unfold Segment.before at hg
    split at hg
    · exact List.mem_singleton.1 hg ▸ hs
    · split at hg
      · rw [List.mem_singleton.1 hg]
        unfold Record.segmentSound at hs ⊢
        dsimp only
        cases hsrc : x.source with
        | gap => rfl
        | pass i o =>
          simp only [hsrc] at hs ⊢
          split
          · next hi =>
            simp only [hi, dite_true, Bool.and_eq_true, decide_eq_true_eq] at hs ⊢
            exact ⟨hs.1, by simp only [Segment.stop] at *; omega⟩
          · next hi => simp [hi] at hs
        | other code => simp [hsrc] at hs
      · cases hg
  · rcases List.mem_cons.1 hg with rfl | hg
    · exact hn
    · obtain ⟨x, hx, hg⟩ := List.mem_flatMap.1 hg
      have hs := hl x hx
      unfold Segment.after at hg
      split at hg
      · exact List.mem_singleton.1 hg ▸ hs
      · split at hg
        · rw [List.mem_singleton.1 hg]
          unfold Record.segmentSound at hs ⊢
          dsimp only
          cases hsrc : x.source with
          | gap => rfl
          | pass i o =>
            simp only [hsrc, Source.advance] at hs ⊢
            split
            · next hi =>
              simp only [hi, dite_true, Bool.and_eq_true, decide_eq_true_eq, Segment.stop] at hs ⊢
              exact ⟨hs.1, decide_eq_true (by simp only [Segment.stop] at *; omega)⟩
            · next hi => simp [hi] at hs
          | other code => simp [hsrc] at hs
        · cases hg

/-- Two neighbours that merge lie within the pass that they name, as one (R38, R39). -/
theorem segmentSound_merge {r : Record} {l : List Segment} (h : ∀ g ∈ l, r.segmentSound g = true) :
    ∀ g ∈ mergeSegments l, r.segmentSound g = true := by
  induction l with
  | nil => exact h
  | cons x rest ih =>
    have hx := h x List.mem_cons_self
    have ih := ih fun g hg => h g (List.mem_cons_of_mem x hg)
    unfold mergeSegments
    split
    · intro g hg; rw [List.mem_singleton.1 hg]; exact hx
    · next y tail e =>
      rw [e] at ih
      split
      · next hm =>
        intro g hg
        rcases List.mem_cons.1 hg with rfl | hg
        · have hy := ih y List.mem_cons_self
          unfold Segment.mergeable at hm
          unfold Record.segmentSound at hx hy ⊢
          cases hsx : x.source <;> cases hsy : y.source <;>
            simp only [hsx, hsy, decide_eq_true_eq, Bool.false_eq_true] at hm hx hy ⊢
          obtain ⟨rfl, rfl⟩ := hm
          split
          · next hi =>
            simp only [hi, dite_true, Bool.and_eq_true, decide_eq_true_eq] at hx hy ⊢
            exact ⟨hx.1, by have := hy.2; omega⟩
          · next hi => simp [hi] at hx
        · exact ih g (List.mem_cons_of_mem y hg)
      · intro g hg
        rcases List.mem_cons.1 hg with rfl | hg
        · exact hx
        · exact ih g hg

/-- A splice of a sound segment, in REVIEW, leaves a sound record (R37, R39, R44 to R47). -/
theorem Record.Sound.splice {r : Record} (h : r.Sound) (hst : r.state = .review) {n : Segment} (hn : r.segmentSound n = true)
    (hl : 1 ≤ n.length) (hs : n.stop ≤ r.length) (hlim : (splicedList r.rendition n).length ≤ Config.segmentLimit) :
    (({ r with rendition := splicedList r.rendition n } : Record).fresh .rendition).Sound := by
  obtain ⟨h1, h2, h3, h4, h5, h6, h7, h8, h9⟩ := h
  simp only [renditionSound, Bool.and_eq_true, decide_eq_true_eq, contiguousTo_iff] at h7
  have habut : Abut 0 r.length (splicedList r.rendition n) := (h7.2.1.cutList hl hs).merge
  have hne : 1 ≤ (splicedList r.rendition n).length := by
    cases e : splicedList r.rendition n with
    | nil =>
      rw [e] at habut
      have h0 : 0 = r.length := habut
      simp only [Segment.stop] at hs
      omega
    | cons g rest => simp
  suffices ({ r with rendition := splicedList r.rendition n } : Record).Sound from this.fresh .rendition
  refine ⟨h1, h2, h3, h4, h5, h6, ?_, ?_, fun h => ?_⟩
  · simp only [renditionSound, Bool.and_eq_true, decide_eq_true_eq, contiguousTo_iff]
    exact ⟨⟨hne, hlim⟩, habut, unmergeable_merge _⟩
  · exact segmentSound_merge (segmentSound_cutList h8 hn)
  · have h : r.state = .released := h
    rw [hst] at h
    cases h

end Sys2Proof.Machine
end

-- ==== Proofs: the catalogue jobs of ports ====
section
/-! What each catalogue job of a port does, up to its reply: the lookup and the reads, and then at most one move of the catalogue. -/

namespace Sys2Proof.Machine

open Relation

/-! ### Sound pass entries -/

theorem passEntry_sound_iff (e : PassEntry) (B : Nat) : e.sound B = true ↔
    e.owner < 16 ∧ e.extents.length ≤ Config.extentLimit ∧
      (∀ x ∈ e.extents, 1 ≤ x.count ∧ x.count ≤ 65535 ∧ x.start + x.count ≤ 4294967296) ∧ disjointExtents e.extents = true ∧
        match e.state with
        | .empty => e.owner = 0 ∧ e.length = 0 ∧ e.extents = []
        | .opened => e.length = 0
        | .complete => (1 ≤ e.length ∧ e.length ≤ Config.maxU32 ∧ 1 ≤ e.extents.length) ∧ covers e.extents e.length B = true
        | .other _ => False := by
  unfold PassEntry.sound
  cases e.state <;> simp [and_assoc]

theorem passEntry_sound_empty (B : Nat) : PassEntry.empty.sound B = true := by
  simp [passEntry_sound_iff, PassEntry.empty, disjointExtents]

theorem passEntry_sound_opened (p : PortId) (B : Nat) :
    PassEntry.sound { state := .opened, owner := p.val, length := 0, extents := [] } B = true := by
  simp [passEntry_sound_iff, disjointExtents]

theorem disjointExtents_append {x : Extent} {l : List Extent} (h : disjointExtents l = true) (hx : (l.any fun y => x.overlaps y) = false) :
    disjointExtents (l ++ [x]) = true := by
  have comm : ∀ y z : Extent, y.overlaps z = z.overlaps y := fun y z => by simp only [Extent.overlaps, and_comm]
  induction l with
  | nil => simp [disjointExtents]
  | cons y rest ih =>
    simp only [List.any_cons, Bool.or_eq_false_iff] at hx
    simp only [disjointExtents, Bool.and_eq_true] at h
    simp only [List.cons_append, disjointExtents, Bool.and_eq_true, List.all_append, List.all_cons, List.all_nil, Bool.and_true]
    exact ⟨⟨h.1, by rw [comm, hx.1]; rfl⟩, ih h.2 hx.2⟩

/-- An extent that overlaps none joins an OPEN pass (R28, R29). -/
theorem passEntry_sound_extended {e : PassEntry} {B : Nat} {x : Extent} (h : e.sound B = true) (ho : e.state = .opened)
    (hl : e.extents.length < Config.extentLimit) (hx : 1 ≤ x.count ∧ x.count ≤ 65535 ∧ x.start + x.count ≤ 4294967296)
    (hd : (e.extents.any fun y => x.overlaps y) = false) :
    PassEntry.sound { e with extents := e.extents ++ [x] } B = true := by
  obtain ⟨hown, -, hext, hdis, hst⟩ := (passEntry_sound_iff e B).1 h
  rw [ho] at hst
  refine (passEntry_sound_iff _ B).2 ⟨hown, by simpa using hl, ?_, disjointExtents_append hdis hd, by simpa [ho] using hst⟩
  intro y hy
  rcases List.mem_append.1 hy with hy | hy
  · exact hext y hy
  · rw [List.mem_singleton.1 hy]; exact hx

/-- An OPEN pass whose extents cover its length is closed (R30, R31). -/
theorem passEntry_sound_closed {e : PassEntry} {B n : Nat} (h : e.sound B = true) (_ : e.state = .opened) (hB : 1 ≤ B)
    (hn : 1 ≤ n ∧ n ≤ Config.maxU32) (hc : covers e.extents n B = true) :
    PassEntry.sound { e with state := .complete, length := n } B = true := by
  obtain ⟨hown, hlen, hext, hdis, -⟩ := (passEntry_sound_iff e B).1 h
  refine (passEntry_sound_iff _ B).2 ⟨hown, hlen, hext, hdis, ⟨hn.1, hn.2, ?_⟩, hc⟩
  cases he : e.extents with
  | nil =>
    have hpos : 0 < n * B := Nat.mul_pos hn.1 hB
    simp only [covers, he, blockTotal, decide_eq_true_eq] at hc
    simp at hc
    omega
  | cons x rest => simp

/-! ### Lookups, reads and single writes -/

variable (s : State)

theorem Sifts.works {F : Slot → Prop} {s t : State} (h : Sifts F s t) (hF : ∀ x, F x → x ∈ s.engine.linkedSlots) : Works s t :=
  ⟨h.plays, .single (.sifted h hF), .of_store h.store⟩

theorem Works.then {p : PortId} {s t u : State} (h : Works s t) (g : Answers p t u) : Answers p s u := by
  obtain ⟨code, fields, v, hv, rfl⟩ := g
  exact ⟨code, fields, v, h.trans hv, rfl⟩

theorem readWords_works {s : State} {x : Slot} (hx : x ∈ s.engine.linkedSlots) (l : List RecordWord) : Works s (readWords x l s).2 :=
  (readWords_sifts (· = x) s x l).works fun _ e => e ▸ hx

/-- A record that has been found stays found while words of it are read. -/
theorem Finds.readWords {s : State} {key : Key} {x : Slot} (h : Finds s key x) (l : List RecordWord) :
    Finds (readWords x l s).2 key x := by
  have hs := readWords_sifts (fun _ => False) s x l
  obtain ⟨hc, hf, hk, hl⟩ := h
  exact ⟨by rw [hs.chain]; exact hc, by rw [isFaulted_readWords]; exact hf, by rw [(hs.record x).key, hk], by rw [(hs.record x).2, hl]⟩

theorem Finds.linked {s : State} {key : Key} {x : Slot} (h : Finds s key x) : x ∈ s.engine.linkedSlots :=
  Engine.mem_linkedSlots_of_chain h.1

/-- A lookup for a job: it finds a record, or none that matches the key. -/
theorem lookup_works (who : Requester) (key : Key) :
    (∃ x t, lookup (recordFault who .key) key s = (.found x, t) ∧ Works s t ∧ Finds t key x ∧ t.inFormat = s.inFormat) ∨
      ∃ r t, lookup (recordFault who .key) key s = (r, t) ∧ Works s t ∧ (r = .notFound ∨ r = .notFoundFaulted) ∧ Absent t key ∧
        t.inFormat = s.inFormat := by
  rcases lookup_cases (· ∈ s.engine.linkedSlots) s (recordFault who .key) (recordFault_flags _ _ _) key
    (linked_of_chain s key) with ⟨x, t, e, ht, hx⟩ | ⟨r, t, e, ht, hr, ha⟩
  · exact .inl ⟨x, t, e, ht.works fun _ => id, hx, ht.inFormat⟩
  · exact .inr ⟨r, t, e, ht.works fun _ => id, hr, ha, ht.inFormat⟩

/-- A request's work on an existing item is answered where its work on a record that has been found is (R8, R42). -/
theorem withItem_answers (p : PortId) (key : Key) (words : List RecordWord) (faulted : State → List Field)
    (work : Slot → State → State) (hf : s.inFormat = false)
    (hw : ∀ x t, Finds t key x → t.inFormat = false → Answers p t (work x t)) : Answers p s (withItem p key words faulted work s) := by
  unfold withItem
  rcases lookup_works s (.port p) key with ⟨x, t, e, ht, hx, htf⟩ | ⟨r, t, e, ht, hr, -, -⟩
  · rw [e]
    dsimp only
    have hread := readWords_works hx.linked words
    have hfind := hx.readWords words
    have hform := (readWords_sifts (fun _ => False) t x words).inFormat
    split
    · next w u e' =>
      rw [e'] at hread hfind
      have hfault : Works u (recordFault (.port p) w.part x u) :=
        (Sifts.refl.faulted (F := (· = x)) (.port p) w.part x rfl).works fun _ e => e ▸ hfind.linked
      exact (ht.trans (hread.trans hfault)).answers
    · next u e' =>
      rw [e'] at hread hfind hform
      exact (ht.trans hread).then (hw x u hfind (hform.trans (htf.trans hf)))
  · rw [e]
    rcases hr with rfl | rfl <;> exact ht.answers

/-- A found record is written under its key, and stays sound. -/
theorem write_works {s : State} {key : Key} {x : Slot} {r : Record} (hx : Finds s key x) (hf : s.inFormat = false)
    (hk : r.key = (s.record x).key) (hc : r.condition .key = (s.record x).condition .key)
    (hs : (s.record x).Sound → r.Sound) (hr : r.state = .retiring → (s.record x).state = .retiring ∨ s.engagements x ≠ 0) :
    Works s (s.writeRecord x r) :=
  ⟨writeRecord_plays s x r,
    .single (.written x r hf hx.linked hk hc (fun h => (sound_iff r).2 (hs ((sound_iff _).1 h))) hr), .of_store rfl⟩

theorem key_index_ne_pass (i : Fin 4) : RecordWord.key.index ≠ (RecordWord.pass i).index := by revert i; decide

theorem writePass_works {s : State} {key : Key} {x : Slot} (hx : Finds s key x) (hf : s.inFormat = false) (i : Fin 4) (e : PassEntry)
    (hs : (s.record x).Sound → e.sound (s.record x).frameBytes = true ∧ ∀ g ∈ (s.record x).rendition, g.names i.val = false) :
    Works s (s.writeRecord x ((s.record x).writePass i e)) := by
  refine write_works hx hf rfl ?_ (fun h => h.writePass (hs h).1 (hs h).2) .inl
  rw [Record.writePass, condition_fresh, if_neg (key_index_ne_pass i)]
  rfl

/-! ### ENTER_ITEM -/

theorem newRecord_sound {key : Key} {rate channels sampleBytes length : Nat} (h : formatLegal rate channels sampleBytes length = true) :
    (newRecord key rate channels sampleBytes length).Sound := by
  have hl : 1 ≤ length := by simp [formatLegal] at h; omega
  refine ⟨.inl rfl, h, rfl, (by decide : groupSetLegal 0 = true), .inl rfl, fun i => ?_, ?_, fun g hg => ?_, fun h => by cases h⟩
  · have : (newRecord key rate channels sampleBytes length).pass i = PassEntry.empty := rowGet_replicate ..
    rw [this]
    exact passEntry_sound_empty _
  · simp [renditionSound, newRecord, contiguousTo, Segment.stop, hl, Config.segmentLimit]
  · rw [show g = { start := 0, length := length, source := .gap } from List.mem_singleton.1 hg]
    rfl

theorem enterItemJob_answers (p : PortId) (key : Key) (rate channels sampleBytes length : Nat) (hf : s.inFormat = false) :
    Answers p s (enterItemJob p key rate channels sampleBytes length s) := by
  unfold enterItemJob
  split
  · exact refused s
  · next hl =>
    have hl : formatLegal rate channels sampleBytes length = true := by simpa using hl
    rcases lookup_works s (.port p) key with ⟨x, t, e, ht, -, -⟩ | ⟨r, t, e, ht, hr, ha, htf⟩
    · rw [e]; exact ht.answers
    · rw [e]
      rcases hr with rfl | rfl
      · dsimp only
        split
        · exact ht.answers
        · next x rest hstack =>
          refine (ht.trans ⟨?_, .single ?_, ?_⟩).answers
          · exact .of_eq (.of_eq rfl) rfl rfl rfl rfl rfl
          · exact .entered x (newRecord key rate channels sampleBytes length) rest (htf.trans hf) hstack ha
              ((sound_iff _).2 (newRecord_sound hl)) (by simp [newRecord])
          · exact .of_store rfl
      · exact ht.answers

/-! ### Passes -/

theorem openPassOn_answers (p : PortId) {key : Key} {x : Slot} (hx : Finds s key x) (hf : s.inFormat = false) :
    Answers p s (openPassOn p x s) := by
  unfold openPassOn
  dsimp only
  split
  · exact refused s
  · split
    · exact refused s
    · next i hi =>
      have hst : ((s.record x).pass i).state = .empty := by simpa using List.find?_some hi
      exact (writePass_works hx hf i _ fun h => ⟨passEntry_sound_opened p _, h.not_names (by simp [hst])⟩).answers

theorem addExtentOn_answers (p : PortId) (i : Fin 4) (e : Extent) {key : Key} {x : Slot} (hx : Finds s key x) (hf : s.inFormat = false)
    (he : 1 ≤ e.count ∧ e.count ≤ 65535 ∧ e.start + e.count ≤ 4294967296) : Answers p s (addExtentOn p i e x s) := by
  unfold addExtentOn
  dsimp only
  split
  · exact refused s
  · next hst =>
    split
    · exact refused s
    · split
      · exact refused s
      · next hlen =>
        split
        · exact refused s
        · next hover =>
          have hst : ((s.record x).pass i).state = .opened := by simpa using hst
          refine (writePass_works hx hf i _ fun h => ⟨?_, h.not_names (by simp [hst])⟩).answers
          exact passEntry_sound_extended (h.passes i) hst (by omega) he (by simpa using hover)

theorem frameBytes_pos {r : Record} (h : r.Sound) : 1 ≤ r.frameBytes := by
  have hf := h.format
  simp only [formatLegal, Bool.and_eq_true, decide_eq_true_eq] at hf
  rw [h.frame]
  exact Nat.mul_pos (by omega) (by omega)

theorem closePassOn_answers (p : PortId) (i : Fin 4) (n : Nat) {key : Key} {x : Slot} (hx : Finds s key x) (hf : s.inFormat = false)
    (hn : 1 ≤ n ∧ n ≤ Config.maxU32) : Answers p s (closePassOn p i n x s) := by
  unfold closePassOn
  dsimp only
  split
  · exact refused s
  · next hst =>
    split
    · exact refused s
    · split
      · exact refused s
      · next hc =>
        have hst : ((s.record x).pass i).state = .opened := by simpa using hst
        refine (writePass_works hx hf i _ fun h => ⟨?_, h.not_names (by simp [hst])⟩).answers
        exact passEntry_sound_closed (h.passes i) hst (frameBytes_pos h) hn (by simpa using hc)

theorem withdrawPassOn_answers (p : PortId) (role : Role) (i : Fin 4) {key : Key} {x : Slot} (hx : Finds s key x)
    (hf : s.inFormat = false) : Answers p s (withdrawPassOn p role i x s) := by
  unfold withdrawPassOn
  dsimp only
  split
  · exact refused s
  · split
    · exact refused s
    · split
      · exact refused s
      · next hn =>
        split
        · exact refused s
        · refine (writePass_works hx hf i _ fun _ => ⟨passEntry_sound_empty _, ?_⟩).answers
          simpa using hn

/-! ### Renditions and release -/

theorem spliceRefusal_segmentSound {r : Record} {a b : Nat} {source : Source} (hr : spliceRefusal r a b source = none)
    (hs : ∀ code, source ≠ .other code) :
    r.state = .review ∧ a < b ∧ b ≤ r.length ∧ r.segmentSound { start := a, length := b - a, source := source } = true := by
  unfold spliceRefusal at hr
  split at hr
  · cases hr
  · next hst =>
    split at hr
    · cases hr
    · next hab =>
      have hst : r.state = .review := by simpa using hst
      have hab : a < b ∧ b ≤ r.length := by simpa using hab
      refine ⟨hst, hab.1, hab.2, ?_⟩
      unfold Record.segmentSound
      cases source with
      | gap => rfl
      | pass i q =>
        dsimp only at hr ⊢
        split at hr
        · next hi =>
          split at hr
          · cases hr
          · split at hr
            · cases hr
            · next hc hl =>
              rw [dif_pos hi]
              simp only [Bool.and_eq_true, decide_eq_true_eq]
              exact ⟨by simpa using hc, by omega⟩
        · cases hr
      | other code => exact absurd rfl (hs code)

theorem spliceSource_ne_other {kind pass offset : Nat} {source : Source} (h : spliceSource kind pass offset = some source) :
    ∀ code, source ≠ .other code := by
  unfold spliceSource at h
  split at h
  · cases h; simp
  · split at h
    · cases h; simp
    · cases h

theorem spliceOn_answers (p : PortId) (a b : Nat) {source : Source} (hs : ∀ code, source ≠ .other code) {key : Key} {x : Slot}
    (hx : Finds s key x) (hf : s.inFormat = false) : Answers p s (spliceOn p a b source x s) := by
  unfold spliceOn
  dsimp only
  split
  · exact refused s
  · next hr =>
    obtain ⟨hst, hab, hb, hseg⟩ := spliceRefusal_segmentSound hr hs
    split
    · exact refused s
    · next hlim =>
      refine (write_works (r := ({ s.record x with
        rendition := splicedList (s.record x).rendition { start := a, length := b - a, source := source } } : Record).fresh .rendition)
        hx hf rfl ?_ (fun h => ?_) .inl).answers
      · rw [condition_fresh, if_neg (by decide)]; rfl
      · exact h.splice hst hseg (by simp only; omega) (by simp only [Segment.stop]; omega) (by omega)

theorem writeState_works {s : State} {key : Key} {x : Slot} (hx : Finds s key x) (hf : s.inFormat = false) {st : ItemState}
    (hs : st = .review ∨ st = .released ∧ (s.record x).rendition.any Segment.isPass = true) :
    Works s (s.writeRecord x ((s.record x).writeState st)) := by
  refine write_works hx hf rfl ?_ (fun h => h.writeState (hs.imp_right .inr)) fun h => ?_
  · rw [Record.writeState, condition_fresh, if_neg (by decide)]; rfl
  · have h : st = .retiring := h
    rcases hs with rfl | ⟨rfl, -⟩ <;> cases h

theorem releaseItemOn_answers (p : PortId) {key : Key} {x : Slot} (hx : Finds s key x) (hf : s.inFormat = false) :
    Answers p s (releaseItemOn p x s) := by
  unfold releaseItemOn
  dsimp only
  split
  · next h =>
    simp only [Bool.and_eq_true] at h
    exact (writeState_works hx hf (.inr ⟨rfl, h.2⟩)).answers
  · exact refused s

theorem reopenItemOn_answers (p : PortId) {key : Key} {x : Slot} (hx : Finds s key x) (hf : s.inFormat = false) :
    Answers p s (reopenItemOn p x s) := by
  unfold reopenItemOn
  dsimp only
  split
  · exact refused s
  · split
    · exact refused s
    · split
      · exact refused s
      · exact (writeState_works hx hf (.inl rfl)).answers

/-! ### Item holds -/

theorem copyHolds_catalogue (l : List ChannelId) (groups itemHold : Byte) :
    (l.foldl (copyHolds groups itemHold) s).memory = s.memory ∧ (l.foldl (copyHolds groups itemHold) s).engine = s.engine :=
  foldl_keeps (P := fun t => t.memory = s.memory ∧ t.engine = s.engine) (copyHolds groups itemHold) (fun _ _ h => h) l s ⟨rfl, rfl⟩

theorem writeHolds_works {s : State} {key : Key} {x : Slot} (hx : Finds s key x) (hf : s.inFormat = false) (groups itemHold : Byte)
    (hs : (s.record x).Sound → groupSetLegal groups = true ∧ (itemHold = 0 ∨ itemHold = 1)) : Works s (writeHolds x groups itemHold s) := by
  have hw : Works s (s.writeRecord x (({ s.record x with groups := groups, itemHold := itemHold } : Record).fresh .holds)) := by
    refine write_works hx hf rfl ?_ (fun h => h.holds (hs h).1 (hs h).2) .inl
    rw [condition_fresh, if_neg (by decide)]
    rfl
  refine ⟨writeHolds_plays s x groups itemHold, hw.catalogues.tail (.quiet ?_ ?_), fun _ => judgeChannels_noGrantDue _ _⟩
  · unfold writeHolds
    rw [judgeChannels_memory, (copyHolds_catalogue _ _ _ _).1]
  · unfold writeHolds
    rw [judgeChannels_engine, (copyHolds_catalogue _ _ _ _).2]

theorem holdItemOn_answers (p : PortId) {key : Key} {x : Slot} (hx : Finds s key x) (hf : s.inFormat = false) :
    Answers p s (holdItemOn p x s) := by
  unfold holdItemOn
  dsimp only
  split
  · exact refused s
  · exact (writeHolds_works hx hf _ _ fun h => ⟨h.groups, .inr rfl⟩).answers

theorem liftItemOn_answers (p : PortId) {key : Key} {x : Slot} (hx : Finds s key x) (hf : s.inFormat = false) :
    Answers p s (liftItemOn p x s) := by
  unfold liftItemOn
  dsimp only
  split
  · exact (writeHolds_works hx hf _ _ fun h => ⟨h.groups, .inl rfl⟩).answers
  · exact refused s

theorem setGroupsOn_answers (p : PortId) (set : Byte) (hset : groupSetLegal set = true) {key : Key} {x : Slot} (hx : Finds s key x)
    (hf : s.inFormat = false) : Answers p s (setGroupsOn p set x s) := by
  unfold setGroupsOn
  exact (writeHolds_works hx hf _ _ fun h => ⟨hset, h.hold⟩).answers

/-! ### Pins and retirement -/

theorem pinItemOn_answers (p : PortId) (role : Role) (seconds : Nat) (x : Slot) : Answers p s (pinItemOn p role seconds x s) := by
  unfold pinItemOn
  split
  · exact refused s
  · split
    · exact refused s
    · exact (setPins_works s _).answers

theorem retireItemOn_answers (p : PortId) {key : Key} {x : Slot} (hx : Finds s key x) (hf : s.inFormat = false) :
    Answers p s (retireItemOn p x s) := by
  unfold retireItemOn
  dsimp only
  split
  · exact refused s
  · split
    · exact refused s
    · split
      · exact refused s
      · split
        · next he =>
          exact Works.answers ⟨freeSlot_plays s x _, .single (.freed x _ hf hx.linked hx.2.1 he), .of_store rfl⟩
        · next he =>
          refine (write_works (r := (s.record x).retire p) hx hf rfl ?_ (fun h => h.retire p) fun _ => .inr he).answers
          rw [Record.retire, condition_fresh, if_neg (by decide)]
          change ((s.record x).writeState .retiring).condition .key = _
          rw [Record.writeState, condition_fresh, if_neg (by decide)]
          rfl

/-! ### Faulted slots -/

theorem clearFaulted_plays (x : Slot) : Plays s (clearFaulted x s) := .of_eq (.of_eq rfl) rfl rfl rfl rfl rfl

theorem restoreInto_answers (p : PortId) (x : Slot) {r : Record} (hf : s.inFormat = false) (hx : s.isFaulted x = true)
    (he : s.engagements x = 0) (ha : Absent s r.key) (hr : r.faultyPart = none) : Answers p s (restoreInto p x r s) := by
  have hst : r.state ≠ .retiring := fun h => by
    have := ((faultyPart_eq_none_iff r).1 hr).1
    simp [Record.fixedSound, h] at this
  have hun : r.unretired = r := if_neg hst
  refine Works.answers ⟨?_, .single (.restored x r hf hx he ha (by rw [hun]; exact hr) hst), .of_store rfl⟩
  exact .of_eq (.of_eq rfl) rfl rfl rfl rfl rfl

theorem restoreItemJob_answers (p : PortId) (x : Slot) (image : List Byte) (hf : s.inFormat = false) :
    Answers p s (restoreItemJob p x image s) := by
  unfold restoreItemJob
  dsimp only
  split
  · exact refused s
  · next hr =>
    split
    · exact refused s
    · next hx =>
      split
      · exact refused s
      · next he =>
        rcases lookup_cases (· ∈ s.engine.linkedSlots) s (recordFault (.port p) .key) (recordFault_flags _ _ _) (parseImage image).key
          (linked_of_chain s _) with ⟨y, t, e, ht, -⟩ | ⟨r, t, e, ht, hr', ha⟩
        · rw [e]; exact (ht.works fun _ => id).answers
        · have hrest := restoreInto_answers t p x (ht.inFormat.trans hf) (ht.isFaulted (by simpa using hx))
            ((ht.engagements x).trans (by simpa using he)) ha hr
          rw [e]
          rcases hr' with rfl | rfl <;> exact (ht.works fun _ => id).then hrest

theorem discardItemJob_answers (p : PortId) (x : Slot) (hf : s.inFormat = false) : Answers p s (discardItemJob p x s) := by
  unfold discardItemJob
  split
  · exact refused s
  · next hx =>
    split
    · exact refused s
    · next he =>
      have hl := (setPins_works s (s.pinTable.pins.filter fun y => y.slot ≠ x)).trans
        (sendLapses_plays _ .discarded (s.pinTable.pins.filter fun y => y.slot = x)).works
      have heng : (sendLapses .discarded (s.pinTable.pins.filter fun y => y.slot = x)
          (s.setPins (s.pinTable.pins.filter fun y => y.slot ≠ x))).engine = s.engine := by
        rw [sendLapses_engine]; rfl
      refine (hl.trans ⟨(freeSlot_plays _ x _).trans (clearFaulted_plays _ x), .single (.discarded x ?_ ?_ ?_), .of_store rfl⟩).answers
      · simpa only [State.inFormat, heng] using hf
      · simpa only [State.isFaulted, heng, Bool.not_eq_true', Bool.not_eq_false] using hx
      · simpa only [State.engagements, heng, ne_eq, not_not] using he

/-! ### The job of each request -/

/-- The job that a catalogue request puts to the engine, by its serving block's own function. -/
def Request.job (r : Request) (p : PortId) (role : Role) : State → State :=
  match r with
  | .enterItem key rate ch sb len => enterItemJob p key rate.toNat ch.toNat sb.toNat len.toNat
  | .findItem key => findItemJob p key
  | .describeItem key => describeItemJob p key
  | .releaseItem key => withItem p key [.state, .rendition] noFields (releaseItemOn p)
  | .reopenItem key => withItem p key [.state] noFields (reopenItemOn p)
  | .splice key a b kind pass offset => spliceJob p key a.toNat b.toNat kind.toNat pass.toNat offset.toNat
  | .openPass key => withItem p key (.state :: passWords) noFields (openPassOn p)
  | .addExtent key pass start count => addExtentJob p key pass.toNat start.toNat count.toNat
  | .closePass key pass length => closePassJob p key pass.toNat length.toNat
  | .withdrawPass key pass => withdrawPassJob p role key pass.toNat
  | .holdItem key => withItem p key [.holds] noFields (holdItemOn p)
  | .liftItem key => withItem p key [.holds] noFields (liftItemOn p)
  | .setGroups key set => setGroupsJob p key set
  | .retireItem key => withItem p key (.state :: passWords) noFields (retireItemOn p)
  | .restoreItem slot image => restoreItemJob p slot.toFin image
  | .discardItem slot => discardItemJob p slot.toFin
  | .pinItem key seconds => withItem p key [.state] noFields (pinItemOn p role seconds.toNat)
  | _ => id

theorem spliceJob_answers (p : PortId) (key : Key) (a b kind pass offset : Nat) (hf : s.inFormat = false) :
    Answers p s (spliceJob p key a b kind pass offset s) := by
  unfold spliceJob
  split
  · exact refused s
  · next source h => exact withItem_answers s p key _ _ _ hf fun x t hx ht => spliceOn_answers t p a b (spliceSource_ne_other h) hx ht

theorem addExtentJob_answers (p : PortId) (key : Key) (pass start count : Nat) (hf : s.inFormat = false) :
    Answers p s (addExtentJob p key pass start count s) := by
  unfold addExtentJob
  split
  · split
    · next h => exact withItem_answers s p key _ _ _ hf fun x t hx ht => addExtentOn_answers t p _ _ hx ht h
    · exact refused s
  · exact refused s

theorem closePassJob_answers (p : PortId) (key : Key) (pass length : Nat) (hl : length ≤ Config.maxU32) (hf : s.inFormat = false) :
    Answers p s (closePassJob p key pass length s) := by
  unfold closePassJob
  split
  · split
    · next h => exact withItem_answers s p key _ _ _ hf fun x t hx ht => closePassOn_answers t p _ _ hx ht ⟨h, hl⟩
    · exact refused s
  · exact refused s

theorem withdrawPassJob_answers (p : PortId) (role : Role) (key : Key) (pass : Nat) (hf : s.inFormat = false) :
    Answers p s (withdrawPassJob p role key pass s) := by
  unfold withdrawPassJob
  split
  · exact withItem_answers s p key _ _ _ hf fun x t hx ht => withdrawPassOn_answers t p role _ hx ht
  · exact refused s

theorem setGroupsJob_answers (p : PortId) (key : Key) (set : Byte) (hf : s.inFormat = false) :
    Answers p s (setGroupsJob p key set s) := by
  unfold setGroupsJob
  split
  · next h => exact withItem_answers s p key _ _ _ hf fun x t hx ht => setGroupsOn_answers t p set h hx ht
  · exact refused s

/-- Every catalogue job but a format is answered, after what keeps the laws. -/
theorem job_answers (r : Request) (p : PortId) (role : Role) (hj : r.presentsJob = true) (hr : r ≠ .formatCatalogue)
    (hf : s.inFormat = false) : Answers p s (r.job p role s) := by
  cases r with
  | enterItem key rate ch sb len => exact enterItemJob_answers s p key _ _ _ _ hf
  | findItem key => exact withItem_answers s p key _ _ _ hf fun x t _ _ => refused t
  | describeItem key => exact withItem_answers s p key _ _ _ hf fun x t _ _ => refused t
  | releaseItem key => exact withItem_answers s p key _ _ _ hf fun x t hx ht => releaseItemOn_answers t p hx ht
  | reopenItem key => exact withItem_answers s p key _ _ _ hf fun x t hx ht => reopenItemOn_answers t p hx ht
  | splice key a b kind pass offset => exact spliceJob_answers s p key _ _ _ _ _ hf
  | openPass key => exact withItem_answers s p key _ _ _ hf fun x t hx ht => openPassOn_answers t p hx ht
  | addExtent key pass start count => exact addExtentJob_answers s p key _ _ _ hf
  | closePass key pass length => exact closePassJob_answers s p key _ _ (Nat.le_of_lt_succ length.isLt) hf
  | withdrawPass key pass => exact withdrawPassJob_answers s p role key _ hf
  | holdItem key => exact withItem_answers s p key _ _ _ hf fun x t hx ht => holdItemOn_answers t p hx ht
  | liftItem key => exact withItem_answers s p key _ _ _ hf fun x t hx ht => liftItemOn_answers t p hx ht
  | setGroups key set => exact setGroupsJob_answers s p key set hf
  | retireItem key => exact withItem_answers s p key _ _ _ hf fun x t hx ht => retireItemOn_answers t p hx ht
  | restoreItem slot image => exact restoreItemJob_answers s p _ image hf
  | discardItem slot => exact discardItemJob_answers s p _ hf
  | pinItem key seconds => exact withItem_answers s p key _ _ _ hf fun x t _ _ => pinItemOn_answers t p role _ x
  | formatCatalogue => exact absurd rfl hr
  | unpinItem | bindChannel | queueCue | stopChannel | haltChannel | resumeChannel | clearCut | flushChannel | setLanes | setCutoff
  | channelStatus | holdGroup | liftGroup | storeReset | ackAttention | setAttentionMask | attentionSummary | rearmAlarm
  | readFaultRecord | clearFaultRecord | assignRole | setTiming => cases hj

end Sys2Proof.Machine
end

-- ==== Proofs: the services ====
section
/-! Each request command serves the request that its port has in service (R158): a catalogue job goes through the condition of the catalogue
and the arbiter, every other request is answered; and a request command whose port has no such request in service does nothing. -/

namespace Sys2Proof.Machine

open Relation

variable {s : State} {p : PortId} {v : Service} {r : Request}

/-- A command that serves a catalogue job puts the request's job through the condition of the catalogue and the arbiter (R13, R16). -/
theorem exec_job (h : Serves s p v r) (hj : r.presentsJob = true) (hr : r ≠ .formatCatalogue) :
    exec (r.command p) s = .next (catalogueJob p (r.job p v.role) s) := by
  obtain ⟨hv, he⟩ := h
  obtain ⟨kind, tag, role, request⟩ := v
  dsimp only at he
  subst he
  cases request with
  | enterItem => simp only [Request.command, exec, execEnterItem, serveEnterItem, hv, Request.job]
  | findItem => simp only [Request.command, exec, execFindItem, serveFindItem, hv, Request.job]
  | describeItem => simp only [Request.command, exec, execDescribeItem, serveDescribeItem, hv, Request.job]
  | releaseItem => simp only [Request.command, exec, execReleaseItem, serveReleaseItem, hv, Request.job]
  | reopenItem => simp only [Request.command, exec, execReopenItem, serveReopenItem, hv, Request.job]
  | splice => simp only [Request.command, exec, execSplice, serveSplice, hv, Request.job]
  | openPass => simp only [Request.command, exec, execOpenPass, serveOpenPass, hv, Request.job]
  | addExtent => simp only [Request.command, exec, execAddExtent, serveAddExtent, hv, Request.job]
  | closePass => simp only [Request.command, exec, execClosePass, serveClosePass, hv, Request.job]
  | withdrawPass => simp only [Request.command, exec, execWithdrawPass, serveWithdrawPass, hv, Request.job]
  | holdItem => simp only [Request.command, exec, execHoldItem, serveHoldItem, hv, Request.job]
  | liftItem => simp only [Request.command, exec, execLiftItem, serveLiftItem, hv, Request.job]
  | setGroups => simp only [Request.command, exec, execSetGroups, serveSetGroups, hv, Request.job]
  | retireItem => simp only [Request.command, exec, execRetireItem, serveRetireItem, hv, Request.job]
  | restoreItem => simp only [Request.command, exec, execRestoreItem, serveRestoreItem, hv, Request.job]
  | discardItem => simp only [Request.command, exec, execDiscardItem, serveDiscardItem, hv, Request.job]
  | pinItem key seconds =>
    have hs : 1 ≤ seconds.toNat ∧ seconds.toNat ≤ 86400 := of_decide_eq_true hj
    simp only [Request.command, exec, execPinItem, servePinItem, hv, Request.job, if_pos hs]
  | formatCatalogue => exact absurd rfl hr
  | unpinItem | bindChannel | queueCue | stopChannel | haltChannel | resumeChannel | clearCut | flushChannel | setLanes | setCutoff
  | channelStatus | holdGroup | liftGroup | storeReset | ackAttention | setAttentionMask | attentionSummary | rearmAlarm
  | readFaultRecord | clearFaultRecord | assignRole | setTiming => cases hj

/-- A request that presents no job is answered, after what keeps the laws. -/
theorem exec_request (h : Serves s p v r) (hj : r.presentsJob = false) : ∃ t, exec (r.command p) s = .next t ∧ Answers p s t := by
  obtain ⟨hv, he⟩ := h
  obtain ⟨kind, tag, role, request⟩ := v
  dsimp only at he
  subst he
  cases request with
  | pinItem key seconds =>
    have hs : ¬ (1 ≤ seconds.toNat ∧ seconds.toNat ≤ 86400) := of_decide_eq_false hj
    simp only [Request.command, exec, execPinItem, servePinItem, hv, if_neg hs]
    exact ⟨_, rfl, refused s⟩
  | unpinItem =>
    simp only [Request.command, exec, execUnpinItem, serveUnpinItem, hv]
    exact ⟨_, rfl, unpin_answers s p _ _ _⟩
  | bindChannel =>
    simp only [Request.command, exec, execBindChannel, serveBindChannel, hv]
    exact ⟨_, rfl, onChannel_keeps s p _ _ (fun _ _ => refused s) fun c => bindChannel_answers s c p _⟩
  | queueCue =>
    simp only [Request.command, exec, execQueueCue, serveQueueCue, hv]
    exact ⟨_, rfl, onBound_keeps s p _ _ (fun _ _ => refused s) fun c hc => queueCue_answers s c p _ hc⟩
  | stopChannel =>
    simp only [Request.command, exec, execStopChannel, serveStopChannel, hv]
    exact ⟨_, rfl, onBound_keeps s p _ _ (fun _ _ => refused s) fun c _ => stopChannel_answers s c p⟩
  | haltChannel =>
    simp only [Request.command, exec, execHaltChannel, serveHaltChannel, hv]
    exact ⟨_, rfl, onBound_keeps s p _ _ (fun _ _ => refused s) fun c _ => haltChannel_answers s c p⟩
  | resumeChannel =>
    simp only [Request.command, exec, execResumeChannel, serveResumeChannel, hv]
    exact ⟨_, rfl, onBound_keeps s p _ _ (fun _ _ => refused s) fun c _ => resumeChannel_answers s c p⟩
  | clearCut =>
    simp only [Request.command, exec, execClearCut, serveClearCut, hv]
    exact ⟨_, rfl, onBound_keeps s p _ _ (fun _ _ => refused s) fun c _ => clearCut_answers s c p⟩
  | flushChannel =>
    simp only [Request.command, exec, execFlushChannel, serveFlushChannel, hv]
    exact ⟨_, rfl, onBound_keeps s p _ _ (fun _ _ => refused s) fun c _ => flushChannel_answers s c p⟩
  | setLanes =>
    simp only [Request.command, exec, execSetLanes, serveSetLanes, hv]
    exact ⟨_, rfl, onBound_keeps s p _ _ (fun _ _ => refused s) fun c _ => setLanes_answers s c p _ _ _⟩
  | setCutoff =>
    simp only [Request.command, exec, execSetCutoff, serveSetCutoff, hv]
    exact ⟨_, rfl, onBound_keeps s p _ _ (fun _ _ => refused s) fun c _ => setCutoff_answers s c p _⟩
  | channelStatus =>
    simp only [Request.command, exec, execChannelStatus, serveChannelStatus, hv]
    exact ⟨_, rfl, onChannel_keeps s p _ _ (fun _ _ => refused s) fun c => channelStatus_answers s c p _⟩
  | holdGroup =>
    simp only [Request.command, exec, execHoldGroup, serveHoldGroup, hv]
    exact ⟨_, rfl, groupRequest_answers s p _ _ fun g => holdGroupOn_answers s p g⟩
  | liftGroup =>
    simp only [Request.command, exec, execLiftGroup, serveLiftGroup, hv]
    exact ⟨_, rfl, groupRequest_answers s p _ _ fun g => liftGroupOn_answers s p g⟩
  | storeReset =>
    simp only [Request.command, exec, execStoreReset, serveStoreReset, hv]
    exact ⟨_, rfl, (resetStore_works s).answers⟩
  | ackAttention =>
    simp only [Request.command, exec, execAckAttention, serveAckAttention, hv]
    exact ⟨_, rfl, acknowledge_answers s p _⟩
  | setAttentionMask =>
    simp only [Request.command, exec, execSetAttentionMask, serveSetAttentionMask, hv]
    exact ⟨_, rfl, setMask_answers s p _⟩
  | attentionSummary =>
    simp only [Request.command, exec, execAttentionSummary, serveAttentionSummary, hv]
    exact ⟨_, rfl, refused s⟩
  | rearmAlarm =>
    simp only [Request.command, exec, execRearmAlarm, serveRearmAlarm, hv]
    exact ⟨_, rfl, (setAttention_works s _).answers⟩
  | readFaultRecord =>
    simp only [Request.command, exec, execReadFaultRecord, serveReadFaultRecord, hv]
    exact ⟨_, rfl, refused s⟩
  | clearFaultRecord =>
    simp only [Request.command, exec, execClearFaultRecord, serveClearFaultRecord, hv]
    exact ⟨_, rfl, (setAttention_works s _).answers⟩
  | assignRole port role =>
    simp only [Request.command, exec, execAssignRole, serveAssignRole, hv]
    refine ⟨_, rfl, ?_⟩
    split
    · split
      · exact assignRole_answers s p _ _
      · exact refused s
    · exact refused s
  | setTiming =>
    simp only [Request.command, exec, execSetTiming, serveSetTiming, hv]
    exact ⟨_, rfl, setTiming_answers s p _ _ _⟩
  | enterItem | findItem | describeItem | releaseItem | reopenItem | splice | openPass | addExtent | closePass | withdrawPass | holdItem
  | liftItem | setGroups | retireItem | restoreItem | discardItem | formatCatalogue => cases hj

/-- A request command serves a request that its port has in service, or does nothing (log 1). -/
theorem service_cases (r : Request) (p : PortId) (s : State) :
    (∃ v q, Serves s p v q ∧ r.command p = q.command p) ∨ exec (r.command p) s = .next s := by
  cases r <;>
    simp only [Request.command, exec, execEnterItem, serveEnterItem, execFindItem, serveFindItem, execDescribeItem, serveDescribeItem,
      execReleaseItem, serveReleaseItem, execReopenItem, serveReopenItem, execSplice, serveSplice, execOpenPass, serveOpenPass,
      execAddExtent, serveAddExtent, execClosePass, serveClosePass, execWithdrawPass, serveWithdrawPass, execHoldItem, serveHoldItem,
      execLiftItem, serveLiftItem, execSetGroups, serveSetGroups, execRetireItem, serveRetireItem, execRestoreItem, serveRestoreItem,
      execDiscardItem, serveDiscardItem, execFormatCatalogue, serveFormatCatalogue, execPinItem, servePinItem, execUnpinItem,
      serveUnpinItem, execBindChannel, serveBindChannel, execQueueCue, serveQueueCue, execStopChannel, serveStopChannel,
      execHaltChannel, serveHaltChannel, execResumeChannel, serveResumeChannel, execClearCut, serveClearCut, execFlushChannel,
      serveFlushChannel, execSetLanes, serveSetLanes, execSetCutoff, serveSetCutoff, execChannelStatus, serveChannelStatus,
      execHoldGroup, serveHoldGroup, execLiftGroup, serveLiftGroup, execStoreReset, serveStoreReset, execAckAttention,
      serveAckAttention, execSetAttentionMask, serveSetAttentionMask, execAttentionSummary, serveAttentionSummary, execRearmAlarm,
      serveRearmAlarm, execReadFaultRecord, serveReadFaultRecord, execClearFaultRecord, serveClearFaultRecord, execAssignRole,
      serveAssignRole, execSetTiming, serveSetTiming]
  all_goals
    split
    · next hv => exact .inl ⟨_, _, ⟨hv, rfl⟩, rfl⟩
    · exact .inr rfl

end Sys2Proof.Machine
end

-- ==== Proofs: replies, and the condition of the catalogue ====
section
/-! One reply for each request that is taken (R158), and what the condition of the catalogue makes of a catalogue job (R13, R14, R16,
R153). -/

namespace Sys2Proof.Machine

open Relation

variable {s t : State} {p : PortId} {v : Service} {r : Request}

/-- A request that is answered leaves its port with none in service, and one reply more. -/
theorem Answers.replied (h : Answers p s t) (hv : (s.port p).service = some v) :
    ∃ code fields, (t.port p).service = none ∧
      (t.port p).replies = (s.port p).replies ++ [{ kind := v.kind, tag := v.tag, code := code, fields := fields }] := by
  obtain ⟨code, fields, u, hu, rfl⟩ := h
  have hp := hu.plays.notified p
  refine ⟨code, fields, ?_⟩
  rw [reply_of_service p v code fields u (hp.service.trans hv)]
  simp [answered, hp.replies]

theorem finishJob_port (s : State) (q : PortId) : (finishJob s).port q = s.port q := by simp only [State.port, finishJob_ports]

/-- What becomes of a catalogue job of a port, by the condition of the catalogue and the arbiter (R13, R14, R16). -/
theorem catalogueJob_cases (p : PortId) (job : State → State) (s : State) :
    s.starting = true ∧ catalogueJob p job s = reply p .starting [] s ∨
      s.starting = false ∧ s.arbiter.serving = some p.val ∧
        catalogueJob p job s = finishJob (if s.isOffline then reply p .offline [] s else job s) ∨
      s.starting = false ∧ s.arbiter.serving ≠ some p.val ∧
        ((s.formatGranted = true ∧ catalogueJob p job s = reply p .starting [] s) ∨
          (s.formatGranted = false ∧ s.isOffline = true ∧ catalogueJob p job s = reply p .offline [] s) ∨
          (s.formatGranted = false ∧ s.isOffline = false ∧ catalogueJob p job s = s)) := by
  unfold catalogueJob State.isServing portPosition
  cases s.starting
  · by_cases hs : s.arbiter.serving = some p.val
    · simp [hs]
    · cases s.formatGranted <;> cases s.isOffline <;> simp [hs]
  · simp

theorem inFormat_of_not_starting (h : s.starting = false) : s.inFormat = false := by
  rw [State.starting, Bool.or_eq_false_iff] at h
  exact h.2

theorem isOffline_iff : s.isOffline = true ↔ s.engine.condition = .offline := by simp [State.isOffline]

/-- Settles O12, by the answer of each request, and of each job by the condition of the catalogue. -/
theorem everyRequestIsAnsweredOnce : Obligations.EveryRequestIsAnsweredOnce := by
  intro p v r s h hjob hr
  cases hj : r.presentsJob with
  | false =>
    obtain ⟨t, e, ht⟩ := exec_request h hj
    obtain ⟨code, fields, h1, h2⟩ := ht.replied h.1
    exact ⟨t, code, fields, e, h1, h2⟩
  | true =>
    have ended : ∀ u, Answers p s u → ∃ code fields, ((finishJob u).port p).service = none ∧ ((finishJob u).port p).replies =
        (s.port p).replies ++ [{ kind := v.kind, tag := v.tag, code := code, fields := fields }] := fun u hu => by
      rw [finishJob_port]; exact hu.replied h.1
    refine ⟨catalogueJob p (r.job p v.role) s, ?_⟩
    simp only [exec_job h hj hr, true_and]
    rcases catalogueJob_cases p (r.job p v.role) s with ⟨-, e⟩ | ⟨hst, -, e⟩ | ⟨hst, hs, ⟨-, e⟩ | ⟨-, -, e⟩ | ⟨hf, ho, -⟩⟩
    · rw [e]; exact (refused s).replied h.1
    · rw [e]
      refine ended _ ?_
      split
      · exact refused s
      · exact job_answers s r p v.role hj hr (inFormat_of_not_starting hst)
    · rw [e]; exact (refused s).replied h.1
    · rw [e]; exact (refused s).replied h.1
    · rcases hjob hj with h' | h' | h' | h'
      · simp [hst] at h'
      · simp [hf] at h'
      · simp [isOffline_iff.2 h'] at ho
      · exact absurd h' hs

/-! ### FORMAT_CATALOGUE -/

/-- A FORMAT_CATALOGUE command, by the condition of the catalogue and the arbiter (R16, R153). -/
theorem exec_format (h : Serves s p v .formatCatalogue) :
    exec (.formatCatalogue p) s = .next
      (if s.engine.condition = .formatting p then s
      else if s.starting then reply p .starting [] s
      else if s.isServing (portPosition p) then
        if s.engagedCount ≠ 0 then finishJob (reply p .itemInUse [.u8 s.engagedCount] s) else formatBegins p s
      else if s.formatGranted then reply p .starting [] s
      else s) := by
  obtain ⟨hv, he⟩ := h
  obtain ⟨kind, tag, role, request⟩ := v
  dsimp only at he
  subst he
  simp only [exec, execFormatCatalogue, serveFormatCatalogue, hv]

/-- Settles O13, by the branches of the service of a catalogue job and of FORMAT_CATALOGUE. -/
theorem catalogueJobsMeetTheCondition : Obligations.CatalogueJobsMeetTheCondition := by
  intro p v r s h hj
  have hreply : ∀ code, reply p code [] s = answered p v code [] s := fun code => reply_of_service p v code [] s h.1
  by_cases hr : r = .formatCatalogue
  · subst hr
    have e : exec (Request.formatCatalogue.command p) s = _ := exec_format h
    rw [e]
    have hserve : s.arbiter.serving ≠ some p.val → ¬ s.isServing (portPosition p) = true := fun hs h => hs (of_decide_eq_true h)
    refine ⟨fun hst hc => ?_, fun hst hf hs => ?_, fun _ hc => ?_, fun _ hne => absurd rfl hne, fun hst hf _ hs => ?_⟩
    · have hc : s.engine.condition ≠ .formatting p := fun e => hc ⟨rfl, e⟩
      rw [if_neg hc, if_pos hst, hreply]
    · have hc : s.engine.condition ≠ .formatting p := fun e => by simp [State.starting, State.inFormat, e] at hst
      rw [if_neg hc, if_neg (by simp [hst]), if_neg (hserve hs), if_pos hf, hreply]
    · rw [if_pos hc]
    · have hc : s.engine.condition ≠ .formatting p := fun e => by simp [State.starting, State.inFormat, e] at hst
      rw [if_neg hc, if_neg (by simp [hst]), if_neg (hserve hs), if_neg (by simp [hf])]
  · rw [exec_job h hj hr]
    have cases := catalogueJob_cases p (r.job p v.role) s
    refine ⟨fun hst _ => ?_, fun hst hf hs => ?_, fun e => absurd e hr, fun ho _ => ⟨fun hs => ?_, fun hs hf => ?_⟩,
      fun hst hf hc hs => ?_⟩
    · simp only [hst] at cases
      simpa [hreply] using cases
    · simp only [hst, hf] at cases
      simpa [hreply, hs] using cases
    · have hst : s.starting = false := by simp [State.starting, State.inWalk, State.inFormat, ho]
      simp only [hst, hs, isOffline_iff.2 ho] at cases
      simpa [hreply, jobAnswered] using cases
    · have hst : s.starting = false := by simp [State.starting, State.inWalk, State.inFormat, ho]
      simp only [hst, hf, isOffline_iff.2 ho] at cases
      simpa [hreply, hs] using cases
    · have ho : s.isOffline = false := Bool.eq_false_iff.2 fun h => hr (hc (isOffline_iff.1 h))
      simp only [hst, hf, ho] at cases
      simpa [hs] using cases

end Sys2Proof.Machine
end

-- ==== Proofs: formats ====
section
/-! FORMAT_CATALOGUE and FORMAT_COMPLETE (R16, R153): what their steps change, and the laws of the catalogue before, in and after a format. -/

namespace Sys2Proof.Machine

open Relation

variable {s : State}

/-! ### The jobs that a format turns away -/

/-- A port whose waiting catalogue job, if any, has been answered STARTING (R16). -/
def Port.startingAnswered (q : Port) : Port :=
  match q.service with
  | some v =>
    if v.request.presentsJob then
      { q with service := none, replies := q.replies ++ [{ kind := v.kind, tag := v.tag, code := .starting, fields := [] }] }
    else q
  | none => q

theorem startingAnswered_of_none {q : Port} (h : q.service = none) : q.startingAnswered = q := by
  simp [Port.startingAnswered, h]

theorem startingAnswered_of_service {q : Port} {v : Service} (h : q.service = some v) :
    q.startingAnswered = if v.request.presentsJob then
      { q with service := none, replies := q.replies ++ [{ kind := v.kind, tag := v.tag, code := .starting, fields := [] }] }
    else q := by
  simp [Port.startingAnswered, h]

/-- One port's waiting job is answered, and nothing else happens. -/
theorem answerOne (format p : PortId) (s : State) :
    (if p ≠ format && s.portWaits p then reply p .starting [] s else s) =
      s.setPort p (if p = format then s.port p else (s.port p).startingAnswered) := by
  by_cases hp : p = format
  · simp [hp]
  · cases hv : (s.port p).service with
    | none => simp [hp, portWaits_of_none s hv, startingAnswered_of_none hv]
    | some v =>
      rw [portWaits_of_service s hv, startingAnswered_of_service hv]
      cases v.request.presentsJob
      · simp
      · simp [hp, reply_of_service p v .starting [] s hv, answered]

/-- The ports once the jobs of some of them have been turned away. -/
theorem foldl_answerOne_port (format q : PortId) (l : List PortId) (hl : l.Nodup) (t : State) :
    (l.foldl (fun t p => if p ≠ format && t.portWaits p then reply p .starting [] t else t) t).port q =
      if q ∈ l ∧ q ≠ format then (t.port q).startingAnswered else t.port q := by
  induction l generalizing t with
  | nil => simp
  | cons p rest ih =>
    obtain ⟨hp, hrest⟩ := List.nodup_cons.1 hl
    rw [List.foldl_cons, ih hrest, answerOne, port_setPort]
    by_cases e : q = p
    · subst e
      by_cases hq : q = format <;> simp [hp, hq]
    · simp [e]

theorem answerStarting_port (format q : PortId) (s : State) :
    (answerStarting format s).port q = if q = format then s.port q else (s.port q).startingAnswered := by
  rw [answerStarting, foldl_answerOne_port format q _ (List.nodup_finRange 16)]
  by_cases h : q = format <;> simp [h]

/-- Turning jobs away changes ports alone. -/
theorem answerStarting_eq (format : PortId) (s : State) :
    answerStarting format s = { s with ports := (answerStarting format s).ports } :=
  foldl_keeps (P := fun t => t = { s with ports := t.ports })
    (fun t p => if p ≠ format && t.portWaits p then reply p .starting [] t else t)
    (fun t p h => by rw [answerOne]; rw [h]; rfl) _ s rfl

theorem formatBegins_port (p q : PortId) (s : State) :
    (formatBegins p s).port q = if q = p then s.port q else (s.port q).startingAnswered := answerStarting_port p q _

/-- What the beginning of a format changes: ports, and the parts that its steps 1 to 3 name (R153). -/
theorem formatBegins_eq (p : PortId) (s : State) : formatBegins p s =
    { s with
      ports := (formatBegins p s).ports
      pinTable := { s.pinTable with pins := [] }
      hold := { s.hold with latches := 0 }
      memory := { header := { s.memory.header with valid := false, markerWords := .clean }, records := [] }
      arbiter := { s.arbiter with serving := none }
      engine := { s.engine with condition := .formatting p } } := answerStarting_eq p _

/-! ### The laws in a format -/

theorem engagedSlot_of_engagedCount (h : s.engagedCount = 0) (c : ChannelId) : s.engagedSlot c = none := by
  rw [State.engagedCount, List.countP_eq_zero] at h
  have := h (s.engagedSlot c) ((mem_toList_iff _ _).2 ⟨c, rfl⟩)
  simpa using this

theorem formatBegins_moves (p : PortId) (s : State) : Moves s (formatBegins p s) := by
  rw [formatBegins_eq]
  exact .of_eq rfl rfl

theorem formatBegins_inFormat (p : PortId) (s : State) : (formatBegins p s).inFormat = true := by
  rw [formatBegins_eq]
  rfl

theorem formatBegins_arbiterLaw (p : PortId) (s : State) : ArbiterLaw (formatBegins p s) := by
  rw [formatBegins_eq]
  refine ⟨fun _ => rfl, fun h => ?_⟩
  simp [State.starting, State.inFormat] at h

theorem formatBegins_catalogueLaw (p : PortId) (he : s.engagedCount = 0) (h : CatalogueLaw s) : CatalogueLaw (formatBegins p s) := by
  obtain ⟨-, hw, hk, -⟩ := h
  have hf := formatBegins_inFormat p s
  rw [formatBegins_eq] at hf ⊢
  refine ⟨⟨⟨.nil, by simp⟩, by simp⟩, hw, hk, ?_⟩
  rw [if_pos hf]
  exact engagedSlot_of_engagedCount he

/-! ### The end of a format -/

theorem walkDone_frames (cause : WalkCause) (offline : Bool) (counts : WalkCounts) (s : State) :
    (walkDone cause offline counts s).memory = s.memory ∧ (walkDone cause offline counts s).engine = s.engine ∧
      (walkDone cause offline counts s).arbiter = s.arbiter ∧ (walkDone cause offline counts s).store = s.store ∧
        (walkDone cause offline counts s).channels = s.channels := by
  unfold walkDone
  cases offline <;> simp

/-- What a format leaves when it ends: every slot on the stack, and the channels, read slots and engagements as they were (R153). -/
theorem formatEnds_frames (p : PortId) (s : State) :
    (formatEnds p s).memory.records = s.memory.records ∧
      (formatEnds p s).engine = { s.engine with condition := .ready, directory := [], freeStack := allSlots, faulted := [] } ∧
        (formatEnds p s).store = s.store ∧ (formatEnds p s).channels = s.channels := by
  obtain ⟨h1, h2, h3, h4, h5⟩ := walkDone_frames .format false WalkCounts.zero
    { s with
      hold := { s.hold with
        latches := s.hold.latches ||| s.hold.lines
        mirrorWaiting := s.hold.mirrorWaiting || decide (s.hold.latches ||| s.hold.lines ≠ 0) }
      memory := { s.memory with header := { valid := true, mirror := 0, markerWords := .clean, mirrorWords := .clean } }
      engine := { s.engine with condition := .ready, directory := [], freeStack := allSlots, faulted := [] } }
  unfold formatEnds
  simp only [grantJob_memory, grantJob_engine, grantJob_store, grantJob_channels, reply_memory, reply_engine, reply_store, reply_channels,
    h1, h2, h4, h5, true_and]

theorem mem_allSlots (x : Slot) : x ∈ allSlots := List.mem_finRange x

theorem nodup_allSlots : allSlots.Nodup := List.nodup_finRange _

/-- The laws of the catalogue hold of a catalogue that has just been formatted (R153). -/
theorem formatEnds_catalogueLaw {p : PortId} (hc : s.engine.condition = .formatting p) (h : CatalogueLaw s) :
    CatalogueLaw (formatEnds p s) := by
  obtain ⟨hm, -, -, he⟩ := h
  obtain ⟨h1, h2, -, -⟩ := formatEnds_frames p s
  have hf : s.inFormat = true := by simp [State.inFormat, hc]
  rw [if_pos hf] at he
  have hl : (formatEnds p s).engine.linkedSlots = [] := by rw [h2]; rfl
  have hfs : (formatEnds p s).engine.freeStack = allSlots := by rw [h2]
  have hfl : (formatEnds p s).engine.faulted = [] := by rw [h2]
  have hpl : (formatEnds p s).placedSlots = Config.slotCount := by rw [State.placedSlots, h2]
  refine CatalogueKept.law ⟨?_, ?_, ?_, ⟨?_, ?_, ?_⟩, ⟨?_, ?_⟩, ?_⟩ ?_
  · rw [Memory.wf, h1]; exact hm
  · rw [h2]; exact ⟨.nil, by simp⟩
  · rw [h2]; simp
  · rw [hl, hfs, List.nil_append]; exact nodup_allSlots
  · rw [hfl]; simp
  · intro x
    rw [hpl, hl, hfs]
    exact ⟨fun _ => .inr (.inl (mem_allSlots x)), fun _ => x.isLt⟩
  · intro b x hx
    have := Engine.mem_linkedSlots_of_chain hx
    rw [hl] at this
    cases this
  · intro x y hx
    rw [hl] at hx
    cases hx
  · intro c x hx
    have : (formatEnds p s).engagedSlot c = s.engagedSlot c := by simp only [State.engagedSlot, h2]
    rw [this, he c] at hx
    cases hx
  · rw [State.inFormat, h2]

theorem formatEnds_linkedSlots (p : PortId) (s : State) : (formatEnds p s).engine.linkedSlots = [] := by
  rw [(formatEnds_frames p s).2.1]; rfl

/-- The engine serves nothing through a format, and takes the first job that waits at its end (R16). -/
theorem formatEnds_arbiterLaw {p : PortId} (hc : s.engine.condition = .formatting p) (h : ArbiterLaw s) : ArbiterLaw (formatEnds p s) := by
  have hs : s.starting = true := by simp [State.starting, State.inFormat, hc]
  have hnone := h.1 hs
  unfold formatEnds
  refine arbiterLaw_grantJob _ (fun _ => ?_) (fun _ n hn => ?_)
  · rw [reply_arbiter, (walkDone_frames ..).2.2.1]; exact hnone
  · rw [reply_arbiter, (walkDone_frames ..).2.2.1] at hn
    rw [hnone] at hn
    cases hn

end Sys2Proof.Machine

namespace Sys2Proof.Settled

open Sys2Proof.Machine

/-- Settles O26: the refusal, and the fields of the state in which the format begins. -/
theorem formatBegins : Obligations.FormatBegins := by
  intro p v s h hst hs
  have hc : s.engine.condition ≠ .formatting p := fun e => by simp [State.starting, State.inFormat, e] at hst
  have hserve : s.isServing (portPosition p) = true := decide_eq_true hs
  refine ⟨fun hn => ?_, fun hn => ⟨Machine.formatBegins p s, ?_, ?_⟩⟩
  · rw [exec_format h, if_neg hc, if_neg (by simp [hst]), if_pos hserve, if_pos hn, reply_of_service p v _ _ s h.1]
    rfl
  · rw [exec_format h, if_neg hc, if_neg (by simp [hst]), if_pos hserve, if_neg (by simpa using hn)]
  · have hport := fun q => formatBegins_port p q s
    rw [formatBegins_eq] at hport ⊢
    refine ⟨rfl, rfl, rfl, rfl, rfl, fun x => rfl, rfl, rfl, rfl, (hport p).trans (if_pos rfl), rfl, fun q w hq hw => ?_⟩
    have e := (hport q).trans (if_neg hq)
    rw [startingAnswered_of_service hw] at e
    split
    · next hj => rw [if_pos hj] at e; rw [e]; simp [answered]
    · next hj => rw [if_neg hj] at e; exact e

end Sys2Proof.Settled
end

-- ==== Proofs: the walk ====
section
/-! The start-up walk (R147 to R149): it places one slot after another, and each placement keeps the laws of the catalogue for the slots
placed so far. -/

namespace Sys2Proof.Machine

open Relation

variable {s t : State}

/-! ### What the walk's steps leave unchanged -/

/-- A step of the walk leaves channels, read slots, engagements and the arbiter as they were. -/
structure Walks (s t : State) : Prop where
  channels : t.channels = s.channels
  store : t.store = s.store
  arbiter : t.arbiter = s.arbiter
  engagement : t.engine.engagement = s.engine.engagement

theorem Walks.refl (s : State) : Walks s s := ⟨rfl, rfl, rfl, rfl⟩

theorem Walks.trans {u : State} (h : Walks s t) (g : Walks t u) : Walks s u :=
  ⟨g.channels.trans h.channels, g.store.trans h.store, g.arbiter.trans h.arbiter, g.engagement.trans h.engagement⟩

theorem Sifts.walks {F : Slot → Prop} (h : Sifts F s t) : Walks s t := ⟨h.channels, h.store, h.arbiter, h.engagement⟩

/-! ### Placing one slot -/

/-- How the walk places a slot once it has read what it needs: left unlinked and flagged, pushed on the stack with its record written at
most, or linked under a key that no slot placed before it matches (R148). -/
inductive Placed (x : Slot) (s t : State) : Prop
  | unlinked (hm : t.memory = s.memory)
      (he : t.engine = { s.engine with faulted := slotInsert x s.engine.faulted, walk := t.engine.walk })
  | stacked (hm : t.memory = s.memory ∨ ∃ r, t.memory = (s.writeRecord x r).memory)
      (he : t.engine = { s.engine.push x with walk := t.engine.walk })
  | linked (hm : t.memory = s.memory) (he : t.engine = { s.engine.link (s.record x).key.bucket x with walk := t.engine.walk })
      (ha : Absent s (s.record x).key) (hr : (s.record x).faultyPart = none)

theorem leaveUnlinked_placed (x : Slot) (s : State) : Placed x s (leaveUnlinked x s) := .unlinked rfl rfl

theorem leaveUnlinked_walks (x : Slot) (s : State) : Walks s (leaveUnlinked x s) := ⟨rfl, rfl, rfl, rfl⟩

/-- A slot with a sound record is placed by the lookup of its key (R148). -/
theorem placeSound_placed (x : Slot) (s : State) (hr : (s.record x).faultyPart = none) :
    ∃ u, Sifts (· ∈ s.engine.linkedSlots) s u ∧ Placed x u (placeSound x s) ∧ Walks u (placeSound x s) := by
  unfold placeSound
  dsimp only
  rcases lookup_cases (· ∈ s.engine.linkedSlots) s walkLinkedFault (walkLinkedFault_flags _) (s.record x).key
    (linked_of_chain s _) with ⟨y, u, e, hu, -⟩ | ⟨r, u, e, hu, hr', ha⟩
  · rw [e]
    exact ⟨u, hu, .unlinked rfl rfl, ⟨rfl, rfl, rfl, rfl⟩⟩
  · have hk : (u.record x).key = (s.record x).key := (hu.record x).key
    have hs : (u.record x).faultyPart = none := by
      have hfield := (hu.record x).1
      rw [hfield]
      exact hr
    rw [e]
    refine ⟨u, hu, ?_⟩
    rcases hr' with rfl | rfl
    all_goals exact ⟨.linked rfl (by rw [hk]; rfl) (by rw [hk]; exact ha) hs, ⟨rfl, rfl, rfl, rfl⟩⟩

/-- Everything that placing a slot can do (R148). -/
theorem placeSlot_placed (x : Slot) (s : State) :
    ∃ u, Sifts (· ∈ s.engine.linkedSlots) s u ∧ Placed x u (placeSlot x s) ∧ Walks u (placeSlot x s) := by
  have h1 := readWord_sifts (· ∈ s.engine.linkedSlots) s x .state
  unfold placeSlot
  split
  · next t e => rw [e] at h1; exact ⟨t, h1, leaveUnlinked_placed x t, leaveUnlinked_walks x t⟩
  · next t e =>
    rw [e] at h1
    dsimp only at h1
    split
    · exact ⟨t, h1, .stacked (.inl rfl) rfl, ⟨rfl, rfl, rfl, rfl⟩⟩
    · exact ⟨t, h1, .stacked (.inr ⟨_, rfl⟩) rfl, ⟨rfl, rfl, rfl, rfl⟩⟩
    · exact ⟨t, h1, leaveUnlinked_placed x t, leaveUnlinked_walks x t⟩
    all_goals
      have h2 := readWords_sifts (· ∈ s.engine.linkedSlots) t x wordsBesideState
      split
      · next w u e' => rw [e'] at h2; exact ⟨u, h1.trans h2, leaveUnlinked_placed x u, leaveUnlinked_walks x u⟩
      · next u e' =>
        rw [e'] at h2
        dsimp only at h2
        split
        · exact ⟨u, h1.trans h2, leaveUnlinked_placed x u, leaveUnlinked_walks x u⟩
        · next hr =>
          obtain ⟨w, hw, hp, hwalk⟩ := placeSound_placed x u (by simpa using hr)
          rw [h2.linkedSlots, h1.linkedSlots] at hw
          exact ⟨w, (h1.trans h2).trans hw, hp, hwalk⟩

/-! ### Each placement keeps the laws -/

namespace CatalogueKept

variable (h : CatalogueKept s) {x : Slot} (hx : x.val = s.placedSlots)
include h hx

/-- The slot that the walk places next has no place yet (R148). -/
theorem not_placed : x ∉ s.engine.linkedSlots ∧ x ∉ s.engine.freeStack ∧ x ∉ s.engine.faulted := by
  have := (not_congr (h.places.2.2 x)).1 (by omega)
  tauto

/-- Once the walk has placed a slot, the laws of the catalogue hold for one slot more. -/
theorem placed (hp : t.placedSlots = s.placedSlots + 1) (he : t.engine.engagement = s.engine.engagement) {u : State}
    (hu : Placed x s u) (hm : t.memory = u.memory) (hd : t.engine.directory = u.engine.directory)
    (hst : t.engine.freeStack = u.engine.freeStack) (hfl : t.engine.faulted = u.engine.faulted) : CatalogueKept t := by
  obtain ⟨hlinked, hstack, hfaulted⟩ := h.not_placed hx
  have heng : ∀ c, t.engagedSlot c = s.engagedSlot c := fun c => by simp only [State.engagedSlot, he]
  have hval : ∀ y : Slot, y.val < s.placedSlots + 1 ↔ y = x ∨ y.val < s.placedSlots := fun y => by
    rw [Fin.ext_iff, hx]; omega
  obtain ⟨hnodup, hdis, hplaced⟩ := h.places
  cases hu with
  | unlinked hm' he' =>
    rw [he'] at hd hst hfl
    dsimp only at hd hst hfl
    have hl : t.engine.linkedSlots = s.engine.linkedSlots := by simp only [Engine.linkedSlots, hd]
    have hrec : ∀ y, t.record y = s.record y := fun y => by simp only [State.record, hm, hm']
    have hmem : ∀ y, y ∈ t.engine.faulted ↔ y = x ∨ y ∈ s.engine.faulted := fun y => by rw [hfl, mem_slotInsert]
    have readable : ∀ y, t.keyReadable y → s.keyReadable y := fun y hy => by
      refine ⟨Bool.eq_false_iff.2 fun hf => Bool.eq_false_iff.1 hy.1 ?_, by rw [← hrec]; exact hy.2⟩
      rw [isFaulted_iff, hmem]
      exact .inr ((isFaulted_iff s y).1 hf)
    refine ⟨by rw [hm, hm']; exact h.memory, hd ▸ h.chains, hd ▸ h.buckets, ⟨by rw [hl, hst]; exact hnodup, fun y hy => ?_, fun y => ?_⟩,
      ⟨fun b y hy => ?_, fun y z hy hz hry hrz hk => ?_⟩, fun c y hy => by rw [hl]; exact h.engaged c y ((heng c).symm.trans hy)⟩
    · rw [hst]
      rcases (hmem y).1 hy with rfl | hy
      · exact hstack
      · exact hdis y hy
    · rw [hp, hval, hl, hst, hmem, hplaced y]
      tauto
    · rw [hrec]
      refine h.directory.1 b y ?_
      simpa only [Engine.chain, hd] using hy
    · rw [hl] at hy hz
      rw [hrec, hrec] at hk
      exact h.directory.2 y z hy hz (readable y hry) (readable z hrz) hk
  | stacked hm' he' =>
    rw [he'] at hd hst hfl
    dsimp only [Engine.push] at hd hst hfl
    have hl : t.engine.linkedSlots = s.engine.linkedSlots := by simp only [Engine.linkedSlots, hd]
    have hrec : ∀ y, y ≠ x → t.record y = s.record y := fun y hy => by
      rcases hm' with hm' | ⟨r, hm'⟩
      · simp only [State.record, hm, hm']
      · rw [State.record, hm, hm', ← State.record, record_writeRecord, if_neg hy]
    have hne : ∀ y, y ∈ s.engine.linkedSlots → y ≠ x := fun y hy e => hlinked (e ▸ hy)
    have readable : ∀ y, y ∈ s.engine.linkedSlots → t.keyReadable y → s.keyReadable y := fun y hl hy => by
      refine ⟨?_, by rw [← hrec y (hne y hl)]; exact hy.2⟩
      simpa only [State.isFaulted, hfl] using hy.1
    refine ⟨?_, hd ▸ h.chains, hd ▸ h.buckets, ⟨?_, fun y hy => ?_, fun y => ?_⟩,
      ⟨fun b y hy => ?_, fun y z hy hz hry hrz hk => ?_⟩, fun c y hy => by rw [hl]; exact h.engaged c y ((heng c).symm.trans hy)⟩
    · rcases hm' with hm' | ⟨r, hm'⟩
      · rw [hm, hm']; exact h.memory
      · rw [hm, hm']; exact writeRecord_wf s x r h.memory
    · rw [hl, hst]
      exact List.perm_middle.nodup_iff.2 (List.nodup_cons.2 ⟨by simp [hlinked, hstack], hnodup⟩)
    · rw [hfl] at hy
      rw [hst, List.mem_cons, not_or]
      exact ⟨fun e => hfaulted (e ▸ hy), hdis y hy⟩
    · rw [hp, hval, hl, hst, hfl, hplaced y, List.mem_cons]
      tauto
    · have hy : y ∈ s.engine.chain b := by simpa only [Engine.chain, hd] using hy
      rw [hrec y (hne y (Engine.mem_linkedSlots_of_chain hy))]
      exact h.directory.1 b y hy
    · rw [hl] at hy hz
      rw [hrec y (hne y hy), hrec z (hne z hz)] at hk
      exact h.directory.2 y z hy hz (readable y hy hry) (readable z hz hrz) hk
  | linked hm' he' ha hr =>
    rw [he'] at hd hst hfl
    have hst : t.engine.freeStack = s.engine.freeStack := hst
    have hfl : t.engine.faulted = s.engine.faulted := hfl
    have hd : t.engine.directory = (s.engine.link (s.record x).key.bucket x).directory := hd
    have hperm : t.engine.linkedSlots.Perm (x :: s.engine.linkedSlots) := by
      rw [Engine.linkedSlots, hd]
      exact Engine.linkedSlots_link h.chains
    have hrec : ∀ y, t.record y = s.record y := fun y => by simp only [State.record, hm, hm']
    refine ⟨by rw [hm, hm']; exact h.memory, hd ▸ Engine.link_wf h.chains, hd ▸ Engine.link_keys h.buckets, ⟨?_, ?_, fun y => ?_⟩, ?_,
      fun c y hy => hperm.mem_iff.2 (List.mem_cons_of_mem x (h.engaged c y ((heng c).symm.trans hy)))⟩
    · rw [hst]
      exact (hperm.append_right _).nodup_iff.2 (List.nodup_cons.2 ⟨by simp [hlinked, hstack], hnodup⟩)
    · rw [hfl, hst]; exact hdis
    · rw [hp, hval, hperm.mem_iff, hst, hfl, hplaced y, List.mem_cons]
      tauto
    · refine h.directory_link (e := s.engine) (x := x) h.chains (fun b y hy => ⟨hy, ?_⟩) (fun y hy => ⟨hy, ?_⟩) hd (by rw [hrec])
        (fun y _ => hrec y) (fun y _ => by simp only [State.isFaulted, hfl]) ha
      · rintro rfl; exact hlinked (Engine.mem_linkedSlots_of_chain hy)
      · rintro rfl; exact hlinked hy

/-- The slots that stand in chains after a placement are sound, and none of them is RETIRING that was not. -/
theorem placed_records {u : State} (hu : Placed x s u) : ∀ y ∈ u.engine.linkedSlots,
    (y ∈ s.engine.linkedSlots ∧ u.record y = s.record y ∧ (u.isFaulted y = false → s.isFaulted y = false)) ∨
      (u.record y).faultyPart = none := by
  intro y hy
  have hlinked := (h.not_placed hx).1
  cases hu with
  | unlinked hm he =>
    have hy : y ∈ s.engine.linkedSlots := by rw [he] at hy; exact hy
    refine .inl ⟨hy, by simp only [State.record, hm], fun hf => Bool.eq_false_iff.2 fun h' => Bool.eq_false_iff.1 hf ?_⟩
    rw [isFaulted_iff, he]
    exact (mem_slotInsert x y _).2 (.inr ((isFaulted_iff s y).1 h'))
  | stacked hm he =>
    have hy : y ∈ s.engine.linkedSlots := by rw [he] at hy; exact hy
    refine .inl ⟨hy, ?_, fun hf => by rw [State.isFaulted, he] at hf; exact hf⟩
    rcases hm with hm | ⟨r, hm⟩
    · simp only [State.record, hm]
    · rw [State.record, hm, ← State.record, record_writeRecord, if_neg fun e : y = x => hlinked (e ▸ hy)]
  | linked hm he ha hr =>
    have hrec : u.record y = s.record y := by simp only [State.record, hm]
    have hy : y ∈ (s.engine.link (s.record x).key.bucket x).linkedSlots := by rw [he] at hy; exact hy
    rcases List.mem_cons.1 ((Engine.linkedSlots_link h.chains).mem_iff.1 hy) with rfl | hy
    · exact .inr (by rw [hrec]; exact hr)
    · exact .inl ⟨hy, hrec, fun hf => by rw [State.isFaulted, he] at hf; exact hf⟩

end CatalogueKept

/-! ### The walk's steps -/

/-- Everything that a step of the walk over the slots can do: nothing, or it places the next slot. -/
theorem walkOne_cases (s : State) : walkOne s = s ∨
    ∃ (x : Slot) (u w : State), s.engine.condition = .walking x.val ∧ Sifts (· ∈ s.engine.linkedSlots) s u ∧ Placed x u w ∧ Walks s w ∧
      walkOne s = w.setEngine { w.engine with condition := .walking (x.val + 1) } := by
  unfold walkOne
  split
  · next n hc =>
    split
    · next hn =>
      obtain ⟨u, hu, hp, hw⟩ := placeSlot_placed ⟨n, hn⟩ s
      exact .inr ⟨⟨n, hn⟩, u, _, hc, hu, hp, hu.walks.trans hw, rfl⟩
    · exact .inl rfl
  · exact .inl rfl

theorem walkOne_walks (s : State) : Walks s (walkOne s) := by
  rcases walkOne_cases s with e | ⟨x, u, w, -, -, -, hw, e⟩
  · rw [e]; exact .refl s
  · rw [e]; exact hw.trans ⟨rfl, rfl, rfl, rfl⟩

theorem inFormat_of_walking {n : Nat} (hc : s.engine.condition = .walking n) : s.inFormat = false := by rw [State.inFormat, hc]

theorem starting_of_walking {n : Nat} (hc : s.engine.condition = .walking n) : s.starting = true := by
  rw [State.starting, State.inWalk, hc]
  rfl

theorem walkOne_starting (s : State) : (walkOne s).starting = s.starting := by
  rcases walkOne_cases s with e | ⟨x, u, w, hc, -, -, -, e⟩
  · rw [e]
  · rw [e, starting_of_walking (n := x.val) hc]
    exact starting_of_walking (n := x.val + 1) rfl

theorem walkOne_catalogueLaw (h : CatalogueLaw s) : CatalogueLaw (walkOne s) ∧ (RecordLaw s → RecordLaw (walkOne s)) ∧
    (RetiringLaw s → RetiringLaw (walkOne s)) := by
  rcases walkOne_cases s with e | ⟨x, u, w, hc, hu, hp, hw, e⟩
  · rw [e]; exact ⟨h, id, id⟩
  · have hf : s.inFormat = false := inFormat_of_walking hc
    have hk := ((catalogueLaw_iff hf).1 h).sifted hu fun _ => id
    have hplaced : x.val = u.placedSlots := by
      rw [placedSlots_congr hu.condition, State.placedSlots, hc]
      exact (Nat.min_eq_left (Nat.le_of_lt x.isLt)).symm
    have hnext : (w.setEngine { w.engine with condition := .walking (x.val + 1) }).placedSlots = u.placedSlots + 1 := by
      rw [← hplaced]
      exact Nat.min_eq_left x.isLt
    have hrec := hk.placed_records hplaced hp
    have hm : CatalogueMove s u := .sifted hu fun _ => id
    rw [e]
    refine ⟨CatalogueKept.law (hk.placed hplaced hnext (hw.engagement.trans hu.engagement.symm) hp rfl rfl rfl rfl) rfl,
      fun hr _ y hy => ?_, fun hr _ y hy hfl hst => ?_⟩
    · have hr := hm.recordLaw h hr
      rcases hrec y hy with ⟨hl, he, -⟩ | hs
      · rw [setEngine_record, he]
        exact hr (hu.inFormat.trans hf) y hl
      · rw [setEngine_record, sound_iff]
        refine (sound_iff _).1 ?_
        have hne : (w.record y).state ≠ .retiring := fun hret => by
          have := ((faultyPart_eq_none_iff _).1 hs).1
          simp [Record.fixedSound, hret] at this
        rwa [Record.unretired, if_neg hne]
    · have hr := Catalogues.retiringLaw (.single hm) h hr
      have hst : (w.record y).state = .retiring := hst
      rcases hrec y hy with ⟨hl, he, hff⟩ | hs
      · have hres := hr (hu.inFormat.trans hf) y hl (hff hfl) (he ▸ hst)
        rw [hu.engagements] at hres
        simpa only [State.engagements, setEngine_engine, hw.engagement] using hres
      · have := ((faultyPart_eq_none_iff _).1 hs).1
        simp [Record.fixedSound, hst] at this

/-! ### The ends of the walk -/

/-- A catalogue of which only the order of the free slot stack, the condition and the header have changed (R149). -/
theorem CatalogueKept.rearranged (h : CatalogueKept s) (hm : t.memory.records = s.memory.records)
    (hd : t.engine.directory = s.engine.directory) (hfl : t.engine.faulted = s.engine.faulted)
    (he : t.engine.engagement = s.engine.engagement) (hst : t.engine.freeStack.Perm s.engine.freeStack)
    (hp : t.placedSlots = s.placedSlots) : CatalogueKept t := by
  have hl : t.engine.linkedSlots = s.engine.linkedSlots := by simp only [Engine.linkedSlots, hd]
  obtain ⟨h1, h2, h3, ⟨h4, h5, h6⟩, h7, h8⟩ := h
  refine ⟨by rw [Memory.wf, hm]; exact h1, hd ▸ h2, hd ▸ h3, ⟨?_, fun x hx => ?_, fun x => ?_⟩, ?_, ?_⟩
  · rw [hl]; exact (hst.append_left _).nodup_iff.2 h4
  · rw [hst.mem_iff]; exact h5 x (hfl ▸ hx)
  · rw [hp, hl, hst.mem_iff, hfl]; exact h6 x
  · simpa only [DirectoryLaw, State.keyReadable, State.isFaulted, State.record, Engine.chain, Engine.linkedSlots, hm, hd, hfl] using h7
  · simpa only [State.engagedSlot, he, hl] using h8

theorem rearranged_records (hm : t.memory.records = s.memory.records)
    (hd : t.engine.directory = s.engine.directory) (hfl : t.engine.faulted = s.engine.faulted)
    (he : t.engine.engagement = s.engine.engagement) (hf : t.inFormat = s.inFormat) :
    (RecordLaw s → RecordLaw t) ∧ (RetiringLaw s → RetiringLaw t) := by
  constructor <;> intro h
  · simpa only [RecordLaw, State.record, Engine.linkedSlots, hm, hd, hf] using h
  · simpa only [RetiringLaw, State.record, State.isFaulted, State.engagements, Engine.linkedSlots, hm, hd, hfl, he, hf] using h

theorem walkEnds_frames (offline : Bool) (s : State) :
    (walkEnds offline s).memory = s.memory ∧ (walkEnds offline s).store = s.store ∧ (walkEnds offline s).channels = s.channels ∧
      (walkEnds offline s).engine = { s.engine with
        condition := if offline then .offline else .ready
        freeStack := if offline then s.engine.freeStack else s.engine.freeStack.reverse.insertionSort fun x y => x ≤ y } := by
  obtain ⟨h1, h2, -, h4, h5⟩ := walkDone_frames .walk offline (if offline then WalkCounts.zero else s.engine.walk)
    { s with
      hold := { s.hold with
        latches := s.hold.latches ||| s.hold.lines
        mirrorWaiting := s.hold.mirrorWaiting || (!offline && decide (s.hold.latches ||| s.hold.lines ≠ s.memory.header.mirror)) }
      arbiter := Arbiter.reset
      engine := { s.engine with
        condition := if offline then .offline else .ready
        freeStack :=
          if offline then s.engine.freeStack else s.engine.freeStack.reverse.insertionSort fun x y => x ≤ y } }
  unfold walkEnds
  simp only [grantJob_memory, grantJob_engine, grantJob_store, grantJob_channels, h1, h2, h4, h5, and_self]

theorem walkEnds_arbiterLaw (offline : Bool) (s : State) : ArbiterLaw (walkEnds offline s) := by
  unfold walkEnds
  refine arbiterLaw_grantJob _ (fun _ => ?_) (fun _ n hn => ?_)
  · rw [(walkDone_frames ..).2.2.1]; rfl
  · rw [(walkDone_frames ..).2.2.1] at hn; cases hn

/-- The end of the walk keeps the laws of the catalogue: OFFLINE with no slot placed, or ready with every slot placed (R147, R149). -/
theorem walkEnds_laws (offline : Bool) (hp : s.placedSlots = if offline then 0 else Config.slotCount) (hf : s.inFormat = false)
    (h : CatalogueLaw s) : CatalogueLaw (walkEnds offline s) ∧ (RecordLaw s → RecordLaw (walkEnds offline s)) ∧
      (RetiringLaw s → RetiringLaw (walkEnds offline s)) := by
  obtain ⟨h1, -, -, h4⟩ := walkEnds_frames offline s
  have hf' : (walkEnds offline s).inFormat = false := by rw [State.inFormat, h4]; cases offline <;> rfl
  have hp' : (walkEnds offline s).placedSlots = s.placedSlots := by rw [State.placedSlots, h4, hp]; cases offline <;> rfl
  have hperm : (walkEnds offline s).engine.freeStack.Perm s.engine.freeStack := by
    rw [h4]
    cases offline
    · exact (List.perm_insertionSort _ _).trans (List.reverse_perm _)
    · exact .refl _
  exact ⟨CatalogueKept.law (((catalogueLaw_iff hf).1 h).rearranged (by rw [h1]) (by rw [h4]) (by rw [h4]) (by rw [h4]) hperm hp') hf',
    rearranged_records (by rw [h1]) (by rw [h4]) (by rw [h4]) (by rw [h4]) (hf'.trans hf.symm)⟩

end Sys2Proof.Machine
end

-- ==== Proofs: what every command keeps ====
section
/-! The laws that every command keeps: the laws of channels and engagements, of the store reader's grants, of the engine's arbiter and of
the catalogue, gathered from the lemmas about each unit's operations; and what a command can do to the arbiter. -/

namespace Sys2Proof.Machine

open Relation

variable {s t : State}

/-! ### The laws together -/

/-- What every step keeps. -/
structure Keeps (s t : State) : Prop where
  channel : ChannelLaw s → ChannelLaw t
  engagement : EngagementLaw s → EngagementLaw t
  grants : NoGrantDue s → NoGrantDue t
  arbiter : ArbiterLaw s → ArbiterLaw t
  catalogue : ArbiterLaw s → CatalogueLaw s → CatalogueLaw t
  records : CatalogueLaw s → RecordLaw s → RecordLaw t
  retiring : CatalogueLaw s → EngagementLaw s → RetiringLaw s → RetiringLaw t

theorem Moves.channelLaw (h : Moves s t) : ChannelLaw s → ChannelLaw t :=
  h.keeps (P := fun ch _ => ch.lawful) fun _ _ m => m.lawful

theorem Moves.engagementLaw (h : Moves s t) : EngagementLaw s → EngagementLaw t :=
  h.keeps (P := fun ch e => ch.engagesWell e) fun _ _ m => m.engagesWell

theorem Keeps.of_catalogues (hm : Moves s t) (hc : Catalogues s t) (hg : NoGrantDue s → NoGrantDue t)
    (ha : ArbiterLaw s → ArbiterLaw t) : Keeps s t :=
  ⟨hm.channelLaw, hm.engagementLaw, hg, ha, fun _ => hc.law, hc.recordLaw, fun h _ => hc.retiringLaw h⟩

theorem Quiet.keeps (h : Quiet s t) : Keeps s t := .of_catalogues h.moves h.catalogues h.grants h.presents.law

/-- The arbiter's law keeps a job from being served during a format. -/
theorem ArbiterLaw.inFormat {n : Nat} (h : ArbiterLaw s) (hs : s.arbiter.serving = some n) : s.starting = false ∧ s.inFormat = false := by
  have hst : s.starting = false := Bool.eq_false_iff.2 fun hst => by rw [h.1 hst] at hs; cases hs
  exact ⟨hst, inFormat_of_not_starting hst⟩

/-- The end of a job keeps the laws. -/
theorem JobDone.keeps {n : Nat} (h : JobDone s t) (hn : s.arbiter.serving = some n) : Keeps s (finishJob t) := by
  have hm : Moves s (finishJob t) := h.moves.trans (.of_eq (by simp) (by simp))
  have hq : CatalogueMove t (finishJob t) := .quiet (by simp) (by simp)
  have hi : (finishJob t).inFormat = s.inFormat := hq.inFormat.trans h.inFormat
  refine ⟨hm.channelLaw, hm.engagementLaw, fun hg => .of_store (by simp) (h.grants hg), fun _ => arbiterLaw_finishJob t,
    fun ha hc => hq.law (h.catalogue (ha.inFormat hn).2 hc), fun hc hr hf => ?_, fun hc he hr hf => ?_⟩
  · have hf' := hi.symm.trans hf
    exact hq.recordLaw (h.catalogue hf' hc) (h.records hf' hc hr) hf
  · have hf' := hi.symm.trans hf
    exact Catalogues.retiringLaw (.single hq) (h.catalogue hf' hc) (h.retiring hf' hc he hr) hf

/-! ### Replies -/

theorem reply_moves (p : PortId) (code : ReplyCode) (fields : List Field) (s : State) : Moves s (reply p code fields s) :=
  .of_eq (by simp) (by simp)

theorem reply_catalogueMove (p : PortId) (code : ReplyCode) (fields : List Field) (s : State) :
    CatalogueMove s (reply p code fields s) := .quiet (by simp) (by simp)

theorem Answers.moves {p : PortId} (h : Answers p s t) : Moves s t := by
  obtain ⟨code, fields, u, hu, rfl⟩ := h
  exact hu.plays.moves.trans (reply_moves p code fields u)

theorem Answers.catalogues {p : PortId} (h : Answers p s t) : Catalogues s t := by
  obtain ⟨code, fields, u, hu, rfl⟩ := h
  exact hu.catalogues.tail (reply_catalogueMove p code fields u)

theorem Answers.grants {p : PortId} (h : Answers p s t) : NoGrantDue s → NoGrantDue t := by
  obtain ⟨code, fields, u, hu, rfl⟩ := h
  exact fun hg => .of_store (by simp) (hu.grants hg)

/-- A reply stops no job from waiting but one of its own port. -/
theorem waitsAt_reply {p : PortId} {code : ReplyCode} {fields : List Field} {n : Nat} (h : n ≠ p.val ∨ s.portWaits p = false) :
    (reply p code fields s).waitsAt n = s.waitsAt n := by
  cases hv : (s.port p).service with
  | none => rw [reply_of_none p code fields s hv]
  | some v =>
    rw [reply_of_service p v code fields s hv, answered]
    by_cases hn : n = p.val
    · refine waitsAt_setPort_eq s ?_ n
      rw [h.resolve_left fun h => h hn]
      exact portWaits_of_none _ (by simp)
    · unfold State.waitsAt
      split
      · next hp => rw [portWaits_setPort_ne]; exact fun e => hn (by rw [← e])
      · rfl

/-- The answer of a request that presents no job leaves every job that waits waiting. -/
theorem Answers.quiet {p : PortId} {v : Service} {r : Request} (h : Answers p s t) (hv : Serves s p v r) (hj : r.presentsJob = false) :
    Quiet s t := by
  refine ⟨h.moves, ?_, h.catalogues, h.grants⟩
  obtain ⟨code, fields, u, hu, rfl⟩ := h
  have hw : u.portWaits p = false := by
    rw [portWaits_of_service (v := v) u ((hu.plays.notified p).service.trans hv.1), hv.2, hj]
  exact hu.plays.presents.trans (.of_eq (by simp) (by simp) fun n => waitsAt_reply (.inr hw))

/-- A job that the engine does not serve is answered without a grant. -/
theorem answered_keeps {p : PortId} {code : ReplyCode} {fields : List Field} (h : s.starting = true ∨ s.arbiter.serving ≠ some p.val) :
    Keeps s (reply p code fields s) := by
  refine .of_catalogues (reply_moves p code fields s) (.single (reply_catalogueMove p code fields s)) (.of_store (by simp))
    fun ⟨h1, h2⟩ => ?_
  have hst : (reply p code fields s).starting = s.starting := starting_congr (by simp)
  refine ⟨fun hs => by rw [reply_arbiter]; exact h1 (hst ▸ hs), fun hs => ?_⟩
  rw [hst] at hs
  obtain ⟨hserving, hfree⟩ := h2 hs
  have hp := h.resolve_left (by simp [hs])
  rw [reply_arbiter]
  refine ⟨fun n hn => ?_, fun hnone n hn => ?_⟩
  · rw [waitsAt_reply (.inl fun e => hp (by rw [hn, e]))]
    exact hserving n hn
  · rw [waitsAt_reply (or_iff_not_imp_left.2 fun e => ?_)]
    · exact hfree hnone n hn
    · have := hfree hnone p.val (by omega)
      rwa [State.waitsAt, dif_pos p.isLt] at this

theorem Catalogues.inFormat (h : Catalogues s t) : t.inFormat = s.inFormat := by
  induction h with
  | refl => rfl
  | tail _ m ih => exact m.inFormat.trans ih

/-- A catalogue job that is answered at its grant. -/
theorem Answers.jobDone {p : PortId} (h : Answers p s t) : JobDone s t :=
  .of_catalogues h.moves h.catalogues.inFormat h.grants fun _ _ => h.catalogues

/-! ### The arbiter under a command -/

/-- What a command keeps, and that it changes what the arbiter holds of a job only where it serves the job (R14). -/
structure Allowed (i : Instr) (s t : State) : Prop where
  keeps : Keeps s t
  held : ∀ n, ArbiterLaw s → s.arbiter.serving = some n → t.arbiter ≠ s.arbiter →
    (∃ lines, i = .reset lines) ∨ ServesPosition i n s

theorem Keeps.allowed {i : Instr} (h : Keeps s t) (ha : ArbiterLaw s → s.arbiter.serving ≠ none → t.arbiter = s.arbiter) :
    Allowed i s t := ⟨h, fun n hl hn hne => absurd (ha hl (by simp [hn])) hne⟩

theorem Quiet.allowed {i : Instr} (h : Quiet s t) : Allowed i s t := h.keeps.allowed fun _ => h.presents.serving

theorem Allowed.refl (i : Instr) (s : State) : Allowed i s s := (Quiet.refl s).allowed

theorem Works.allowed {i : Instr} (h : Works s t) : Allowed i s t := h.quiet.allowed

theorem JobDone.allowed {i : Instr} {n : Nat} (h : JobDone s t) (hn : s.arbiter.serving = some n) (hi : ServesPosition i n s) :
    Allowed i s (finishJob t) := by
  refine ⟨h.keeps hn, fun m _ hm _ => .inr ?_⟩
  rw [hn] at hm
  cases hm
  exact hi

/-- A step of the walk, or the end of a format: no job is served. -/
theorem Keeps.allowed_of_starting {i : Instr} (h : Keeps s t) (hs : s.starting = true) : Allowed i s t :=
  h.allowed fun hl hn => absurd (hl.1 hs) hn

/-! ### Requests -/

/-- A request that is served keeps the laws. -/
theorem request_allowed {p : PortId} {v : Service} {r : Request} (h : Serves s p v r) (e : exec (r.command p) s = .next t) :
    Allowed (r.command p) s t := by
  have hserves : ServesPosition (r.command p) p.val s := .inl ⟨p, v, r, h, rfl, rfl⟩
  cases hj : r.presentsJob with
  | false =>
    obtain ⟨u, e', hu⟩ := exec_request h hj
    rw [e'] at e
    cases e
    exact (hu.quiet h hj).allowed
  | true =>
    by_cases hr : r = .formatCatalogue
    · subst hr
      have e' : exec (Request.formatCatalogue.command p) s = _ := exec_format h
      rw [e'] at e
      have e := (Host.Outcome.next.inj e).symm
      split at e
      · rw [e]; exact .refl _ s
      split at e
      · next hst => rw [e]; exact (answered_keeps (.inl hst)).allowed fun _ _ => reply_arbiter ..
      split at e
      · next hst hs =>
        have hs : s.arbiter.serving = some p.val := of_decide_eq_true hs
        split at e
        · rw [e]
          exact (Answers.jobDone (refused s)).allowed hs hserves
        · next he =>
          rw [e]
          have hm := formatBegins_moves p s
          have hf := formatBegins_inFormat p s
          refine ⟨⟨hm.channelLaw, hm.engagementLaw, .of_store (by rw [formatBegins_eq]), fun _ => formatBegins_arbiterLaw p s,
            fun _ => formatBegins_catalogueLaw p (by simpa using he), fun _ _ h => ?_, fun _ _ _ h => ?_⟩, fun n _ hn _ => .inr ?_⟩
          · rw [hf] at h; cases h
          · rw [hf] at h; cases h
          · rw [hs] at hn; cases hn; exact hserves
      · next hst hs =>
        have hs : s.arbiter.serving ≠ some p.val := fun h => hs (decide_eq_true h)
        split at e
        · rw [e]; exact (answered_keeps (.inr hs)).allowed fun _ _ => reply_arbiter ..
        · rw [e]; exact .refl _ s
    · rw [exec_job h hj hr] at e
      have e := (Host.Outcome.next.inj e).symm
      rcases catalogueJob_cases p (r.job p v.role) s with ⟨hst, e'⟩ | ⟨hst, hs, e'⟩ | ⟨-, hs, ⟨-, e'⟩ | ⟨-, -, e'⟩ | ⟨-, -, e'⟩⟩
      · rw [e, e']; exact (answered_keeps (.inl hst)).allowed fun _ _ => reply_arbiter ..
      · rw [e, e']
        have hf := inFormat_of_not_starting hst
        refine JobDone.allowed (n := p.val) ?_ hs hserves
        split
        · exact Answers.jobDone (refused s)
        · exact Answers.jobDone (job_answers s r p v.role hj hr hf)
      · rw [e, e']; exact (answered_keeps (.inr hs)).allowed fun _ _ => reply_arbiter ..
      · rw [e, e']; exact (answered_keeps (.inr hs)).allowed fun _ _ => reply_arbiter ..
      · rw [e, e']; exact .refl _ s

theorem requestCommand_allowed (r : Request) (p : PortId) (e : exec (r.command p) s = .next t) : Allowed (r.command p) s t := by
  rcases service_cases r p s with ⟨v, q, h, eq⟩ | e'
  · rw [eq] at e ⊢
    exact request_allowed h e
  · rw [e'] at e
    cases e
    exact .refl _ s

/-! ### The walk and the format -/

/-- A walk or format step that keeps channels, read slots and engagements. -/
theorem Keeps.of_laws (hc : t.channels = s.channels) (hs : t.store = s.store) (he : t.engine.engagement = s.engine.engagement)
    (ha : ArbiterLaw s → ArbiterLaw t)
    (hl : CatalogueLaw s → CatalogueLaw t ∧ (RecordLaw s → RecordLaw t) ∧ (RetiringLaw s → RetiringLaw t)) : Keeps s t := by
  have hm : Moves s t := .of_eq hc he
  exact ⟨hm.channelLaw, hm.engagementLaw, .of_store hs, ha, fun _ h => (hl h).1, fun h => (hl h).2.1, fun h _ => (hl h).2.2⟩

theorem completeFormat_allowed (i : Instr) (s : State) : Allowed i s (completeFormat s) := by
  unfold completeFormat
  split
  · next p hc =>
    obtain ⟨-, h2, h3, h4⟩ := formatEnds_frames p s
    refine Keeps.allowed_of_starting (.of_laws h4 h3 (by rw [h2]) (formatEnds_arbiterLaw hc) fun h =>
      ⟨formatEnds_catalogueLaw hc h, fun _ _ x hx => ?_, fun _ _ x hx => ?_⟩) (by rw [State.starting, State.inWalk, State.inFormat, hc]; rfl)
    all_goals rw [formatEnds_linkedSlots] at hx; cases hx
  · exact .refl i s

theorem walkOne_allowed (i : Instr) (s : State) : Allowed i s (walkOne s) := by
  have hw := walkOne_walks s
  refine Keeps.allowed (.of_laws hw.channels hw.store hw.engagement (fun ⟨h1, h2⟩ => ?_) walkOne_catalogueLaw) fun _ _ => hw.arbiter
  rcases walkOne_cases s with e | ⟨x, -, -, hc, -, -, -, -⟩
  · rw [e]; exact ⟨h1, h2⟩
  · have hst := starting_of_walking hc
    refine ⟨fun _ => by rw [hw.arbiter]; exact h1 hst, fun h => ?_⟩
    rw [walkOne_starting, hst] at h
    cases h

theorem walkLast_allowed (i : Instr) (s : State) : Allowed i s (walkLast s) := by
  unfold walkLast
  split
  · next n hc =>
    split
    · next hn =>
      obtain ⟨-, h2, h3, h4⟩ := walkEnds_frames false s
      have hp : s.placedSlots = if false = true then 0 else Config.slotCount := by
        rw [State.placedSlots, hc]
        exact Nat.min_eq_right hn
      exact Keeps.allowed_of_starting (.of_laws h3 h2 (by rw [h4]) (fun _ => walkEnds_arbiterLaw false s)
        (walkEnds_laws false hp (inFormat_of_walking hc))) (starting_of_walking hc)
    · exact .refl i s
  · exact .refl i s

/-- What the read of the header leaves unchanged. -/
theorem readHeaderWords_frames (s : State) :
    (readHeaderWords s).2.memory.records = s.memory.records ∧ (readHeaderWords s).2.channels = s.channels ∧
      (readHeaderWords s).2.store = s.store ∧ (readHeaderWords s).2.arbiter = s.arbiter ∧
      (readHeaderWords s).2.engine = { s.engine with walk := (readHeaderWords s).2.engine.walk } := by
  unfold readHeaderWords
  refine ⟨by simp, by simp, by simp, by simp, ?_⟩
  exact Sifts.noteRepairs_engine _ _

theorem headerRead_allowed (i : Instr) (s : State) : Allowed i s (headerRead s) := by
  unfold headerRead
  split
  · next hc =>
    obtain ⟨hm, hch, hst, har, hen⟩ := readHeaderWords_frames s
    have hs : s.starting = true := by rw [State.starting, State.inWalk, hc]; rfl
    have hf : s.inFormat = false := by rw [State.inFormat, hc]
    dsimp only
    cases e : readHeaderWords s with
    | mk sound t =>
      rw [e] at hm hch hst har hen
      dsimp only at hm hch hst har hen ⊢
      have hcond : t.engine.condition = .walkHeader := by rw [hen]; exact hc
      have hft : t.inFormat = false := by rw [State.inFormat, hcond]
      have hplaced : s.placedSlots = 0 := by rw [State.placedSlots, hc]
      have hplacedt : t.placedSlots = 0 := by rw [State.placedSlots, hcond]
      have laws : ∀ u : State, u.memory.records = t.memory.records → u.engine = { t.engine with condition := u.engine.condition } →
          u.inFormat = false → u.placedSlots = 0 → CatalogueLaw s →
          CatalogueLaw u ∧ (RecordLaw s → RecordLaw u) ∧ (RetiringLaw s → RetiringLaw u) := by
        intro u hmu heu hfu hpu hl
        have hd : u.engine.directory = s.engine.directory := by rw [heu, hen]
        have hfl : u.engine.faulted = s.engine.faulted := by rw [heu, hen]
        have hg : u.engine.engagement = s.engine.engagement := by rw [heu, hen]
        have hsk : u.engine.freeStack = s.engine.freeStack := by rw [heu, hen]
        exact ⟨(((catalogueLaw_iff hf).1 hl).rearranged (hmu.trans hm) hd hfl hg (by rw [hsk]) (by rw [hpu, hplaced])).law hfu,
          rearranged_records (hmu.trans hm) hd hfl hg (hfu.trans hf.symm)⟩
      split
      · refine Keeps.allowed_of_starting (.of_laws hch hst (by rw [hen]) (fun ha => ?_) (laws _ rfl rfl rfl rfl)) hs
        refine ⟨fun _ => ?_, fun h => ?_⟩
        · exact (congrArg Arbiter.serving har).trans (ha.1 hs)
        · rw [starting_of_walking (n := 0) rfl] at h; cases h
      · obtain ⟨-, h2, h3, h4⟩ := walkEnds_frames true t
        refine Keeps.allowed_of_starting (.of_laws (h3.trans hch) (h2.trans hst) (by rw [h4, hen])
          (fun _ => walkEnds_arbiterLaw true t) fun hl => ?_) hs
        obtain ⟨hl, hr, hret⟩ := laws t rfl rfl hft hplacedt hl
        obtain ⟨hl', hr', hret'⟩ := walkEnds_laws true hplacedt hft hl
        exact ⟨hl', hr' ∘ hr, hret' ∘ hret⟩
  · exact .refl i s

theorem reset_allowed (lines : Groups) (s : State) : Allowed (.reset lines) s (State.afterReset s.memory lines s.moments s.pending) := by
  refine ⟨⟨fun _ => ?_, fun _ => ?_, fun _ => afterReset_noGrantDue .., fun _ => afterReset_arbiterLaw .., fun _ h =>
    afterReset_catalogueLaw _ _ _ h.1, fun _ _ _ x hx => ?_, fun _ _ _ _ x hx => ?_⟩, fun _ _ _ _ => .inl ⟨lines, rfl⟩⟩
  · intro c; rw [afterReset_channel]; exact channelReset_lawful
  · intro c; rw [afterReset_channel, afterReset_engagedSlot]; exact channelReset_engagesWell
  all_goals rw [afterReset_linkedSlots] at hx; cases hx

end Sys2Proof.Machine
end

-- ==== Proofs: every step keeps the laws ====
section
/-! Every command keeps the laws, so every step does; and the statements about the engine's arbiter. -/

namespace Sys2Proof.Machine

variable {s t : State}

/-- Every command keeps the laws, and changes what the arbiter holds of a job only where it serves the job or resets the part. -/
theorem exec_allowed (i : Instr) (e : exec i s = .next t) : Allowed i s t := by
  have next : ∀ {u : State}, Host.Outcome.next u = (.next t : Result) → Allowed i s u → Allowed i s t := fun h hu => by
    cases h; exact hu
  cases i with
  | reset lines => exact next e (reset_allowed lines s)
  | walkHeaderRead => exact next e (headerRead_allowed _ s)
  | walkSlot => exact next e (walkOne_allowed _ s)
  | walkEnd => exact next e (walkLast_allowed _ s)
  | formatComplete => exact next e (completeFormat_allowed _ s)
  | messageDiscard p bytes =>
    refine next e ?_
    split
    · exact (linkFault_quiet s p).allowed
    · exact .refl _ s
  | requestArrival p body => exact next e (takeIn_quiet s p body).allowed
  | requestDispatch p => exact next e (dispatch_quiet s p).allowed
  | credit p c n => exact next e (takeCredit_quiet s p c n.toNat).allowed
  | outgoingArbitration p => exact next e (arbitrate_quiet s p).allowed
  | audioPiece p => exact next e (sendPiece_quiet s p).allowed
  | blockData tag data =>
    refine next e ?_
    split
    · exact (answerTag_works s tag _ fun c b t => endData_stores t c b data).allowed
    · exact .refl _ s
  | blockFail tag reason => exact next e (answerTag_works s tag _ fun c b t => failAttempt_stores t c b _).allowed
  | readTimeout g => exact next e (slotTimeout_works s g).allowed
  | storeMessageDiscard bytes => exact next e (.refl _ s)
  | collectionTimeout c => exact next e (waitTimeout_works s c).allowed
  | holdLineRise g => exact next e (lineRise_works s g).allowed
  | holdLineFall g => exact next e (lineFall_works s g).allowed
  | millisecondTick => exact next e (tick_works s).allowed
  | pinCountdown =>
    refine next e ?_
    split
    · exact (tick_works s).allowed
    · exact .refl _ s
  | startResolution c =>
    refine next e ?_
    rcases serveStart_done s c with e' | ⟨u, e', hs, hu⟩
    · rw [e']; exact .refl _ s
    · rw [e']; exact hu.allowed hs (.inr (.inl ⟨c, .inl rfl, rfl⟩))
  | segmentResolution c =>
    refine next e ?_
    rcases serveSegment_done s c with e' | ⟨u, e', hs, hu⟩
    · rw [e']; exact .refl _ s
    · rw [e']; exact hu.allowed hs (.inr (.inl ⟨c, .inr (.inl rfl), rfl⟩))
  | disengage c =>
    refine next e ?_
    rcases serveDisengage_done s c with e' | ⟨u, e', hs, hu⟩
    · rw [e']; exact .refl _ s
    · rw [e']; exact hu.allowed hs (.inr (.inl ⟨c, .inr (.inr rfl), rfl⟩))
  | mirrorWrite =>
    refine next e ?_
    rcases serveMirrorWrite_done s with e' | ⟨u, e', hs, hu⟩
    · rw [e']; exact .refl _ s
    · rw [e']; exact hu.allowed hs (.inr (.inr ⟨rfl, rfl⟩))
  | enterItem p => exact requestCommand_allowed (.enterItem ⟨0, 0⟩ 0 0 0 0) p e
  | findItem p => exact requestCommand_allowed (.findItem ⟨0, 0⟩) p e
  | describeItem p => exact requestCommand_allowed (.describeItem ⟨0, 0⟩) p e
  | releaseItem p => exact requestCommand_allowed (.releaseItem ⟨0, 0⟩) p e
  | reopenItem p => exact requestCommand_allowed (.reopenItem ⟨0, 0⟩) p e
  | splice p => exact requestCommand_allowed (.splice ⟨0, 0⟩ 0 0 0 0 0) p e
  | openPass p => exact requestCommand_allowed (.openPass ⟨0, 0⟩) p e
  | addExtent p => exact requestCommand_allowed (.addExtent ⟨0, 0⟩ 0 0 0) p e
  | closePass p => exact requestCommand_allowed (.closePass ⟨0, 0⟩ 0 0) p e
  | withdrawPass p => exact requestCommand_allowed (.withdrawPass ⟨0, 0⟩ 0) p e
  | holdItem p => exact requestCommand_allowed (.holdItem ⟨0, 0⟩) p e
  | liftItem p => exact requestCommand_allowed (.liftItem ⟨0, 0⟩) p e
  | setGroups p => exact requestCommand_allowed (.setGroups ⟨0, 0⟩ 0) p e
  | retireItem p => exact requestCommand_allowed (.retireItem ⟨0, 0⟩) p e
  | restoreItem p => exact requestCommand_allowed (.restoreItem 0 []) p e
  | discardItem p => exact requestCommand_allowed (.discardItem 0) p e
  | formatCatalogue p => exact requestCommand_allowed .formatCatalogue p e
  | pinItem p => exact requestCommand_allowed (.pinItem ⟨0, 0⟩ 0) p e
  | unpinItem p => exact requestCommand_allowed (.unpinItem 0 0) p e
  | bindChannel p => exact requestCommand_allowed (.bindChannel 0 0) p e
  | queueCue p => exact requestCommand_allowed (.queueCue 0 ⟨0, ⟨0, 0⟩, 0, 0⟩) p e
  | stopChannel p => exact requestCommand_allowed (.stopChannel 0) p e
  | haltChannel p => exact requestCommand_allowed (.haltChannel 0) p e
  | resumeChannel p => exact requestCommand_allowed (.resumeChannel 0) p e
  | clearCut p => exact requestCommand_allowed (.clearCut 0) p e
  | flushChannel p => exact requestCommand_allowed (.flushChannel 0) p e
  | setLanes p => exact requestCommand_allowed (.setLanes 0 0 0 []) p e
  | setCutoff p => exact requestCommand_allowed (.setCutoff 0 0) p e
  | channelStatus p => exact requestCommand_allowed (.channelStatus 0) p e
  | holdGroup p => exact requestCommand_allowed (.holdGroup 0) p e
  | liftGroup p => exact requestCommand_allowed (.liftGroup 0) p e
  | storeReset p => exact requestCommand_allowed .storeReset p e
  | ackAttention p => exact requestCommand_allowed (.ackAttention 0) p e
  | setAttentionMask p => exact requestCommand_allowed (.setAttentionMask 0) p e
  | attentionSummary p => exact requestCommand_allowed .attentionSummary p e
  | rearmAlarm p => exact requestCommand_allowed .rearmAlarm p e
  | readFaultRecord p => exact requestCommand_allowed .readFaultRecord p e
  | clearFaultRecord p => exact requestCommand_allowed .clearFaultRecord p e
  | assignRole p => exact requestCommand_allowed (.assignRole 0 0) p e
  | setTiming p => exact requestCommand_allowed (.setTiming 0 0 0) p e

/-- The queue of waiting commands is no part of what the laws speak of. -/
theorem Keeps.withPending {rest : List Instr} (h : Keeps (s.withPending rest) t) : Keeps s t :=
  ⟨h.channel, h.engagement, h.grants, h.arbiter, h.catalogue, h.records, h.retiring⟩

theorem step_keeps (e : step s = .next t) : Keeps s t := by
  unfold step at e
  split at e
  · cases e; exact (Allowed.refl .mirrorWrite s).keeps
  · exact (exec_allowed _ e).keeps.withPending

/-- Settles O5, by the moves of a channel's state and of its engagement, of which every command makes none or some. -/
theorem channelLawsKept : Obligations.ChannelLawsKept := fun _ _ e => ⟨(step_keeps e).channel, (step_keeps e).engagement⟩

/-- Settles O7: the store reader grants at the end of every operation that frees a slot or makes a request wait, and the arbiter's law
outlives a job presented, a job answered and a job ended. -/
theorem noStepLeavesAGrantDue : Obligations.NoStepLeavesAGrantDue := fun _ _ e => ⟨(step_keeps e).grants, (step_keeps e).arbiter⟩

/-- Settles O8, by the moves of the catalogue that jobs make, and by the placing of slots during the walk. -/
theorem catalogueLawKept : Obligations.CatalogueLawKept := fun _ _ ha hc e => (step_keeps e).catalogue ha hc

/-- Settles O9, by the same moves: each writes sound records, and none lets go of a RETIRING item that stays linked and readable. -/
theorem recordLawsKept : Obligations.RecordLawsKept := fun _ _ hc e => ⟨(step_keeps e).records hc, (step_keeps e).retiring hc⟩

end Sys2Proof.Machine
end

-- ==== Proofs: the arbiter's choice ====
section
/-! What a free engine takes (R13, R14): the first waiting position of the arbiter's cycle. -/

namespace Sys2Proof.Machine

/-- The first waiting position is the first of the arbiter's cycle at which a job waits. -/
theorem firstWaiting_eq_some (s : State) (n : Nat) : s.firstWaiting = some n ↔
    ∃ k < 25, n = (s.arbiter.lastGranted + 1 + k) % 25 ∧ s.waitsAt n = true ∧
      ∀ j < k, s.waitsAt ((s.arbiter.lastGranted + 1 + j) % 25) = false := by
  rw [State.firstWaiting, arbiterCycle, List.find?_map, Option.map_eq_some_iff]
  constructor
  · rintro ⟨k, hk, rfl⟩
    obtain ⟨hw, hr, hb⟩ := List.find?_range_eq_some.1 hk
    exact ⟨k, List.mem_range.1 hr, rfl, hw, fun j hj => by simpa using hb j hj⟩
  · rintro ⟨k, hk, rfl, hw, hb⟩
    exact ⟨k, List.find?_range_eq_some.2 ⟨hw, List.mem_range.2 hk, fun j hj => by simpa using hb j hj⟩, rfl⟩

/-- Whether a free engine takes a job, and which, is whether one waits first in its cycle. -/
theorem grantJob_of_free {s : State} (hst : s.starting = false) (hs : s.arbiter.serving = none) :
    (∀ n, grantJob s = { s with arbiter := { serving := some n, lastGranted := n } } ↔ s.firstWaiting = some n) ∧
      (grantJob s = s ↔ s.firstWaiting = none) := by
  cases h : s.firstWaiting with
  | none =>
    have e : grantJob s = s := by simp [grantJob, hst, hs, h]
    refine ⟨fun n => ⟨fun e' => ?_, fun hn => by simp at hn⟩, by simp [e]⟩
    have := congrArg (fun t => t.arbiter.serving) (e.symm.trans e')
    rw [hs] at this
    cases this
  | some m =>
    have e : grantJob s = { s with arbiter := { serving := some m, lastGranted := m } } := by simp [grantJob, hst, hs, h]
    refine ⟨fun n => ⟨fun e' => ?_, fun hn => ?_⟩, ⟨fun e' => ?_, fun hn => by simp at hn⟩⟩
    · exact congrArg (fun t => t.arbiter.serving) (e.symm.trans e')
    · cases hn; exact e
    · have := congrArg (fun t => t.arbiter.serving) (e.symm.trans e')
      rw [hs] at this
      cases this

/-- Whether a catalogue job is answered at once does not turn on what a port's intake holds. -/
theorem answersAtOnce_setPort {s : State} {p : PortId} {q : Port} (r : Request) (h : q.service = (s.port p).service) :
    (s.setPort p q).answersAtOnce r = s.answersAtOnce r := by
  have hv : ∀ y, ((s.setPort p q).port y).service = (s.port y).service := fun y => by
    rw [port_setPort]
    split
    · next e => rw [e, h]
    · rfl
  have hf : (s.setPort p q).formatGranted = s.formatGranted := by simp only [State.formatGranted, setPort_arbiter, hv]
  rw [State.answersAtOnce, hf]
  rfl

/-- The port once the head of its intake is the request in service (R158). -/
def Port.serving (q : Port) (body : List Byte) (rest : List (List Byte)) (r : Request) : Port :=
  { q with intake := rest, service := some { kind := byteAt body 0, tag := byteAt body 1, role := q.role, request := r } }

/-- A port that can dispatch judges the head of its intake (R158). -/
theorem dispatch_eq {s : State} {p : PortId} {body : List Byte} {rest : List (List Byte)} (hv : (s.port p).service = none)
    (hi : (s.port p).intake = body :: rest) (hl : (s.port p).replies.length ≤ 3) :
    dispatch p s = judgeRequest p body (s.setPort p { s.port p with intake := rest }) := by
  simp only [dispatch, hv, hi, if_pos hl]

/-- What a port does with a request that its role admits (R16, R158). -/
theorem dispatch_admitted {s : State} {p : PortId} {body : List Byte} {rest : List (List Byte)} {r : Request}
    (hv : (s.port p).service = none) (hi : (s.port p).intake = body :: rest) (hl : (s.port p).replies.length ≤ 3)
    (hr : parseRequest body = some r) (ha : (s.port p).role.admits r.class = true) :
    (∀ code, s.answersAtOnce r = some code →
      dispatch p s = reply p code [] (s.setPort p ((s.port p).serving body rest r))) ∧
    (s.answersAtOnce r = none → dispatch p s =
      if r.presentsJob then grantJob (s.setPort p ((s.port p).serving body rest r))
      else s.setPort p ((s.port p).serving body rest r)) := by
  have h : ∀ answer, s.answersAtOnce r = answer →
      (s.setPort p { s.port p with intake := rest }).answersAtOnce r = answer := fun answer e => by
    exact (answersAtOnce_setPort r (q := { s.port p with intake := rest }) rfl).trans e
  rw [dispatch_eq hv hi hl]
  refine ⟨fun code e => ?_, fun e => ?_⟩
  all_goals simp only [judgeRequest, hr, port_setPort, if_true, ha, setPort_setPort, h _ e, Port.serving]

/-- Where no other job waits, a job that is dispatched to a free engine is the one it takes (R14). -/
theorem grantJob_presented {s : State} {p : PortId} {body : List Byte} {rest : List (List Byte)} {r : Request}
    (hc : s.engine.condition = .ready) (hs : s.arbiter.serving = none) (hw : ∀ n < 25, s.waitsAt n = false)
    (hj : r.presentsJob = true) :
    grantJob (s.setPort p ((s.port p).serving body rest r)) =
      { s.setPort p ((s.port p).serving body rest r) with arbiter := { serving := some p.val, lastGranted := p.val } } := by
  have hp : (s.setPort p ((s.port p).serving body rest r)).waitsAt p.val = true := by
    rw [State.waitsAt, dif_pos p.isLt, portWaits_of_service (v := ⟨byteAt body 0, byteAt body 1, (s.port p).role, r⟩) _
      (by simp [Port.serving])]
    exact hj
  rcases grantJob_cases (s.setPort p ((s.port p).serving body rest r)) with ⟨-, h⟩ | ⟨n, -, -, hf, e⟩
  · have hst : (s.setPort p ((s.port p).serving body rest r)).starting = false := not_starting_of_ready _ hc
    rcases h with h | h | h
    · rw [hst] at h; cases h
    · rw [setPort_arbiter, hs] at h; cases h
    · rw [h p.val (by omega)] at hp; cases hp
  · obtain ⟨hn, hwn⟩ := waitsAt_of_firstWaiting hf
    have : n = p.val := by
      by_contra hne
      rw [State.waitsAt] at hwn
      split at hwn
      · next h16 =>
        rw [portWaits_setPort_ne s _ fun e => hne (by rw [← e])] at hwn
        have := hw n hn
        rw [State.waitsAt, dif_pos h16, hwn] at this
        cases this
      · next h16 =>
        have := hw n hn
        rw [State.waitsAt, dif_neg h16] at this
        exact Bool.false_ne_true (this.symm.trans hwn)
    rw [e, this]

/-- Settles O14: a grant takes the first waiting position of the cycle; a request dispatched to a free engine is the only one that waits;
and what each command does to the arbiter. -/
theorem arbiterTakesTheNextWaiting : Obligations.ArbiterTakesTheNextWaiting := by
  refine ⟨fun s => ⟨fun h => ?_, fun hst hs => ?_⟩, fun s p body rest r hc hs hw hv hi hl hr ha hj => ?_, fun i s t n hl hn e hne =>
    (exec_allowed i e).held n hl hn hne⟩
  · rcases h with h | h
    · simp [grantJob, h]
    · simp [grantJob, Option.isSome_iff_ne_none.2 h]
  · obtain ⟨h1, h2⟩ := grantJob_of_free hst hs
    exact ⟨fun n => (h1 n).trans (firstWaiting_eq_some s n), h2.trans (firstWaiting_eq_none s)⟩
  · have hone : s.answersAtOnce r = none := by
      have hf : s.formatGranted = false := by simp [State.formatGranted, hs]
      simp [State.answersAtOnce, hj, hf, not_starting_of_ready s hc, not_offline_of_ready s hc]
    refine ⟨_, rfl, ?_⟩
    rw [(dispatch_admitted hv hi hl hr ha).2 hone, if_pos hj, grantJob_presented hc hs hw hj]
    exact ⟨rfl, by simp [State.port, State.setPort, Port.serving]⟩

end Sys2Proof.Machine
end

-- ==== Proofs: the dispatch of requests ====
section
/-! REQUEST_DISPATCH (R158, R159): what a port does with the head of its intake, and which bodies spell requests (R171). -/

namespace Sys2Proof.Machine

/-! ### The bodies that spell requests -/

/-- The kinds of requests with one body length each, and that length (R171). -/
def requestTable : List (Nat × Nat) :=
  [(0x10, 18), (0x11, 8), (0x12, 8), (0x13, 8), (0x14, 8), (0x15, 22), (0x16, 8), (0x17, 15), (0x18, 13), (0x19, 9), (0x1A, 8),
    (0x1B, 8), (0x1C, 9), (0x1D, 8), (0x1E, 886), (0x1F, 4), (0x20, 2), (0x28, 12), (0x29, 5), (0x30, 4), (0x31, 19), (0x32, 3),
    (0x33, 3), (0x34, 3), (0x35, 3), (0x36, 3), (0x38, 4), (0x39, 3), (0x40, 3), (0x41, 3), (0x48, 2), (0x50, 3), (0x51, 3),
    (0x52, 2), (0x53, 2), (0x54, 2), (0x55, 2), (0x58, 4), (0x59, 5)]

/-- A body that spells a request has its kind, and the length that the table gives the kind. -/
theorem kind_of_parseRequest {body : List Byte} {r : Request} (h : parseRequest body = some r) :
    r.kindCode = byteAt body 0 ∧
      (((byteAt body 0).toNat, body.length) ∈ requestTable ∨ (byteAt body 0).toNat = 0x37 ∧ 5 ≤ body.length) := by
  unfold parseRequest at h
  split at h
  case h_27 _ _ hk =>
    split at h
    · next hn => cases h; exact ⟨BitVec.eq_of_toNat_eq hk.symm, .inr ⟨hk, hn⟩⟩
    · cases h
  case h_41 => cases h
  all_goals
    next hk hl =>
    cases h
    refine ⟨BitVec.eq_of_toNat_eq hk.symm, .inl ?_⟩
    rw [hk, hl]
    decide

/-- A body of a kind of the table, with the length that the table gives it, spells a request. -/
theorem parseRequest_isSome {body : List Byte}
    (h : ((byteAt body 0).toNat, body.length) ∈ requestTable ∨ (byteAt body 0).toNat = 0x37 ∧ 5 ≤ body.length) :
    parseRequest body ≠ none := by
  rcases h with h | ⟨hk, hl⟩
  · simp only [requestTable, List.mem_cons, List.not_mem_nil, or_false, Prod.mk.injEq] at h
    rcases h with h | h | h | h | h | h | h | h | h | h | h | h | h | h | h | h | h | h | h | h | h | h | h | h | h | h | h | h | h | h |
      h | h | h | h | h | h | h | h | h
    all_goals
      obtain ⟨hk, hl⟩ := h
      rw [parseRequest, hk, hl]
      exact Option.some_ne_none _
  · simp [parseRequest, hk, hl]

/-! ### The roles that may make a request -/

/-- The roles that may make each class of requests (R159). -/
def RequestClass.roles : RequestClass → List Role
  | .look | .channel => [.production, .transfer, .catalogue, .control]
  | .pin => [.production, .catalogue, .control]
  | .transfer => [.transfer, .control]
  | .withdraw => [.transfer, .catalogue, .control]
  | .catalogue => [.catalogue, .control]
  | .control => [.control]

theorem admits_iff (role : Role) (k : RequestClass) : role.admits k = true ↔ role ∈ k.roles := by
  cases role <;> cases k <;> decide

/-! ### Dispatch -/

section Dispatch
variable {s : State} {p : PortId} {body : List Byte} {rest : List (List Byte)}

/-- A port dispatches nothing while a request is in service, its intake is empty or 4 replies wait (R158). -/
theorem dispatch_idle (h : (s.port p).service ≠ none ∨ (s.port p).intake = [] ∨ 4 ≤ (s.port p).replies.length) :
    dispatch p s = s := by
  unfold dispatch
  dsimp only
  split
  · next hv hi =>
    rw [hv, hi] at h
    have h : 4 ≤ (s.port p).replies.length := by simpa using h
    rw [if_neg (by omega)]
  · rfl

/-- The reply to a request that has just been put in service takes it out of service again. -/
theorem reply_serving (r : Request) (code : ReplyCode) (hv : (s.port p).service = none) :
    reply p code [] (s.setPort p ((s.port p).serving body rest r)) =
      s.setPort p { s.port p with
        intake := rest
        replies := (s.port p).replies ++ [{ kind := byteAt body 0, tag := byteAt body 1, code := code, fields := [] }] } := by
  rw [reply_of_service (v := ⟨byteAt body 0, byteAt body 1, (s.port p).role, r⟩) p code [] _ (by simp [Port.serving])]
  simp [answered, Port.serving, hv]

/-- What answers a catalogue job at once (R16). -/
theorem answersAtOnce_of_job {r : Request} (hj : r.presentsJob = true) :
    (s.starting = true ∨ s.formatGranted = true → s.answersAtOnce r = some .starting) ∧
      (s.engine.condition = .offline → s.formatGranted = false → r ≠ .formatCatalogue → s.answersAtOnce r = some .offline) ∧
      (s.engine.condition = .offline → s.formatGranted = false → r = .formatCatalogue → s.answersAtOnce r = none) ∧
      (s.engine.condition = .ready → s.formatGranted = false → s.answersAtOnce r = none) := by
  have hoff : s.engine.condition = .offline → s.starting = false := fun h => by
    simp [State.starting, State.inWalk, State.inFormat, h]
  refine ⟨fun h => ?_, fun hc hf hr => ?_, fun hc hf hr => ?_, fun hc hf => ?_⟩
  · simp [State.answersAtOnce, hj, h]
  · simp [State.answersAtOnce, hj, hf, hr, hoff hc, State.isOffline, hc]
  · simp [State.answersAtOnce, hf, hr, hoff hc]
  · simp [State.answersAtOnce, hj, hf, not_starting_of_ready s hc, not_offline_of_ready s hc]

end Dispatch

/-- Settles O57: the head of the intake is refused, answered at once or put in service; each row of the table spells a request, and no
other body does; and the roles of each class are those of the table. -/
theorem dispatchByRole : Obligations.DispatchByRole := by
  refine ⟨fun s p => ⟨fun h => congrArg _ (dispatch_idle h), fun body rest hv hi hl => ⟨fun hr => ?_, fun r hr =>
    ⟨fun ha => ?_, fun ha => ?_⟩⟩⟩, fun body => ⟨⟨fun h => ?_, parseRequest_isSome⟩, fun r hr => (kind_of_parseRequest hr).1⟩,
    fun role r => ?_⟩
  · refine congrArg Host.Outcome.next ((dispatch_eq hv hi hl).trans ?_)
    simp [judgeRequest, hr, Port.queueReply]
  · refine congrArg Host.Outcome.next ((dispatch_eq hv hi hl).trans ?_)
    simp [judgeRequest, hr, ha, Port.queueReply]
  · obtain ⟨hsome, hnone⟩ := dispatch_admitted hv hi hl hr ha
    refine ⟨fun hj => congrArg Host.Outcome.next ?_, fun hj => ?_⟩
    · rw [hnone (by simp [State.answersAtOnce, hj]), hj]
      rfl
    · obtain ⟨h1, h2, h3, h4⟩ := answersAtOnce_of_job (s := s) hj
      rw [if_pos hj] at hnone
      exact ⟨fun h => congrArg _ ((hsome _ (h1 h)).trans (reply_serving r _ hv)),
        fun hc hf hne => congrArg _ ((hsome _ (h2 hc hf hne)).trans (reply_serving r _ hv)),
        fun hc hf he => congrArg _ (hnone (h3 hc hf he)), fun hc hf => congrArg _ (hnone (h4 hc hf))⟩
  · obtain ⟨r, hr⟩ := Option.ne_none_iff_exists'.1 h
    exact (kind_of_parseRequest hr).2
  · cases r <;> exact admits_iff role _

end Sys2Proof.Machine
end

-- ==== Proofs: items that are not there, found or entered ====
section
/-! The catalogue requests that look items up: the refusals of a lookup that finds nothing (R8), and ENTER_ITEM, FIND_ITEM and
DESCRIBE_ITEM (R17 to R20). -/

namespace Sys2Proof.Machine

variable {s : State} {p : PortId} {v : Service} {r : Request} {key : Key}

/-! ### A granted job -/

/-- A catalogue job that is granted while the catalogue is ready runs, and its end frees the engine. -/
theorem exec_granted (h : Serves s p v r) (hg : Grants s p.val) (hj : r.presentsJob = true) (hr : r ≠ .formatCatalogue) :
    exec (r.command p) s = .next (finishJob (r.job p v.role s)) := by
  rw [exec_job h hj hr, catalogueJob_of_grants p _ s hg]

/-- A reply alone ends a granted job. -/
theorem finishJob_reply (h : Serves s p v r) (code : ReplyCode) (fields : List Field) :
    finishJob (reply p code fields s) = jobAnswered p v code fields s := by
  rw [reply_of_service p v code fields s h.1]
  rfl

/-- An answer leaves the ports as a reply alone would, where nothing before it has changed them. -/
theorem answer_ports {t : State} (h : Serves s p v r) (e : t.ports = s.ports) (code : ReplyCode) (fields : List Field) :
    (reply p code fields t).ports = (answered p v code fields s).ports := by
  have hp : t.port p = s.port p := by simp only [State.port, e]
  rw [reply_of_service p v code fields t (by rw [hp]; exact h.1)]
  simp only [answered, State.setPort, hp, e]

/-! ### A lookup that finds nothing -/

/-- A lookup of a key that no slot of its chain matches, and some slot of it is flagged. -/
theorem lookupChain_of_not_there_faulted (onFault : Slot → State → State) :
    ∀ (l : List Slot) (saw : Bool), (saw = true ∨ ∃ y ∈ l, s.isFaulted y = true) →
      (∀ y ∈ l, s.isFaulted y = true ∨ ((s.record y).condition .key = .clean ∧ (s.record y).key ≠ key)) →
      lookupChain onFault key l saw s = (.notFoundFaulted, s)
  | [], saw, hsaw, _ => by simp [lookupChain, show saw = true by simpa using hsaw]
  | y :: rest, saw, hsaw, hall => by
    have ih := fun saw h => lookupChain_of_not_there_faulted onFault rest saw h fun z hz => hall z (List.mem_cons_of_mem _ hz)
    cases hy : s.isFaulted y with
    | true => simp [lookupChain, hy, ih true (.inl rfl)]
    | false =>
      obtain ⟨hc, hk⟩ := (hall y List.mem_cons_self).resolve_left (by simp [hy])
      have hsaw : saw = true ∨ ∃ z ∈ rest, s.isFaulted z = true := by
        rcases hsaw with h | ⟨z, hz, hf⟩
        · exact .inl h
        · rcases List.mem_cons.1 hz with rfl | hz
          · rw [hy] at hf; cases hf
          · exact .inr ⟨z, hz, hf⟩
      simp [lookupChain, hy, readWord_of_clean y .key s hc, hk, ih saw hsaw]

theorem lookup_of_not_there_faulted (onFault : Slot → State → State) (h : NotThereFaulted s key) :
    lookup onFault key s = (.notFoundFaulted, s) :=
  lookupChain_of_not_there_faulted onFault _ false (.inr h.1) h.2

/-- The fields of a FAULTED reply of a request that seeks an item (R19, R20). -/
def Request.faultedFields (r : Request) (key : Key) (s : State) : List Field :=
  match r with
  | .findItem _ | .describeItem _ => bucketFields key s
  | _ => []

theorem spliceSource_isSome {kind pass : Byte} {offset : Nat} (h : kind = 0 ∨ kind = 1 ∧ pass.toNat < 4) :
    ∃ source, spliceSource kind.toNat pass.toNat offset = some source := by
  rcases h with rfl | ⟨rfl, hp⟩
  · exact ⟨.gap, rfl⟩
  · exact ⟨.pass pass.toNat offset, by simp [spliceSource, hp]⟩

/-- A request that seeks an item is a job that begins by looking the key up (R26, R42). -/
theorem job_of_seeks (h : r.seeks = some key) (p : PortId) (role : Role) : r.presentsJob = true ∧ r ≠ .formatCatalogue ∧
    ∃ words faulted work, r.job p role = withItem p key words faulted work ∧ ∀ t, faulted t = r.faultedFields key t := by
  cases r with
  | findItem k | describeItem k =>
    cases h
    exact ⟨rfl, by simp, _, _, _, rfl, fun _ => rfl⟩
  | releaseItem k | reopenItem k | openPass k | holdItem k | liftItem k | retireItem k =>
    cases h
    exact ⟨rfl, by simp, _, _, _, rfl, fun _ => rfl⟩
  | splice k a b kind pass offset =>
    rw [Request.seeks] at h
    split at h
    · next hk =>
      cases h
      obtain ⟨source, hs⟩ := spliceSource_isSome (offset := offset.toNat) hk
      exact ⟨rfl, by simp, spliceWords source, noFields, spliceOn p a.toNat b.toNat source, funext fun t => by
        simp only [Request.job, spliceJob, hs], fun _ => rfl⟩
    · cases h
  | addExtent k pass start count =>
    rw [Request.seeks] at h
    split at h
    · next hk =>
      cases h
      have hc : count.toNat ≤ 65535 := Nat.le_of_lt_succ count.isLt
      exact ⟨rfl, by simp, _, noFields, _, funext fun t => by
        simp only [Request.job, addExtentJob, hk.1, dite_true]; rw [if_pos ⟨hk.2.1, hc, hk.2.2⟩], fun _ => rfl⟩
    · cases h
  | closePass k pass length =>
    rw [Request.seeks] at h
    split at h
    · next hk =>
      cases h
      exact ⟨rfl, by simp, [.format, .pass ⟨pass.toNat, hk.1⟩], noFields, closePassOn p ⟨pass.toNat, hk.1⟩ length.toNat, funext fun t => by
        simp only [Request.job, closePassJob, hk.1, hk.2, dite_true, if_true], fun _ => rfl⟩
    · cases h
  | withdrawPass k pass =>
    rw [Request.seeks] at h
    split at h
    · next hk =>
      cases h
      exact ⟨rfl, by simp, [.pass ⟨pass.toNat, hk⟩, .rendition], noFields, withdrawPassOn p role ⟨pass.toNat, hk⟩, funext fun t => by
        simp only [Request.job, withdrawPassJob, hk, dite_true], fun _ => rfl⟩
    · cases h
  | setGroups k set =>
    rw [Request.seeks] at h
    split at h
    · next hk =>
      cases h
      exact ⟨rfl, by simp, _, noFields, _, funext fun t => by
        simp only [Request.job, setGroupsJob]; rw [if_pos (show groupSetLegal set = true from decide_eq_true hk)], fun _ => rfl⟩
    · cases h
  | pinItem k seconds =>
    rw [Request.seeks] at h
    split at h
    · next hk =>
      cases h
      exact ⟨decide_eq_true hk, by simp, _, _, _, rfl, fun _ => rfl⟩
    · cases h
  | _ => cases h

/-- Settles O27: each request that seeks an item begins with a lookup, whose refusals end it. -/
theorem requestsForAnAbsentItem : Obligations.RequestsForAnAbsentItem := by
  intro p v r s key h hg hk
  obtain ⟨hj, hr, words, faulted, work, e, hfields⟩ := job_of_seeks hk p v.role
  have hexec := exec_granted h hg hj hr
  rw [e] at hexec
  refine ⟨fun hn => ?_, fun hn => ⟨r.faultedFields key s, ?_, ?_⟩⟩
  · rw [hexec, withItem_of_not_there p key words faulted work s hn, finishJob_reply h]
  · rw [hexec, withItem, lookup_of_not_there_faulted _ hn]
    dsimp only
    rw [finishJob_reply h, hfields]
  · cases r <;> rfl

/-! ### ENTER_ITEM -/

/-- The part once a slot taken off the stack holds a new record and is linked under its key (R18). -/
def enterAt (x : Slot) (rest : List Slot) (key : Key) (r : Record) (s : State) : State :=
  let u := s.writeRecord x r
  u.setEngine (({ u.engine with freeStack := rest } : Engine).link key.bucket x)

/-- Settles O28: each refusal of the job in turn, and the state that it enters the item in. -/
theorem enterItem : Obligations.EnterItem := by
  intro p v s key rate channels sampleBytes length h hg
  have hexec := exec_granted h hg rfl (by simp)
  have hjob : (Request.enterItem key rate channels sampleBytes length).job p v.role =
      enterItemJob p key rate.toNat channels.toNat sampleBytes.toNat length.toNat := rfl
  dsimp only
  have hexec : exec (.enterItem p) s =
      .next (finishJob (enterItemJob p key rate.toNat channels.toNat sampleBytes.toNat length.toNat s)) := hexec
  rw [hexec]
  refine ⟨fun hl => ?_, fun hl ⟨x, hx⟩ => ?_, fun hl hn => ?_, fun hl hn hs => ?_, fun hl hn x rest hs => ⟨_, rfl, ?_⟩⟩
  · rw [enterItemJob, hl, ← finishJob_reply h]; rfl
  · rw [enterItemJob, hl, lookup_of_found _ key x s hx, ← finishJob_reply h]; rfl
  · rw [enterItemJob, hl, lookup_of_not_there_faulted _ hn, ← finishJob_reply h]; rfl
  · rw [enterItemJob, hl, lookup_of_not_there _ key s hn, ← finishJob_reply h]
    dsimp only
    rw [hs]
    rfl
  · have hjob : enterItemJob p key rate.toNat channels.toNat sampleBytes.toNat length.toNat s =
        reply p .ok [.u16 x.val] (enterAt x rest key (newRecord key rate.toNat channels.toNat sampleBytes.toNat length.toNat) s) := by
      rw [enterItemJob, hl, lookup_of_not_there _ key s hn]
      dsimp only
      rw [hs]
      rfl
    have hchain : ∀ b, (enterAt x rest key (newRecord key rate.toNat channels.toNat sampleBytes.toNat length.toNat) s).engine.chain b =
        if b = key.bucket then x :: s.engine.chain key.bucket else s.engine.chain b := fun b => Engine.chain_link
    have hrec : ∀ y, (enterAt x rest key (newRecord key rate.toNat channels.toNat sampleBytes.toNat length.toNat) s).record y =
        if y = x then newRecord key rate.toNat channels.toNat sampleBytes.toNat length.toNat else s.record y := fun y =>
      record_writeRecord ..
    rw [hjob]
    simp only [State.record, finishJob_memory, reply_memory, finishJob_engine, reply_engine, finishJob_ports, finishJob_channels,
      reply_channels, finishJob_hold, reply_hold, finishJob_pinTable, reply_pinTable, finishJob_store, reply_store,
      finishJob_attention, reply_attention, hchain, if_true]
    exact ⟨(hrec x).trans (if_pos rfl), fun y hy => (hrec y).trans (if_neg hy), rfl, rfl, True.intro, fun b hb => if_neg hb, rfl,
      answer_ports h (t := enterAt _ _ _ _ _) rfl _ _, rfl, rfl, rfl, rfl, rfl⟩

end Sys2Proof.Machine
end

-- ==== Proofs: what one channel's operations leave alone ====
section
/-! An operation of one channel changes that channel, its block requests, the notices of its port and the attention unit's flags alone; and
it clears no flag. -/

namespace Sys2Proof.Machine

/-! ### The attention unit's flags -/

/-- Notices are sent and causes raised: no queue loses a notice and no flag is cleared. -/
structure Alerted (s t : State) : Prop where
  notified : Notified s t
  flags : ∀ k, hasCause s.attention.flags k = true → hasCause t.attention.flags k = true

theorem Alerted.refl (s : State) : Alerted s s := ⟨.refl s, fun _ => id⟩

theorem Alerted.trans {s t u : State} (h : Alerted s t) (g : Alerted t u) : Alerted s u :=
  ⟨h.notified.trans g.notified, fun k => g.flags k ∘ h.flags k⟩

theorem Alerted.of_eq {s t : State} (hp : t.ports = s.ports) (ha : t.attention = s.attention) : Alerted s t :=
  ⟨.of_eq hp, fun _ h => by rw [ha]; exact h⟩

section Causes
variable (s : State)

/-- The flags once a cause has been raised (R166). -/
theorem hasCause_raiseCause (c k : Cause) :
    hasCause (raiseCause c s).attention.flags k = true ↔
      hasCause s.attention.flags k = true ∨ s.inWalk = false ∧ k = c := by
  unfold raiseCause
  cases s.inWalk with
  | true => simp
  | false =>
    have : hasCause (s.attention.flags ||| c.bit) k = (hasCause s.attention.flags k || hasCause c.bit k) := BitVec.getLsbD_or
    have hbit : hasCause c.bit k = true ↔ k = c := by cases c <;> cases k <;> decide
    simp only [Bool.false_eq_true, if_false, Attention.follow, this, Bool.or_eq_true, hbit, true_and]

theorem recorded_flags (a : Attention) (d : FaultDetail) : (a.recorded d).flags = a.flags := by
  unfold Attention.recorded
  split <;> rfl

theorem alarmed_flags (a : Attention) : a.alarmed.flags = a.flags := by
  unfold Attention.alarmed
  split <;> rfl

/-- The flags once an alarm-class event has been reported (R166). -/
theorem hasCause_alarmEvent (d : FaultDetail) (k : Cause) :
    hasCause (alarmEvent d s).attention.flags k = true ↔
      hasCause s.attention.flags k = true ∨ s.inWalk = false ∧ k = d.cause := by
  rw [← hasCause_raiseCause]
  unfold alarmEvent
  split
  · next hw => simp [raiseCause, hw]
  · dsimp only
    rw [recorded_flags, alarmed_flags]

theorem alarmEvent_alerted (d : FaultDetail) : Alerted s (alarmEvent d s) :=
  ⟨.of_eq (by simp), fun k h => (hasCause_alarmEvent s d k).2 (.inl h)⟩

theorem notify_alerted (p : PortId) (n : Notice) : Alerted s (notify p n s) := by
  refine ⟨notify_notified s p n, fun k h => ?_⟩
  unfold notify
  dsimp only
  split
  · exact h
  · exact (hasCause_raiseCause _ _ k).2 (.inl h)

theorem notifyBound_alerted (c : ChannelId) (n : Notice) : Alerted s (notifyBound c n s) := by
  unfold notifyBound
  split
  · exact notify_alerted s _ n
  · exact .refl s

theorem notifyControl_alerted (n : Notice) : Alerted s (notifyControl n s) :=
  foldl_keeps (P := Alerted s) _ (fun t p h => by
    split
    · exact h.trans (notify_alerted t p n)
    · exact h) _ _ (.refl s)

theorem grantAll_alerted : Alerted s (grantAll s) := .of_eq (by simp) (by simp)

theorem grantJob_alerted : Alerted s (grantJob s) := .of_eq (by simp) (by simp)

theorem finishJob_alerted : Alerted s (finishJob s) := .of_eq (by simp) (by simp)

end Causes

/-! ### One channel -/

/-- What an operation of one channel leaves alone: the other channels and their block requests; and it loses no notice and no flag. -/
structure Local (c : ChannelId) (s t : State) : Prop where
  channel : ∀ d, d ≠ c → t.channel d = s.channel d
  requests : ∀ r : BlockRequest, r.channel ≠ c → (r ∈ t.store.requests ↔ r ∈ s.store.requests)
  alerted : Alerted s t

section Local
variable (s : State) (c : ChannelId)

theorem Local.refl : Local c s s := ⟨fun _ _ => rfl, fun _ _ => Iff.rfl, .refl s⟩

theorem Local.trans {s t u : State} {c : ChannelId} (h : Local c s t) (g : Local c t u) : Local c s u :=
  ⟨fun d hd => (g.channel d hd).trans (h.channel d hd), fun r hr => (g.requests r hr).trans (h.requests r hr),
    h.alerted.trans g.alerted⟩

/-- An operation on other blocks. -/
theorem Local.of_eq {s t : State} {c : ChannelId} (ha : Alerted s t) (hc : t.channels = s.channels := by simp)
    (hr : t.store = s.store := by simp) : Local c s t :=
  ⟨fun d _ => by simp only [State.channel, hc], fun r _ => by rw [hr], ha⟩

theorem setChannel_local (ch : Channel) : Local c s (s.setChannel c ch) :=
  ⟨fun d hd => by rw [channel_setChannel, if_neg hd], fun _ _ => Iff.rfl, .of_eq rfl rfl⟩

theorem enterState_local (st : ChannelState) : Local c s (enterState c st s) := setChannel_local s c _

theorem notifyBound_local (n : Notice) : Local c s (notifyBound c n s) := .of_eq (notifyBound_alerted s c n)

theorem setStore_local (r : StoreReader) (h : ∀ x : BlockRequest, x.channel ≠ c → (x ∈ r.requests ↔ x ∈ s.store.requests)) :
    Local c s (s.setStore r) := ⟨fun _ _ => rfl, h, .of_eq rfl rfl⟩

/-- Only requests of the channel are withdrawn or marked abandoned (R116). -/
theorem mem_marked (l : List BlockRequest) {x : BlockRequest} (h : x.channel ≠ c) :
    x ∈ (l.filter fun r => !(decide (r.channel = c) && !r.active)).map
      (fun r => if r.channel = c then { r with abandoned := true } else r) ↔ x ∈ l := by
  simp only [List.mem_map, List.mem_filter]
  constructor
  · rintro ⟨r, ⟨hr, -⟩, rfl⟩
    split at h
    · next e => exact absurd e h
    · next e => rwa [if_neg e]
  · exact fun hx => ⟨x, ⟨hx, by simp [h]⟩, if_neg h⟩

theorem discardBuffers_local : Local c s (discardBuffers c s) :=
  (setStore_local s c _ fun _ hx => mem_marked c _ hx).trans (setChannel_local _ c _)

theorem letGo_local : Local c s (letGo c s) := (discardBuffers_local s c).trans (setChannel_local _ c _)

theorem endCue_local (status : CueStatus) : Local c s (endCue c status s) := by
  unfold endCue
  split
  · exact .refl s c
  · exact (notifyBound_local s c _).trans ((letGo_local _ c).trans (setChannel_local _ c _))

theorem goOn_local : Local c s (goOn c s) := by
  unfold goOn
  split
  · split
    · exact enterState_local s c _
    · exact .refl s c
  · exact (enterState_local s c _).trans (notifyBound_local _ c _)
  · exact (enterState_local s c _).trans (notifyBound_local _ c _)
  · exact .refl s c

theorem finishCue_local : Local c s (finishCue c s) := by
  unfold finishCue
  dsimp only
  split
  · split
    · exact .refl s c
    · split
      · exact (endCue_local s c _).trans (goOn_local _ c)
      · split
        · exact endCue_local s c _
        · exact .refl s c
  · exact .refl s c

theorem keepRemainder_local : Local c s (keepRemainder c s) := (letGo_local s c).trans (setChannel_local _ c _)

theorem stoppingEnd_local : Local c s (stoppingEnd c s) := by
  unfold stoppingEnd
  dsimp only
  split
  · split
    · exact goOn_local s c
    · split
      · exact (endCue_local s c _).trans (goOn_local _ c)
      · exact (keepRemainder_local s c).trans (notifyBound_local _ c _)
  · exact .refl s c

theorem releaseBuffers_local : Local c s (releaseBuffers c s) := by
  unfold releaseBuffers
  dsimp only
  split
  · exact .refl s c
  · exact setChannel_local s c _

theorem assemble_local : Local c s (assemble c s) := by
  unfold assemble
  dsimp only
  split
  · split
    · exact setChannel_local s c _
    · exact .refl s c
  · exact .refl s c

theorem issueOne_local : Local c s (issueOne c s) := by
  unfold issueOne
  dsimp only
  split
  · split
    · exact .refl s c
    · split
      · split
        · exact .refl s c
        · split
          · exact .refl s c
          · refine (setStore_local s c _ fun x hx => ?_).trans (setChannel_local _ c _)
            rw [List.mem_append, List.mem_singleton, or_iff_left]
            rintro rfl
            exact hx rfl
      · exact .refl s c
  · exact .refl s c

theorem issueAll_local : Local c s (issueAll c s) :=
  (issueOne_local s c).trans ((issueOne_local _ c).trans ((issueOne_local _ c).trans (issueOne_local _ c)))

theorem presentJob_local : Local c s (presentJob c s) := by
  unfold presentJob
  dsimp only
  split
  · exact (setChannel_local s c _).trans (.of_eq (grantJob_alerted _))
  · exact .refl s c

theorem settleChannel_local : Local c s (settleChannel c s) :=
  (releaseBuffers_local s c).trans ((finishCue_local _ c).trans ((issueAll_local _ c).trans
    ((assemble_local _ c).trans ((stoppingEnd_local _ c).trans (presentJob_local _ c)))))

theorem stopCue_local : Local c s (stopCue c s) := by
  unfold stopCue
  split
  · exact .refl s c
  · exact (endCue_local s c _).trans ((enterState_local _ c _).trans (notifyBound_local _ c _))

theorem muteCue_local : Local c s (muteCue c s) := (setChannel_local s c _).trans (letGo_local _ c)

theorem cutoffEvent_local : Local c s (cutoffEvent c s) := by
  unfold cutoffEvent
  dsimp only
  split
  · exact .refl s c
  · exact stopCue_local s c
  · split
    · exact endCue_local s c _
    · exact (endCue_local s c _).trans (goOn_local _ c)
  · split
    · exact endCue_local s c _
    · exact muteCue_local s c

theorem judge_local : Local c s (judge c s) := by
  unfold judge
  split
  · exact cutoffEvent_local s c
  · exact .refl s c

theorem endMissing_local (b : BufferId) : Local c s (endMissing c b s) := by
  refine (setStore_local s c _ fun x hx => ?_).trans (setChannel_local _ c _)
  simp [BlockRequest.isOf, hx]

theorem endRetries_local : Local c s (endRetries c s) :=
  foldl_keeps (P := Local c s) _ (fun t b h => by
    split
    · split
      · exact h.trans (endMissing_local t c b)
      · exact h
    · exact h) _ _ (.refl s c)

/-- A channel that settles leaves the other channels alone, though the store reader may grant their requests. -/
theorem settle_channel_ne {d : ChannelId} (h : d ≠ c) : (settle c s).channel d = s.channel d := by
  rw [settle, grantAll_channel]
  exact (settleChannel_local s c).channel d h

theorem settle_alerted : Alerted s (settle c s) := (settleChannel_local s c).alerted.trans (grantAll_alerted _)

theorem settle_channel (d : ChannelId) : (settle c s).channel d = (settleChannel c s).channel d := grantAll_channel _ d

end Local

end Sys2Proof.Machine
end

-- ==== Proofs: how a channel settles ====
section
/-! What settling makes of the channel that settles (R76 to R90): which of its fields stay, by whether it has a cue and what is due. -/

namespace Sys2Proof.Machine

section Settling
variable (s : State) (c : ChannelId)

/-- A channel of which only what it holds of its cue, and its engine job, may have changed. -/
def Channel.Tended (x y : Channel) : Prop :=
  y = { x with
    buffers := y.buffers, runs := y.runs, message := y.message, wait := y.wait, job := y.job, disengageDue := y.disengageDue }

theorem Channel.Tended.refl (x : Channel) : x.Tended x := rfl

theorem Channel.Tended.trans {x y z : Channel} (h : x.Tended y) (g : y.Tended z) : x.Tended z := by
  rw [Channel.Tended] at *
  rw [g, h]

namespace Channel.Tended
variable {x y : Channel} (h : x.Tended y)
include h
theorem state : y.state = x.state := by rw [h]
theorem port : y.port = x.port := by rw [h]
theorem queue : y.queue = x.queue := by rw [h]
theorem current : y.current = x.current := by rw [h]
theorem cutoff : y.cutoff = x.cutoff := by rw [h]
theorem delivering : y.delivering = x.delivering := by rw [Channel.delivering, h.state, ← Channel.delivering]
end Channel.Tended

/-! ### The parts of settling -/

/-- A cue with frames still due, or a message still held, is not at its end (R83). -/
theorem finishCue_of_due (h : (s.channel c).message.isSome = true ∨ ∀ cur, (s.channel c).current = some cur → cur.next < cur.limit) :
    finishCue c s = s := by
  unfold finishCue
  dsimp only
  split
  · next cur hc hm =>
    rcases h with h | h
    · rw [hm] at h; cases h
    · rw [if_pos (h cur hc)]
  · rfl

/-- A channel in no STOPPING, or one that still awaits something, stays as it is (R86). -/
theorem stoppingEnd_of_awaiting (h : (s.channel c).state ≠ .stopping ∨ (s.channel c).message.isSome = true ∨
    (s.channel c).job.any ChannelJob.isResolution = true ∨ (s.channel c).buffers.toList.any Buffer.isInFlight = true) :
    stoppingEnd c s = s := by
  unfold stoppingEnd
  dsimp only
  rw [if_neg]
  rcases h with h | h | h | h <;> simp [h]
  intro _ hm
  rw [hm] at h
  cases h

theorem releaseBuffers_tended : (s.channel c).Tended ((releaseBuffers c s).channel c) := by
  unfold releaseBuffers
  dsimp only
  split
  · exact .refl _
  · rw [channel_setChannel, if_pos rfl]; rfl

theorem assemble_tended : (s.channel c).Tended ((assemble c s).channel c) := by
  unfold assemble
  dsimp only
  split
  · split
    · rw [channel_setChannel, if_pos rfl]; rfl
    · exact .refl _
  · exact .refl _

theorem issueOne_tended : (s.channel c).Tended ((issueOne c s).channel c) := by
  unfold issueOne
  dsimp only
  split
  · split
    · exact .refl _
    · split
      · split
        · exact .refl _
        · split
          · exact .refl _
          · rw [channel_setChannel, if_pos rfl]; rfl
      · exact .refl _
  · exact .refl _

theorem issueAll_tended : (s.channel c).Tended ((issueAll c s).channel c) :=
  (issueOne_tended s c).trans ((issueOne_tended _ c).trans ((issueOne_tended _ c).trans (issueOne_tended _ c)))

/-- Everything that presenting a job can do: nothing, or the job that is due goes to the engine (R15). -/
theorem presentJob_cases : presentJob c s = s ∧ ((s.channel c).job = none → jobDue s c = none) ∨
    ∃ j, (s.channel c).job = none ∧ jobDue s c = some j ∧
      presentJob c s = grantJob (s.setChannel c { s.channel c with job := some j, disengageDue := false }) := by
  unfold presentJob
  dsimp only
  split
  · next j hj hd => exact .inr ⟨j, hj, hd, rfl⟩
  · next h =>
    refine .inl ⟨rfl, fun hj => ?_⟩
    by_contra hd
    obtain ⟨j, hd⟩ := Option.ne_none_iff_exists'.1 hd
    exact h j hj hd

theorem presentJob_channel : (presentJob c s).channel c = s.channel c ∨
    ∃ j, (s.channel c).job = none ∧ jobDue s c = some j ∧
      (presentJob c s).channel c = { s.channel c with job := some j, disengageDue := false } := by
  rcases presentJob_cases s c with ⟨e, -⟩ | ⟨j, hj, hd, e⟩
  · rw [e]; exact .inl rfl
  · rw [e, grantJob_channel, channel_setChannel, if_pos rfl]; exact .inr ⟨j, hj, hd, rfl⟩

theorem presentJob_tended : (s.channel c).Tended ((presentJob c s).channel c) := by
  rcases presentJob_channel s c with e | ⟨j, -, -, e⟩ <;> rw [e] <;> rfl

/-- What presenting a job leaves of a channel but its job. -/
theorem presentJob_keeps : ((presentJob c s).channel c).buffers = (s.channel c).buffers ∧
    ((presentJob c s).channel c).runs = (s.channel c).runs ∧ ((presentJob c s).channel c).message = (s.channel c).message := by
  rcases presentJob_channel s c with e | ⟨j, -, -, e⟩ <;> rw [e] <;> exact ⟨rfl, rfl, rfl⟩

/-- A channel with a job at the engine presents none. -/
theorem presentJob_of_job (h : (s.channel c).job ≠ none) : presentJob c s = s := by
  rcases presentJob_cases s c with ⟨e, -⟩ | ⟨j, hj, -⟩
  · exact e
  · exact absurd hj h

/-- A disengage that is due is presented (R15). -/
theorem presentJob_disengages (hj : (s.channel c).job = none) (hd : (s.channel c).disengageDue = true) :
    ((presentJob c s).channel c).job = some .disengage := by
  have hdue : jobDue s c = some .disengage := by simp [jobDue, hd]
  rcases presentJob_cases s c with ⟨-, h⟩ | ⟨j, -, h, e⟩
  · rw [h hj] at hdue; cases hdue
  · rw [hdue] at h
    cases h
    rw [e, grantJob_channel, channel_setChannel, if_pos rfl]

/-! ### Settling -/

/-- A channel with no cue does no more than end STOPPING and present a job. -/
theorem settleChannel_of_no_cue (h : (s.channel c).current = none) : settleChannel c s = presentJob c (stoppingEnd c s) := by
  have hr : releaseBuffers c s = s := by simp [releaseBuffers, h]
  have hf : finishCue c s = s := finishCue_of_due s c (.inr fun cur hc => by rw [h] at hc; cases hc)
  have hi : issueOne c s = s := by simp [issueOne, h]
  have ha : assemble c s = s := by simp [assemble, h]
  rw [settleChannel, hr, hf, issueAll, hi, hi, hi, hi, ha]

/-- What becomes of a channel with no cue (R84, R86). -/
theorem stoppingEnd_of_no_cue (h : (s.channel c).current = none) : stoppingEnd c s = s ∨
    (s.channel c).state = .stopping ∧ stoppingEnd c s = goOn c s := by
  unfold stoppingEnd
  dsimp only
  split
  · next hc =>
    rw [h]
    exact .inr ⟨by simp at hc; exact hc.1.1.1, rfl⟩
  · exact .inl rfl

/-- What settling leaves of a channel with no cue: `x` before, `y` after. -/
structure Channel.Idles (x y : Channel) : Prop where
  current : y.current = none
  queue : y.queue = x.queue
  port : y.port = x.port
  runs : y.runs = x.runs
  message : y.message = x.message
  buffers : y.buffers = x.buffers
  state : x.state ≠ .stopping → y.state = x.state
  job : x.job ≠ none → y.job = x.job
  disengages : x.job = none → x.disengageDue = true → y.job = some .disengage

/-- A channel with no cue that presents a job. -/
theorem presentJob_idles (h : (s.channel c).current = none) : (s.channel c).Idles ((presentJob c s).channel c) := by
  have hp := presentJob_tended s c
  obtain ⟨hb, hr, hm⟩ := presentJob_keeps s c
  exact ⟨hp.current.trans h, hp.queue, hp.port, hr, hm, hb, fun _ => hp.state, fun hj => by rw [presentJob_of_job s c hj],
    presentJob_disengages s c⟩

theorem settle_idles (h : (s.channel c).current = none) : (s.channel c).Idles ((settle c s).channel c) := by
  rw [settle_channel, settleChannel_of_no_cue s c h]
  rcases stoppingEnd_of_no_cue s c h with e | ⟨hs, e⟩
  · rw [e]; exact presentJob_idles s c h
  · have hw : (goOn c s).channel c = (s.channel c).wentOn := by rw [goOn_channel, if_pos rfl]
    have hp := presentJob_idles (goOn c s) c (by rw [hw]; exact h)
    rw [hw] at hp
    rw [e]
    exact ⟨hp.current, hp.queue, hp.port, hp.runs, hp.message, hp.buffers, fun hne => absurd hs hne, hp.job, hp.disengages⟩

/-- A channel outside STOPPING whose cue, if any, has frames still due keeps everything but what it holds of the cue and its job. -/
theorem settle_tended (hs : (s.channel c).state ≠ .stopping) (h : ∀ cur, (s.channel c).current = some cur → cur.next < cur.limit) :
    (s.channel c).Tended ((settle c s).channel c) := by
  have h1 := releaseBuffers_tended s c
  have hf : finishCue c (releaseBuffers c s) = releaseBuffers c s :=
    finishCue_of_due _ c (.inr fun cur hc => h cur (h1.current.symm.trans hc))
  have h2 := h1.trans (issueAll_tended (releaseBuffers c s) c)
  have h3 := h2.trans (assemble_tended (issueAll c (releaseBuffers c s)) c)
  have he : stoppingEnd c (assemble c (issueAll c (releaseBuffers c s))) = assemble c (issueAll c (releaseBuffers c s)) :=
    stoppingEnd_of_awaiting _ c (.inl (by rw [h3.state]; exact hs))
  rw [settle_channel, settleChannel, hf, he]
  exact h3.trans (presentJob_tended _ c)

end Settling

end Sys2Proof.Machine
end

-- ==== Proofs: reads and record faults at run time ====
section
/-! What a read of a record's words does outside the walk: corrected words are written back with RECORD_REPAIRED raised, and nothing else
(R144). And what the report of a record fault amounts to (R9, R146, R164). -/

namespace Sys2Proof.Machine

variable {s t : State}

/-! ### Reads -/

/-- What a read outside the walk may change: words of records, and the attention unit. -/
structure Reads (s t : State) : Prop where
  rest : t = { s with memory := { s.memory with records := t.memory.records }, attention := t.attention }
  flags : ∀ k, hasCause s.attention.flags k = true → hasCause t.attention.flags k = true

theorem Reads.refl (s : State) : Reads s s := ⟨rfl, fun _ => id⟩

namespace Reads
variable (h : Reads s t)
include h

theorem trans {u : State} (g : Reads t u) : Reads s u := by
  refine ⟨?_, fun k => g.flags k ∘ h.flags k⟩
  have e := g.rest
  rw [h.rest] at e
  exact e

theorem engine : t.engine = s.engine := by rw [h.rest]
theorem ports : t.ports = s.ports := by rw [h.rest]
theorem channels : t.channels = s.channels := by rw [h.rest]
theorem store : t.store = s.store := by rw [h.rest]
theorem hold : t.hold = s.hold := by rw [h.rest]
theorem pinTable : t.pinTable = s.pinTable := by rw [h.rest]
theorem header : t.memory.header = s.memory.header := by rw [h.rest]
theorem isFaulted (x : Slot) : t.isFaulted x = s.isFaulted x := by simp only [State.isFaulted, h.engine]
theorem inWalk : t.inWalk = s.inWalk := by simp only [State.inWalk, h.engine]
theorem channel (c : ChannelId) : t.channel c = s.channel c := by simp only [State.channel, h.channels]
theorem engagedSlot (c : ChannelId) : t.engagedSlot c = s.engagedSlot c := by simp only [State.engagedSlot, h.engine]

end Reads

section ReadWords
variable (x : Slot) (hw : s.inWalk = false)
include hw

theorem readWord_reads (w : RecordWord) : Reads s (readWord x w s).2 := by
  have hn : ∀ t : State, t.inWalk = s.inWalk → ∀ n, noteRepairs n t = raiseCause .recordRepaired t := fun t ht n => by
    rw [noteRepairs, if_neg (by simp [ht, hw])]
  unfold readWord
  dsimp only
  split
  · exact .refl s
  · rw [hn (s.writeRecord x _) rfl]
    refine ⟨?_, fun k hk => (hasCause_raiseCause _ _ k).2 (.inl hk)⟩
    have hw' : ∀ r, (s.writeRecord x r).inWalk = false := fun _ => hw
    simp only [raiseCause, hw', Bool.false_eq_true, if_false]
    rfl

/-- A read raises RECORD_REPAIRED where it corrects a word, and changes nothing where it corrects none (R144). -/
theorem readWord_repairs (w : RecordWord) :
    (((s.record x).condition w).damaged = 0 → (readWord x w s).2 = s) ∧
      (((s.record x).condition w).damaged ≠ 0 → hasCause (readWord x w s).2.attention.flags .recordRepaired = true) := by
  refine ⟨fun h => by simp [readWord, h], fun h => ?_⟩
  have hw' : ∀ r, (s.writeRecord x r).inWalk = false := fun _ => hw
  simp only [readWord, h, if_false, noteRepairs, hw', Bool.false_eq_true]
  exact (hasCause_raiseCause _ _ _).2 (.inr ⟨hw' _, rfl⟩)

theorem readWords_reads (l : List RecordWord) : Reads s (readWords x l s).2 := by
  induction l generalizing s with
  | nil => exact .refl s
  | cons w rest ih =>
    have h := readWord_reads x hw w
    unfold readWords
    split
    · next t e => rw [e] at h; exact h.trans (ih (h.inWalk.trans hw))
    · next t e => rw [e] at h; exact h.trans (ih (h.inWalk.trans hw))

theorem readWords_repairs (l : List RecordWord) :
    ((s.record x).repairs l = 0 → (readWords x l s).2 = s) ∧
      (1 ≤ (s.record x).repairs l → hasCause (readWords x l s).2.attention.flags .recordRepaired = true) := by
  induction l generalizing s with
  | nil => exact ⟨fun _ => rfl, fun h => by simp [Record.repairs] at h⟩
  | cons w rest ih =>
    obtain ⟨h0, h1⟩ := readWord_repairs x hw w
    have hr := readWord_reads x hw w
    have hstep : (readWords x (w :: rest) s).2 = (readWords x rest (readWord x w s).2).2 := by
      rw [readWords]
      split <;> next e => rw [e]
    have hsum : (s.record x).repairs (w :: rest) = ((s.record x).condition w).damaged + (s.record x).repairs rest := rfl
    rw [hstep, hsum]
    by_cases hd : ((s.record x).condition w).damaged = 0
    · rw [h0 hd, hd, Nat.zero_add]
      exact ih hw
    · refine ⟨fun h => absurd (Nat.eq_zero_of_add_eq_zero_right h) hd, fun _ => ?_⟩
      exact (readWords_reads x (hr.inWalk.trans hw) rest).flags _ (h1 hd)

end ReadWords

/-- Reads of some words and then of others are reads of them all. -/
theorem readWords_append (x : Slot) (l l' : List RecordWord) (s : State) :
    (readWords x (l ++ l') s).2 = (readWords x l' (readWords x l s).2).2 := by
  induction l generalizing s with
  | nil => rfl
  | cons w rest ih =>
    rw [List.cons_append, readWords, readWords]
    split <;> exact ih _

/-! ### Record faults -/

theorem notify_role (s : State) (p q : PortId) (n : Notice) : ((notify p n s).port q).role = (s.port q).role := by
  have hr : ∀ (k : Cause) (t : State), (raiseCause k t).port q = t.port q := fun k t => by simp only [State.port, raiseCause_ports]
  unfold notify
  dsimp only
  split
  · rw [port_setPort]; split
    · next e => rw [e]
    · rfl
  · rw [hr, port_setPort]; split
    · next e => rw [e]
    · rfl

/-- A system notice reaches every CONTROL port (R164). -/
theorem notifyControl_reached (s : State) (n : Notice) (q : PortId) (h : (s.port q).role = .control) :
    Reached n q (notifyControl n s) := by
  unfold notifyControl
  suffices ∀ (l : List PortId) (t : State), (t.port q).role = .control → (q ∈ l ∨ Reached n q t) →
      Reached n q (l.foldl (fun t p => if (t.port p).role = .control then notify p n t else t) t) from
    this _ s h (.inl (List.mem_finRange q))
  intro l
  induction l with
  | nil => exact fun t _ h => h.resolve_left (by simp)
  | cons p rest ih =>
    intro t ht h
    rw [List.foldl_cons]
    split
    · refine ih _ (by rw [notify_role]; exact ht) ?_
      rcases h with h | h
      · rcases List.mem_cons.1 h with rfl | h
        · exact .inr (notify_reached t q n)
        · exact .inl h
      · exact .inr ((notify_notified t p n).reached h)
    · next hp =>
      refine ih t ht (h.imp_left fun h => (List.mem_cons.1 h).resolve_left ?_)
      rintro rfl
      exact hp ht

/-- A record fault at run time is reported (R9, R146, R164). -/
theorem recordFault_reported (hw : s.inWalk = false) (who : Requester) (part : RecordPart) (x : Slot) :
    FaultReported s (recordFault who part x s) x who part := by
  have he := recordFault_engine s who part x
  refine ⟨fun y => (isFaulted_recordFault s who part x y).trans or_comm, by rw [he]; rfl, by rw [he]; rfl, ?_, fun q hq => ?_⟩
  · have hw' : (flagFaulted x s).inWalk = false := hw
    have hraised := (hasCause_alarmEvent (flagFaulted x s) (.recordFault x who part) .recordFault).2 (.inr ⟨hw', rfl⟩)
    have hsent := notifyControl_alerted (alarmEvent (.recordFault x who part) (flagFaulted x s)) (.recordFault x who part)
    rw [recordFault]
    exact hsent.flags _ hraised
  · refine notifyControl_reached _ _ q ?_
    have : (alarmEvent (.recordFault x who part) (flagFaulted x s)).port q = s.port q := by
      simp only [State.port, alarmEvent_ports]; rfl
    rw [this]
    exact hq

/-- A fault found after reads is one found before them, and stays reported while notices are sent and causes raised. -/
theorem reported_after {u v : State} {x : Slot} {who : Requester} {part : RecordPart} (h : Reads s t)
    (g : FaultReported t u x who part) (ha : Alerted u v) (he : v.engine = u.engine) : FaultReported s v x who part := by
  obtain ⟨h1, h2, h3, h4, h5⟩ := g
  refine ⟨fun y => ?_, by rw [he, h2, h.engine], by rw [he, h3, h.engine], ha.flags _ h4, fun q hq => ha.notified.reached (h5 q ?_)⟩
  · rw [← h.isFaulted, ← h1 y, State.isFaulted, he, ← State.isFaulted]
  · simpa only [State.port, h.ports] using hq

/-- What a record fault leaves that has been found by reads of a record's words, whatever notices follow (R9, R144, R146). -/
structure FaultFound (s t : State) (x : Slot) (who : Requester) (part : RecordPart) (words : List RecordWord) : Prop where
  reported : FaultReported s t x who part
  record : t.record x = (s.record x).repair words
  others : ∀ y, y ≠ x → t.record y = s.record y
  header : t.memory.header = s.memory.header
  repaired : 1 ≤ (s.record x).repairs words → hasCause t.attention.flags .recordRepaired = true
  unrepaired : (s.record x).repairs words = 0 → t.memory = s.memory

theorem faultFound (hw : s.inWalk = false) (x : Slot) (who : Requester) (part : RecordPart) (words : List RecordWord)
    (hm : t.memory = (readWords x words s).2.memory) (he : t.engine = (recordFault who part x (readWords x words s).2).engine)
    (ha : Alerted (recordFault who part x (readWords x words s).2) t) : FaultFound s t x who part words := by
  have hr := readWords_reads x hw words
  obtain ⟨h0, h1⟩ := readWords_repairs x hw words
  have hrec : ∀ y, t.record y = if y = x then (s.record x).repair words else s.record y := fun y => by
    rw [State.record, hm]
    exact (readWords_cases x words s).2 y
  have hf := recordFault_reported (hr.inWalk.trans hw) who part x
  have hkeeps : Alerted (readWords x words s).2 (recordFault who part x (readWords x words s).2) := by
    have h : Alerted (readWords x words s).2 (flagFaulted x (readWords x words s).2) := .of_eq rfl rfl
    rw [recordFault]
    exact h.trans ((alarmEvent_alerted _ _).trans (notifyControl_alerted _ _))
  exact ⟨reported_after hr hf ha he, (hrec x).trans (if_pos rfl), fun y hy => (hrec y).trans (if_neg hy), by rw [hm, hr.header],
    fun h => (hkeeps.trans ha).flags _ (h1 h), fun h => by rw [hm, h0 h]⟩

end Sys2Proof.Machine
end

-- ==== Proofs: the channels' jobs, case by case ====
section
/-! DISENGAGE, SEGMENT_RESOLUTION and START_RESOLUTION once the arbiter has granted them: what each comes to in each of its cases (R15, R48,
R76 to R79, R140). -/

namespace Sys2Proof.Machine

/-! ### The end of a channel's job -/

section Ended
variable (u : State) (c : ChannelId)

/-- What the end of a channel's job, after it has settled, leaves unchanged. -/
theorem ended_memory : (finishJob (settle c u)).memory = u.memory := by simp
theorem ended_engine : (finishJob (settle c u)).engine = u.engine := by simp
theorem ended_record (x : Slot) : (finishJob (settle c u)).record x = u.record x := by simp only [State.record, ended_memory]
theorem ended_engagedSlot (d : ChannelId) : (finishJob (settle c u)).engagedSlot d = u.engagedSlot d := by
  simp only [State.engagedSlot, ended_engine]
theorem ended_channel : (finishJob (settle c u)).channel c = (settle c u).channel c := finishJob_channel _ c
theorem ended_channel_ne {d : ChannelId} (h : d ≠ c) : (finishJob (settle c u)).channel d = u.channel d := by
  rw [finishJob_channel, settle_channel_ne u c h]
theorem ended_alerted : Alerted u (finishJob (settle c u)) := (settle_alerted u c).trans (finishJob_alerted _)

end Ended

theorem channelGranted_of_serving {s : State} {c : ChannelId} (h : s.arbiter.serving = some (channelPosition c)) :
    channelGranted c s = true := by simp [channelGranted, State.isServing, h]

theorem Grants.inWalk {s : State} {n : Nat} (h : Grants s n) : s.inWalk = false := by rw [State.inWalk, h.1]

/-! ### DISENGAGE -/

section Disengage
variable {s : State} {c : ChannelId} {x : Slot}

theorem exec_disengage (hj : (s.channel c).job = some .disengage) (hg : Grants s (channelPosition c)) :
    exec (.disengage c) s = .next (finishJob (settle c (endJob c (emptyEntry c s)))) := by
  show Host.Outcome.next (serveDisengage c s) = _
  rw [serveDisengage, hj]
  dsimp only
  rw [if_pos (channelGranted_of_serving hg.2)]

/-- An engagement is the last of its slot where no other entry names the slot (R12). -/
theorem engagements_emptied (s : State) (c : ChannelId) (x : Slot) :
    (s.setEngagement c none).engagements x = 0 ↔ ∀ d, d ≠ c → s.engagedSlot d ≠ some x := by
  rw [engagements_eq_zero]
  refine forall_congr' fun d => ?_
  rw [engagedSlot_setEngagement]
  split
  · next e => simp [e]
  · next e => simp [e]

/-- The notice that reports a slot freed (R140). -/
def Record.retiredNotice (r : Record) (x : Slot) : Notice := .retired r.key x r.passCount r.extentCount r.blockCount

/-- A RETIRING slot that is drained: it is freed, and RETIRED is sent (R140). -/
theorem drain_of_retiring (hf : s.isFaulted x = false) (hi : (s.record x).intact) (hr : (s.record x).state = .retiring) :
    (drain c x s).memory = (freeSlot x (s.record x).freeRetired s).memory ∧
      (drain c x s).engine = (freeSlot x (s.record x).freeRetired s).engine ∧ (drain c x s).channels = s.channels ∧
      ∀ p : PortId, (s.record x).retiringPort = p.val → Reached ((s.record x).retiredNotice x) p (drain c x s) := by
  have hreads : ∀ l, readWords x l s = (none, s) := fun l => readWords_of_intact x l s hi
  unfold drain
  simp only [hf, hreads, hr, if_true, Bool.false_eq_true, if_false]
  split
  · next h =>
    refine ⟨by simp, by simp, by simp [freeSlot], fun p hp => ?_⟩
    have : p = ⟨(s.record x).retiringPort, h⟩ := Fin.ext hp.symm
    rw [this]
    exact notify_reached _ _ _
  · next h => exact ⟨rfl, rfl, rfl, fun p hp => absurd (hp ▸ p.isLt) h⟩

/-- A slot that is not drained: it is flagged, or intact and not RETIRING (R140, R146). -/
theorem drain_of_not_retiring (h : s.isFaulted x = true ∨ (s.record x).intact ∧ (s.record x).state ≠ .retiring) : drain c x s = s := by
  rcases h with h | ⟨hi, hr⟩
  · simp [drain, h]
  · unfold drain
    split
    · rfl
    · rw [readWords_of_intact x _ s hi]
      exact if_neg hr

end Disengage

end Sys2Proof.Machine

namespace Sys2Proof.Settled

open Sys2Proof.Machine

/-- Settles O50, by whether the engagement is the slot's last, and whether the slot is then drained. -/
theorem disengage : Obligations.Disengage := by
  intro s c x hj hg hx
  dsimp only
  rw [exec_disengage hj hg]
  have hentry : emptyEntry c s =
      if (s.setEngagement c none).engagements x = 0 then drain c x (s.setEngagement c none) else s.setEngagement c none := by
    simp only [emptyEntry, hx]
  refine ⟨fun h => ?_, fun hlast hf hi hr => ⟨_, rfl, ?_⟩⟩
  · have hstays : emptyEntry c s = s.setEngagement c none := by
      rw [hentry]
      split
      · next he =>
        exact drain_of_not_retiring (h.resolve_left fun hn => hn ((engagements_emptied s c x).1 he))
      · rfl
    rw [hstays]
    rfl
  · have hr' := freeRetired_of_intact _ hi
    obtain ⟨hm, he, hc, hreach⟩ := drain_of_retiring (s := s.setEngagement c none) (c := c) (x := x) hf hi hr
    rw [hentry, if_pos ((engagements_emptied s c x).2 hlast)]
    have hm' : (endJob c (drain c x (s.setEngagement c none))).memory = (s.writeRecord x (s.record x).freeRetired).memory := hm
    have he' : (endJob c (drain c x (s.setEngagement c none))).engine = (((s.setEngagement c none).engine.unlink x).push x) := he
    have hch : ∀ d, d ≠ c → (endJob c (drain c x (s.setEngagement c none))).channel d = s.channel d := fun d hd => by
      rw [endJob_channel, if_neg hd, State.channel, hc]; rfl
    have hreach : ∀ p : PortId, (s.record x).retiringPort = p.val →
      Reached ((s.record x).retiredNotice x) p (endJob c (drain c x (s.setEngagement c none))) := hreach
    clear hc hm he
    generalize endJob c (drain c x (s.setEngagement c none)) = v at *
    have hrec : ∀ y, (finishJob (settle c v)).record y = if y = x then (s.record x).freeRetired else s.record y := fun y => by
      rw [ended_record, State.record, hm', ← State.record, record_writeRecord]
    have hslot : ∀ d, (finishJob (settle c v)).engagedSlot d = if d = c then none else s.engagedSlot d := fun d => by
      rw [ended_engagedSlot, State.engagedSlot, he']
      exact engagedSlot_setEngagement ..
    refine ⟨(hslot c).trans (if_pos rfl), fun d hd => (hslot d).trans (if_neg hd), ?_, fun y hy => (hrec y).trans (if_neg hy), ?_,
      fun hwf b => ?_, ?_, fun p hp => (ended_alerted v c).notified.reached (hreach p hp), fun d hd => ?_⟩
    · rw [hrec, if_pos rfl, hr']
    · rw [ended_engine, he']; rfl
    · rw [ended_engine, he']
      exact Engine.chain_unlink hwf
    · rw [ended_engine, he']; rfl
    · rw [ended_channel_ne v c hd, hch d hd]

end Sys2Proof.Settled

namespace Sys2Proof.Machine

/-! ### SEGMENT_RESOLUTION -/

/-- A channel whose segment resolution has been answered FAULTED: the frame is the crossing (R78). -/
def Channel.crossed (frame : Nat) (ch : Channel) : Channel :=
  { ch with
    job := none
    current := ch.current.map fun cur => { cur with crossing := some frame }
    message := ch.message.map fun m => m.closeAt frame }

section Segment
variable {s : State} {c : ChannelId} {x : Slot} {frame stop : Nat} {discard : Bool}

theorem exec_segment {answer : Option Run} {t : State} (hj : (s.channel c).job = some (.segment frame stop discard))
    (hg : Grants s (channelPosition c)) (h : judgeSegment c frame stop s = (answer, t)) :
    exec (.segmentResolution c) s = .next (finishJob (settle c (takeSegment c frame discard answer t))) := by
  show Host.Outcome.next (serveSegment c s) = _
  rw [serveSegment, hj]
  dsimp only
  rw [if_pos (channelGranted_of_serving hg.2), h]

/-- A FAULTED answer, whether it is wanted or not (R78, R88). -/
theorem takeSegment_none {u : State} (hu : u.channel c = s.channel c) : takeSegment c frame discard none u =
    u.setChannel c (if discard then { s.channel c with job := none } else (s.channel c).crossed frame) := by
  cases discard with
  | true => simp only [takeSegment, endJob, hu, if_true]
  | false =>
    have hend : (endJob c u).channel c = { s.channel c with job := none } := by rw [endJob_channel, if_pos rfl, hu]
    unfold takeSegment
    dsimp only
    rw [if_neg Bool.false_ne_true, hend, endJob, setChannel_setChannel]
    rfl

/-- A run that is wanted joins the channel's runs (R77). -/
theorem takeSegment_some (u : State) (run : Run) : takeSegment c frame false (some run) u =
    u.setChannel c { u.channel c with job := none, runs := (u.channel c).runs ++ [run] } := by
  have hend : (endJob c u).channel c = { u.channel c with job := none } := by rw [endJob_channel, if_pos rfl]
  unfold takeSegment
  dsimp only
  rw [if_neg Bool.false_ne_true, hend, endJob, setChannel_setChannel]

/-- The run of a frame that a GAP segment supplies (R61). -/
theorem resolveRun_of_gap {r : Record} {g : Segment} (hg : segmentOf r.rendition frame = some g) (hs : g.source = .gap) :
    resolveRun r frame stop = some { start := frame, stop := min stop g.stop, source := .gap, issued := 0 } := by
  simp [resolveRun, hg, hs]

/-- The run of a frame that a PASS segment supplies (R48). -/
theorem resolveRun_of_pass {r : Record} {g : Segment} {i : Fin 4} {o : Nat} (hg : segmentOf r.rendition frame = some g)
    (hs : g.source = .pass i.val o) : resolveRun r frame stop =
      some { start := frame, stop := min stop g.stop, source := .pass i.val (frame - g.start + o) (r.pass i).extents, issued := 0 } := by
  simp [resolveRun, hg, hs]

/-- The engaged slot is faulted already: it is not read (R146). -/
theorem judgeSegment_of_faulted (hx : s.engagedSlot c = some x) (h : s.isFaulted x = true) :
    judgeSegment c frame stop s = (none, s) := by
  simp [judgeSegment, hx, h]

/-- The engaged slot is intact: the run of the frame (R48). -/
theorem judgeSegment_of_intact (hx : s.engagedSlot c = some x) (h : s.isFaulted x = false) (hi : (s.record x).intact) :
    judgeSegment c frame stop s = (resolveRun (s.record x) frame stop, s) := by
  simp [judgeSegment, hx, h, readWords_of_intact x _ s hi]

theorem firstLost_singleton (r : Record) (w : RecordWord) : r.firstLost [w] = if (r.condition w).lost then some w else none := by
  simp [Record.firstLost, List.find?]
  cases (r.condition w).lost <;> rfl

/-- The rendition of the engaged slot is lost (R78, R146). -/
theorem judgeSegment_of_rendition_lost (hx : s.engagedSlot c = some x) (h : s.isFaulted x = false)
    (hl : ((s.record x).condition .rendition).lost = true) :
    judgeSegment c frame stop s = (none, recordFault (.channel c) .rendition x (readWords x [.rendition] s).2) := by
  obtain ⟨h1, -⟩ := readWords_cases x [.rendition] s
  rw [firstLost_singleton, if_pos hl] at h1
  unfold judgeSegment
  simp only [hx, h, Bool.false_eq_true, if_false]
  cases e : readWords x [.rendition] s with
  | mk w t =>
    rw [e] at h1
    cases h1
    rfl

/-- The pass entry that the run of the frame needs is lost (R78, R146). -/
theorem judgeSegment_of_pass_lost (hx : s.engagedSlot c = some x) (h : s.isFaulted x = false)
    (hr : ((s.record x).condition .rendition).lost = false) {g : Segment} {i : Fin 4} {o : Nat}
    (hg : segmentOf (s.record x).rendition frame = some g) (hs : g.source = .pass i.val o)
    (hl : ((s.record x).condition (.pass i)).lost = true) :
    judgeSegment c frame stop s =
      (none, recordFault (.channel c) .passTable x (readWords x [.rendition, .pass i] s).2) := by
  obtain ⟨h1, h2⟩ := readWords_cases x [.rendition] s
  rw [firstLost_singleton, hr] at h1
  have happ := readWords_append x [.rendition] [.pass i] s
  unfold judgeSegment
  simp only [hx, h, Bool.false_eq_true, if_false]
  cases e : readWords x [.rendition] s with
  | mk w t =>
    rw [e] at h1 h2 happ
    cases h1
    have hrec : t.record x = (s.record x).repair [.rendition] := (h2 x).trans (if_pos rfl)
    have hword : runPassWord (t.record x) frame = [.pass i] := by
      have hg' : segmentOf (t.record x).rendition frame = some g := by rw [hrec]; exact hg
      obtain ⟨start, length, source⟩ := g
      dsimp only at hs
      subst hs
      simp [runPassWord, hg']
    obtain ⟨h3, -⟩ := readWords_cases x [.pass i] t
    have hl' : ((t.record x).condition (.pass i)).lost = true := by rw [hrec, condition_repair_lost]; exact hl
    rw [firstLost_singleton, if_pos hl'] at h3
    dsimp only at happ ⊢
    rw [hword]
    cases e' : readWords x [.pass i] t with
    | mk w u =>
      rw [e'] at h3 happ
      cases h3
      dsimp only at happ ⊢
      rw [show [RecordWord.rendition, .pass i] = [.rendition] ++ [.pass i] from rfl, happ]
      rfl

/-- A record fault that a segment resolution finds: FAULTED, with the fault reported (R78, R144, R146). -/
theorem segment_lost {part : RecordPart} {words : List RecordWord} (hj : (s.channel c).job = some (.segment frame stop discard))
    (hg : Grants s (channelPosition c))
    (h : judgeSegment c frame stop s = (none, recordFault (.channel c) part x (readWords x words s).2)) :
    ∃ t, t = finishJob (settle c ((recordFault (.channel c) part x (readWords x words s).2).setChannel c
        (if discard then { s.channel c with job := none } else (s.channel c).crossed frame))) ∧
      exec (.segmentResolution c) s = .next t ∧ FaultFound s t x (.channel c) part words := by
  have hw := hg.inWalk
  have hch : (recordFault (.channel c) part x (readWords x words s).2).channel c = s.channel c := by
    rw [State.channel, recordFault_channels]
    exact (readWords_reads x hw words).channel c
  refine ⟨_, rfl, ?_, ?_⟩
  · rw [exec_segment hj hg h, takeSegment_none hch]
  · refine faultFound hw x (.channel c) part words ?_ ?_ ?_
    · rw [ended_memory, setChannel_memory, recordFault_memory]
    · rw [ended_engine, setChannel_engine]
    · have hset := (setChannel_local (recordFault (.channel c) part x (readWords x words s).2) c
        (if discard then { s.channel c with job := none } else (s.channel c).crossed frame)).alerted
      exact hset.trans (ended_alerted _ c)

end Segment

end Sys2Proof.Machine

namespace Sys2Proof.Settled

open Sys2Proof.Machine

/-- Settles O49, by what the engaged slot and its record are found to be. -/
theorem segmentResolution : Obligations.SegmentResolution := by
  intro s c frame stop discard x hj hg hx
  dsimp only
  refine ⟨fun hd h => ?_, fun hd hf => ?_, fun hd hf hi g hseg => ⟨fun hs => ?_, fun i o hs => ?_⟩, fun hf =>
    ⟨fun hl => ?_, fun hl g i o hseg hs hp => ?_⟩⟩
  · subst hd
    rcases h with h | h
    · rw [exec_segment hj hg (judgeSegment_of_faulted hx h)]; rfl
    · cases hf : s.isFaulted x with
      | true => rw [exec_segment hj hg (judgeSegment_of_faulted hx hf)]; rfl
      | false => rw [exec_segment hj hg (judgeSegment_of_intact hx hf h)]; rfl
  · subst hd
    rw [exec_segment hj hg (judgeSegment_of_faulted hx hf), takeSegment_none rfl]
    rfl
  · subst hd
    rw [exec_segment hj hg (judgeSegment_of_intact hx hf hi), resolveRun_of_gap hseg hs, takeSegment_some]
    rfl
  · subst hd
    rw [exec_segment hj hg (judgeSegment_of_intact hx hf hi), resolveRun_of_pass hseg hs, takeSegment_some]
    rfl
  · obtain ⟨t, ht, he, hfound⟩ := segment_lost hj hg (judgeSegment_of_rendition_lost hx hf hl)
    obtain ⟨h1, h2, h3, h4, h5, h6⟩ := hfound
    exact ⟨by rw [he, ht]; rfl, t, he, h1, h2, h3, h4, h5, h6⟩
  · obtain ⟨t, ht, he, hfound⟩ := segment_lost hj hg (judgeSegment_of_pass_lost hx hf hl hseg hs hp)
    obtain ⟨h1, h2, h3, h4, h5, h6⟩ := hfound
    exact ⟨by rw [he, ht]; rfl, t, he, h1, h2, h3, h4, h5, h6⟩

end Sys2Proof.Settled
end

-- ==== Proofs: START_RESOLUTION ====
section
/-! START_RESOLUTION once the arbiter has granted it (R76): its refusals, the record faults that it finds, and the cue that it starts. -/

namespace Sys2Proof.Machine

section Start
variable {s : State} {c : ChannelId} {x : Slot} {cue : Cue} {role : Role} {ignore discard : Bool}

theorem exec_start {answer : StartAnswer} {t : State} (hj : (s.channel c).job = some (.start cue role ignore discard))
    (hg : s.arbiter.serving = some (channelPosition c)) (h : judgeStart c cue role ignore s = (answer, t)) :
    exec (.startResolution c) s = .next (finishJob (settle c (takeStart c cue discard answer t))) := by
  show Host.Outcome.next (serveStart c s) = _
  rw [serveStart, hj]
  dsimp only
  rw [if_pos (channelGranted_of_serving hg), h]

/-! ### The engine's judgement -/

theorem judgeStart_of_offline (h : s.engine.condition = .offline) : judgeStart c cue role ignore s = (.error .offline, s) := by
  simp [judgeStart, State.isOffline, h]

theorem judgeStart_of_not_there (hc : s.engine.condition = .ready) (h : NotThere s cue.key) :
    judgeStart c cue role ignore s = (.error .noItem, s) := by
  simp [judgeStart, not_offline_of_ready s hc, lookup_of_not_there _ _ s h]

theorem judgeStart_of_not_there_faulted (hc : s.engine.condition = .ready) (h : NotThereFaulted s cue.key) :
    judgeStart c cue role ignore s = (.error .faulted, s) := by
  simp [judgeStart, not_offline_of_ready s hc, lookup_of_not_there_faulted _ h]

theorem lookup_of_key_found {key : Key} (onFault : Slot → State → State) (h : KeyFoundAt s key x) :
    lookup onFault key s = (.found x, s) := by
  obtain ⟨hf, hk, hc, ahead, behind, hchain, hall⟩ := h
  rw [lookup, hchain]
  exact lookupChain_of_found onFault key x behind s hf hk hc ahead false hall

/-- An item found intact is judged by its record alone (R76). -/
theorem judgeStart_of_found (hc : s.engine.condition = .ready) (h : FoundAt s cue.key x) :
    (∀ reason, startRefusal (s.record x) cue role ignore s.hold.latches = some reason →
      judgeStart c cue role ignore s = (.error reason, s)) ∧
    (startRefusal (s.record x) cue role ignore s.hold.latches = none →
      judgeStart c cue role ignore s = (.ok (x, s.record x), s)) := by
  simp only [judgeStart, not_offline_of_ready s hc, lookup_of_found _ _ x s h, readStart, readWords_of_intact x _ s h.2.2.1,
    Bool.false_eq_true, if_false]
  exact ⟨fun reason hr => by rw [hr], fun hr => by rw [hr]⟩

/-- A word that the resolution needs is lost (R76, R146). -/
theorem judgeStart_of_lost (hc : s.engine.condition = .ready) (h : KeyFoundAt s cue.key x) {w : RecordWord}
    (hw : (s.record x).firstLost ([.state, .holds, .format, .rendition] ++ firstRunWord (s.record x) cue.start.toNat) = some w) :
    judgeStart c cue role ignore s = (.error .faulted, recordFault (.channel c) w.part x
      (readWords x ([.state, .holds, .format, .rendition] ++ firstRunWord (s.record x) cue.start.toNat) s).2) := by
  obtain ⟨h1, -⟩ := readWords_cases x ([.state, .holds, .format, .rendition] ++ firstRunWord (s.record x) cue.start.toNat) s
  rw [hw] at h1
  simp only [judgeStart, not_offline_of_ready s hc, lookup_of_key_found _ h, readStart, Bool.false_eq_true, if_false]
  split
  · next v u e =>
    rw [e] at h1 ⊢
    cases h1
    rfl
  · next u e => rw [e] at h1; cases h1

/-! ### Refusals -/

theorem skipCue_local (s : State) (c : ChannelId) (cue : Cue) (reason : SkipReason) : Local c s (skipCue c cue reason s) :=
  (setChannel_local s c _).trans ((notifyBound_local _ c _).trans (goOn_local _ c))

/-- A HALTING channel that goes on sends CHANNEL_HALTED (R84). -/
theorem goOn_reached_halted (h : (s.channel c).state = .halting) {p : PortId} (hp : (s.channel c).port = some p) :
    Reached .channelHalted p (goOn c s) := by
  unfold goOn
  rw [h]
  refine notifyBound_reached _ c _ p ?_
  rw [enterState_channel, if_pos rfl]
  exact hp

/-- A STOPPING channel that goes on sends CHANNEL_STOPPED (R84). -/
theorem goOn_reached_stopped (h : (s.channel c).state = .stopping) {p : PortId} (hp : (s.channel c).port = some p) :
    Reached (.channelStopped none) p (goOn c s) := by
  unfold goOn
  rw [h]
  refine notifyBound_reached _ c _ p ?_
  rw [enterState_channel, if_pos rfl]
  exact hp

theorem skipCue_reached (s : State) (c : ChannelId) (cue : Cue) (reason : SkipReason) {p : PortId} (hp : (s.channel c).port = some p) :
    Reached (.cueSkipped cue.tag cue.key reason) p (skipCue c cue reason s) ∧
      ((s.channel c).state = .halting → Reached .channelHalted p (skipCue c cue reason s)) := by
  have hp' : ((s.setChannel c { s.channel c with queue := (s.channel c).queue.tail }).channel c).port = some p := by
    rw [channel_setChannel, if_pos rfl]; exact hp
  refine ⟨(goOn_local _ c).alerted.notified.reached (notifyBound_reached _ c _ p hp'), fun h => goOn_reached_halted ?_ ?_⟩
  · rw [notifyBound_channel, channel_setChannel, if_pos rfl]; exact h
  · rw [notifyBound_channel]; exact hp'

/-- What a cue that is skipped leaves, once the channel has settled (R76, R84). -/
structure Skipped (s t : State) (c : ChannelId) (cue : Cue) (reason : SkipReason) : Prop where
  current : (t.channel c).current = none
  queue : (t.channel c).queue = (s.channel c).queue.tail
  others : ∀ d, d ≠ c → t.channel d = s.channel d
  reached : ∀ p, (s.channel c).port = some p → Reached (.cueSkipped cue.tag cue.key reason) p t
  running : (s.channel c).state = .running → (t.channel c).state = if (s.channel c).queue.tail = [] then .idle else .running
  halting : (s.channel c).state = .halting → (t.channel c).state = .halted ∧
    ∀ p, (s.channel c).port = some p → Reached .channelHalted p t

theorem skipped (s : State) (c : ChannelId) (cue : Cue) (reason : SkipReason) (hn : (s.channel c).current = none) :
    Skipped s (finishJob (settle c (skipCue c cue reason (endJob c s)))) c cue reason := by
  have hend : (endJob c s).channel c = { s.channel c with job := none } := by rw [endJob_channel, if_pos rfl]
  have hch : (skipCue c cue reason (endJob c s)).channel c =
      ({ s.channel c with job := none, queue := (s.channel c).queue.tail } : Channel).wentOn := by
    rw [skipCue_channel, if_pos rfl, hend]
  have hcur : ((skipCue c cue reason (endJob c s)).channel c).current = none := by rw [hch]; exact hn
  have hidle := settle_idles _ c hcur
  rw [hch] at hidle
  have halert := ended_alerted (skipCue c cue reason (endJob c s)) c
  have hsent := fun p (hp : (s.channel c).port = some p) =>
    skipCue_reached (endJob c s) c cue reason (p := p) (by rw [hend]; exact hp)
  refine ⟨?_, ?_, fun d hd => ?_, fun p hp => halert.notified.reached (hsent p hp).1, fun hs => ?_, fun hs => ⟨?_, fun p hp => ?_⟩⟩
  · rw [ended_channel]; exact hidle.current
  · rw [ended_channel]; exact hidle.queue
  · rw [ended_channel_ne _ c hd, (skipCue_local _ c cue reason).channel d hd, endJob_channel, if_neg hd]
  · have hnext : ({ s.channel c with job := none, queue := (s.channel c).queue.tail } : Channel).wentOn.state =
        if (s.channel c).queue.tail = [] then .idle else .running := by simp only [Channel.wentOn, Channel.nextState, hs]
    rw [ended_channel, hidle.state (by rw [hnext]; split <;> simp), hnext]
  · have hnext : ({ s.channel c with job := none, queue := (s.channel c).queue.tail } : Channel).wentOn.state = .halted := by
      simp only [Channel.wentOn, Channel.nextState, hs]
    rw [ended_channel, hidle.state (by rw [hnext]; simp), hnext]
  · exact halert.notified.reached ((hsent p hp).2 (by rw [hend]; exact hs))

/-- A start resolution that is refused, with nothing written back (R76). -/
theorem start_refused {reason : SkipReason} (hj : (s.channel c).job = some (.start cue role ignore false))
    (hn : (s.channel c).current = none) (hg : s.arbiter.serving = some (channelPosition c))
    (h : judgeStart c cue role ignore s = (.error reason, s)) :
    ∃ t, exec (.startResolution c) s = .next t ∧ Skipped s t c cue reason ∧ (∀ d, t.engagedSlot d = s.engagedSlot d) ∧
      t.memory = s.memory ∧ ArbiterLaw t := by
  refine ⟨_, exec_start hj hg h, skipped s c cue reason hn, fun d => ?_, ?_, arbiterLaw_finishJob _⟩
  · rw [ended_engagedSlot]
    simp only [takeStart, Bool.false_eq_true, if_false, State.engagedSlot, skipCue, goOn_engine, notifyBound_engine]
    rfl
  · rw [ended_memory]
    simp only [takeStart, Bool.false_eq_true, if_false, skipCue, goOn_memory, notifyBound_memory]
    rfl

/-- The reasons of R76 in their order are those of the engine's judgement. -/
theorem startRefusal_of {r : Record} {latches : Groups} {reason : SkipReason}
    (h : let held := r.itemHold = 1 ∨ groupsOf r.groups &&& latches ≠ 0
      let stateFits := ¬ (role = .production ∧ r.state ≠ .released)
      (r.state = .retiring ∧ reason = .retiring ∨
        r.state ≠ .retiring ∧ ¬ stateFits ∧ reason = .wrongState ∨
        r.state ≠ .retiring ∧ stateFits ∧ held ∧ ignore = false ∧ reason = .held ∨
        r.state ≠ .retiring ∧ stateFits ∧ ¬ (held ∧ ignore = false) ∧ r.length ≤ cue.start.toNat * r.rate / 1000 ∧
          reason = .outOfRange)) : startRefusal r cue role ignore latches = some reason := by
  have hheld : r.held latches = true ↔ r.itemHold = 1 ∨ groupsOf r.groups &&& latches ≠ 0 := by simp [Record.held, heldBy]
  dsimp only at h
  rw [← hheld] at h
  unfold startRefusal
  rcases h with ⟨h1, rfl⟩ | ⟨h1, h2, rfl⟩ | ⟨h1, h2, h3, h4, rfl⟩ | ⟨h1, h2, h3, h4, rfl⟩
  · rw [if_pos h1]
  · rw [if_neg h1, if_pos (by simpa using h2)]
  · rw [if_neg h1, if_neg (by simpa using h2), if_pos (by simp [h3, h4])]
  · rw [if_neg h1, if_neg (by simpa using h2), if_neg (by simpa using h3)]
    exact if_pos h4

/-! ### Lost words -/

/-- A record fault that a start resolution finds: the cue is skipped FAULTED, or the answer is discarded, with the fault reported
(R76, R144, R146). -/
theorem start_lost {w : RecordWord} {words : List RecordWord} (hj : (s.channel c).job = some (.start cue role ignore discard))
    (hn : (s.channel c).current = none) (hg : Grants s (channelPosition c))
    (h : judgeStart c cue role ignore s = (.error .faulted, recordFault (.channel c) w.part x (readWords x words s).2)) :
    ∃ t, exec (.startResolution c) s = .next t ∧ FaultFound s t x (.channel c) w.part words ∧
      (∀ d, t.engagedSlot d = s.engagedSlot d) ∧ (t.channel c).current = none ∧
      (discard = true → (t.channel c).queue = (s.channel c).queue) ∧
      (discard = false → (t.channel c).queue = (s.channel c).queue.tail ∧
        ∀ p, (s.channel c).port = some p → Reached (.cueSkipped cue.tag cue.key .faulted) p t) := by
  have hw := hg.inWalk
  have hreads := readWords_reads x hw words
  have hch : (recordFault (.channel c) w.part x (readWords x words s).2).channel c = s.channel c := by
    rw [State.channel, recordFault_channels]
    exact hreads.channel c
  have heng : ∀ d, (recordFault (.channel c) w.part x (readWords x words s).2).engagedSlot d = s.engagedSlot d := fun d => by
    rw [State.engagedSlot, recordFault_engine]
    exact hreads.engagedSlot d
  refine ⟨_, exec_start hj hg.2 h, ?_⟩
  generalize hv : recordFault (.channel c) w.part x (readWords x words s).2 = v at *
  have hmem : v.memory = (readWords x words s).2.memory := by rw [← hv, recordFault_memory]
  have found : ∀ u : State, u.memory = v.memory → u.engine = v.engine → Alerted v u →
      FaultFound s (finishJob (settle c u)) x (.channel c) w.part words := fun u hm he ha => by
    refine faultFound hw x (.channel c) w.part words (by rw [ended_memory, hm, hmem]) (by rw [ended_engine, he, ← hv]) ?_
    rw [hv]
    exact ha.trans (ended_alerted u c)
  have slots : ∀ u : State, u.engine = v.engine → ∀ d, (finishJob (settle c u)).engagedSlot d = s.engagedSlot d := fun u he d => by
    rw [ended_engagedSlot, State.engagedSlot, he]
    exact heng d
  have hend : (endJob c v).channel c = { s.channel c with job := none } := by rw [endJob_channel, if_pos rfl, hch]
  have haend : Alerted v (endJob c v) := .of_eq rfl rfl
  cases discard with
  | true =>
    have hidle := settle_idles (endJob c v) c (by rw [hend]; exact hn)
    rw [hend] at hidle
    refine ⟨found (endJob c v) rfl rfl haend, slots (endJob c v) rfl, ?_, fun _ => ?_, fun hf => by cases hf⟩
    · rw [ended_channel]; exact hidle.current
    · rw [ended_channel]; exact hidle.queue
  | false =>
    have hskip := skipped v c cue .faulted (by rw [hch]; exact hn)
    have hmemory : (skipCue c cue .faulted (endJob c v)).memory = v.memory := by
      rw [skipCue, goOn_memory, notifyBound_memory]; rfl
    have hengine : (skipCue c cue .faulted (endJob c v)).engine = v.engine := by
      rw [skipCue, goOn_engine, notifyBound_engine]; rfl
    refine ⟨found (skipCue c cue .faulted (endJob c v)) hmemory hengine (haend.trans (skipCue_local _ c cue _).alerted),
      slots (skipCue c cue .faulted (endJob c v)) hengine, hskip.current, (fun hf => nomatch hf), fun _ => ⟨?_, fun p hp => ?_⟩⟩
    · exact hskip.queue.trans (by rw [hch])
    · exact hskip.reached p (by rw [hch]; exact hp)

/-! ### The grant -/

/-- A cue whose item is not held meets no cutoff as it starts (R126). -/
theorem judge_of_not_held {u : State} {cur : CurrentCue} (hc : (u.channel c).current = some cur) (hh : cur.held u.hold.latches = false) :
    judge c u = u := by
  simp [judge, State.cutoffDue, hc, hh]

/-- The channel of a cue that starts (R48, R76). -/
def Channel.started (ch : Channel) (cue : Cue) (x : Slot) (r : Record) : Channel :=
  { ch with
    job := none, queue := ch.queue.tail, current := some (startedCue cue x r),
    runs := (resolveRun r (startedCue cue x r).f0 (startedCue cue x r).f1).toList }

/-- A grant that is wanted, of an item that is not held (R76, R126). -/
theorem takeStart_granted {r : Record} (hh : r.held s.hold.latches = false) :
    takeStart c cue false (.ok (x, r)) s =
      (s.setEngagement c (some x)).setChannel c ((s.channel c).started cue x r) := by
  have hstart : startCue c cue x r (endJob c (s.setEngagement c (some x))) =
      (s.setEngagement c (some x)).setChannel c ((s.channel c).started cue x r) := by
    have hend : (endJob c (s.setEngagement c (some x))).channel c = { s.channel c with job := none } := by
      rw [endJob_channel, if_pos rfl]; rfl
    rw [startCue, hend, endJob, setChannel_setChannel]
    rfl
  unfold takeStart
  dsimp only
  rw [if_neg Bool.false_ne_true, hstart]
  refine judge_of_not_held (cur := startedCue cue x r) ?_ hh
  rw [channel_setChannel, if_pos rfl]
  rfl

end Start

end Sys2Proof.Machine

namespace Sys2Proof.Settled

open Sys2Proof.Machine

/-- Settles O48: the refusals by the engine's judgement, the record faults that it finds, and the grant. -/
theorem startResolution : Obligations.StartResolution := by
  refine ⟨fun s c cue role ignore reason hj hn hg h => ?_, fun s c cue role ignore discard x w hj hn hg hx hl => ?_,
    fun s c cue role ignore discard x hj hg hx hr => ?_⟩
  · have hjudge : judgeStart c cue role ignore s = (.error reason, s) := by
      rcases h with ⟨hc, rfl⟩ | ⟨hc, ⟨hthere, rfl⟩ | ⟨hthere, rfl⟩ | ⟨x, hx, h⟩⟩
      · exact judgeStart_of_offline hc
      · exact judgeStart_of_not_there hc hthere
      · exact judgeStart_of_not_there_faulted hc hthere
      · exact (judgeStart_of_found hc hx).1 reason (startRefusal_of h)
    obtain ⟨t, he, hskip, hslots, hm, ha⟩ := start_refused hj hn hg hjudge
    exact ⟨t, he, hskip.current, hskip.queue, hslots, hm, ha, hskip.reached, hskip.running, hskip.halting, hskip.others⟩
  · obtain ⟨t, he, hfound, hslots, hcur, htrue, hfalse⟩ := start_lost hj hn hg (judgeStart_of_lost hg.1 hx hl)
    exact ⟨t, he, hfound.reported, hfound.record, hfound.repaired, hfound.others, hslots, hcur, htrue, hfalse⟩
  · have he := exec_start hj hg.2 ((judgeStart_of_found hg.1 hx).2 hr)
    dsimp only
    refine ⟨fun hd hh => ?_, fun hd hh hdel hf => ?_, fun hd hs hn => ?_⟩
    · subst hd
      rw [he, takeStart_granted hh]
      rfl
    · subst hd
      rw [takeStart_granted hh] at he
      have hch : ((s.setEngagement c (some x)).setChannel c ((s.channel c).started cue x (s.record x))).channel c =
          (s.channel c).started cue x (s.record x) := by rw [channel_setChannel, if_pos rfl]
      have htend := settle_tended ((s.setEngagement c (some x)).setChannel c ((s.channel c).started cue x (s.record x))) c
        (by rw [hch]; intro hs; rw [Channel.delivering, show (s.channel c).state = .stopping from hs] at hdel; cases hdel)
        (by
          rw [hch]
          intro cur hc
          cases hc
          exact hf)
      rw [hch] at htend
      refine ⟨_, he, ?_, ?_, ?_, ?_, ?_⟩
      · rw [ended_engagedSlot]
        exact (engagedSlot_setEngagement ..).trans (if_pos rfl)
      · rw [ended_channel, htend.current]; rfl
      · rw [ended_channel, htend.state]; rfl
      · rw [ended_channel, htend.queue]; rfl
      · rw [ended_memory]; rfl
    · subst hd
      have htake : takeStart c cue true (.ok (x, s.record x)) s = (s.setEngagement c (some x)).setChannel c
          { s.channel c with job := none, disengageDue := true } := by
        have hend : (endJob c (s.setEngagement c (some x))).channel c = { s.channel c with job := none } := by
          rw [endJob_channel, if_pos rfl]; rfl
        unfold takeStart
        dsimp only
        rw [if_pos rfl, hend, endJob, setChannel_setChannel]
      rw [htake] at he
      have hch : ((s.setEngagement c (some x)).setChannel c { s.channel c with job := none, disengageDue := true }).channel c =
          { s.channel c with job := none, disengageDue := true } := by rw [channel_setChannel, if_pos rfl]
      have hidle := settle_idles ((s.setEngagement c (some x)).setChannel c { s.channel c with job := none, disengageDue := true }) c
        (by rw [hch]; exact hn)
      rw [hch] at hidle
      refine ⟨_, he, ?_, ?_, ?_, ?_, ?_⟩
      · rw [ended_engagedSlot]
        exact (engagedSlot_setEngagement ..).trans (if_pos rfl)
      · rw [ended_channel]; exact hidle.current
      · rw [ended_channel]; exact hidle.queue
      · rw [ended_channel]; exact hidle.disengages rfl rfl
      · rw [ended_memory]; rfl

end Sys2Proof.Settled
end

-- ==== Proofs: FIND_ITEM and DESCRIBE_ITEM ====
section
/-! FIND_ITEM and DESCRIBE_ITEM of an item that is there (R19, R20): found intact, with words that are corrected, or with a word lost. -/

namespace Sys2Proof.Machine

section Find
variable {s : State} {p : PortId} {v : Service} {key : Key} {x : Slot}

/-- What FIND_ITEM reports of a slot (R19), with a held item as R4 says it. -/
theorem findFields_eq (key : Key) (x : Slot) (s : State) : findFields key x s =
    [.u16 x.val, .u8 (s.record x).state.code.toNat,
      Field.flag (decide ((s.record x).itemHold = 1 ∨ groupsOf (s.record x).groups &&& s.hold.latches ≠ 0)), .u8 (s.engagements x),
      .u8 (s.pinsOn x), .u32 ((s.engine.chain key.bucket).filter fun y => s.isFaulted y).length] := by
  simp only [findFields, Record.held, heldBy, Bool.decide_or, State.faultedInBucket]

/-- A read changes nothing of what FIND_ITEM reports. -/
theorem findFields_of_reads {t : State} (h : Reads s t) (hr : (s.record x).SameData (t.record x)) : findFields key x t = findFields key x s := by
  rw [findFields, findFields, hr.state, h.hold, State.engagements, h.engine, State.pinsOn, h.pinTable, State.faultedInBucket, h.engine]
  have hheld : (t.record x).held s.hold.latches = (s.record x).held s.hold.latches := by rw [hr.1]; rfl
  have hfaulted : (fun y => t.isFaulted y) = fun y => s.isFaulted y := funext h.isFaulted
  rw [hheld, hfaulted]
  rfl

theorem exec_findItem (h : Serves s p v (.findItem key)) (hg : Grants s p.val) :
    exec (.findItem p) s = .next (finishJob (findItemJob p key s)) := exec_granted h hg rfl (by simp)

/-! ### The words that FIND_ITEM reads -/

/-- The group of words at each place among the words of a record. -/
def wordOfIndex : Fin 10 → RecordWord
  | 0 => .key
  | 1 => .state
  | 2 => .format
  | 3 => .holds
  | 4 => .retiring
  | 5 => .pass 0
  | 6 => .pass 1
  | 7 => .pass 2
  | 8 => .pass 3
  | 9 => .rendition

theorem index_injective : Function.Injective RecordWord.index := by
  refine Function.LeftInverse.injective (g := wordOfIndex) fun w => ?_
  cases w with
  | pass i =>
    match i with
    | 0 | 1 | 2 | 3 => rfl
  | _ => rfl

theorem condition_corrected_ne (r : Record) {w v : RecordWord} (h : v ≠ w) : (r.corrected w).condition v = r.condition v := by
  rw [condition_corrected, if_neg fun e => h (index_injective e)]

theorem condition_corrected_self (r : Record) (w : RecordWord) (h : (r.condition w).lost = false) :
    (r.corrected w).condition w = .clean := by
  rw [condition_corrected, if_pos rfl, WordCondition.afterRead, h]
  rfl

/-- The words that FIND_ITEM reads, once it has read them (R144). -/
theorem repair_state_holds (r : Record) :
    ((r.condition .state).lost = false → (r.repair [.state, .holds]).condition .state = .clean) ∧
      ((r.condition .holds).lost = false → (r.repair [.state, .holds]).condition .holds = .clean) ∧
      ∀ w, w ≠ .state → w ≠ .holds → (r.repair [.state, .holds]).condition w = r.condition w := by
  have hr : r.repair [.state, .holds] = (r.corrected .state).corrected .holds := rfl
  rw [hr]
  refine ⟨fun h => ?_, fun h => ?_, fun w h1 h2 => ?_⟩
  · rw [condition_corrected_ne _ (by simp), condition_corrected_self _ _ h]
  · exact condition_corrected_self _ _ (by rw [condition_corrected_ne _ (by simp)]; exact h)
  · rw [condition_corrected_ne _ h2, condition_corrected_ne _ h1]

/-- FIND_ITEM reads its words and reports the item, or a word of them is lost (R19, R146). -/
theorem findItemJob_of_key_found (hx : KeyFoundAt s key x) :
    ((s.record x).firstLost [.state, .holds] = none → findItemJob p key s =
      let u := (readWords x [.state, .holds] s).2
      reply p .ok (findFields key x u) u) ∧
    ∀ w, (s.record x).firstLost [.state, .holds] = some w → findItemJob p key s =
      let v := recordFault (.port p) w.part x (readWords x [.state, .holds] s).2
      reply p .faulted (bucketFields key v) v := by
  obtain ⟨h1, -⟩ := readWords_cases x [.state, .holds] s
  rw [findItemJob, withItem, lookup_of_key_found _ hx]
  dsimp only
  cases e : readWords x [.state, .holds] s with
  | mk w u =>
    rw [e] at h1
    dsimp only at h1
    subst h1
    exact ⟨fun h => by rw [h], fun w h => by rw [h]⟩

theorem reply_record (code : ReplyCode) (fields : List Field) (t : State) (y : Slot) :
    (finishJob (reply p code fields t)).record y = t.record y := by
  simp only [State.record, finishJob_memory, reply_memory]

/-- A fault that has been reported stays so where the request is answered. -/
theorem FaultFound.replied {t : State} {who : Requester} {part : RecordPart} {words : List RecordWord} (code : ReplyCode)
    (fields : List Field) (h : FaultFound s t x who part words) : FaultFound s (finishJob (reply p code fields t)) x who part words := by
  have hreach : ∀ n q, Reached n q t → Reached n q (finishJob (reply p code fields t)) := fun n q hr => by
    rw [Reached, finishJob_port, ← Reached]
    cases hv : (t.port p).service with
    | none => rw [reply_of_none p code fields t hv]; exact hr
    | some v =>
      rw [reply_of_service p v code fields t hv, answered, Reached, port_setPort]
      split
      · next e => subst e; exact hr
      · exact hr
  have hm : (finishJob (reply p code fields t)).memory = t.memory := by simp
  have he : (finishJob (reply p code fields t)).engine = t.engine := by simp
  have ha : (finishJob (reply p code fields t)).attention = t.attention := by simp
  obtain ⟨⟨h1, h2, h3, h4, h5⟩, h6, h7, h8, h9, h10⟩ := h
  refine ⟨⟨fun y => ?_, by rw [he, h2], by rw [he, h3], by rw [ha]; exact h4, fun q hq => hreach _ q (h5 q hq)⟩, ?_, fun y hy => ?_,
    by rw [hm]; exact h8, fun h => by rw [ha]; exact h9 h, fun h => by rw [hm]; exact h10 h⟩
  · rw [State.isFaulted, he, ← State.isFaulted]; exact h1 y
  · rw [State.record, hm]; exact h6
  · rw [State.record, hm]; exact h7 y hy

end Find

/-- Settles O29: FIND_ITEM and DESCRIBE_ITEM on an intact record, and FIND_ITEM with words corrected or lost. -/
theorem findDescribeAndRecordFault : Obligations.FindDescribeAndRecordFault := by
  refine ⟨fun p v s key x hg hx => ⟨fun h => ?_, fun h => ?_⟩, fun p v s key x h hg hx => ⟨fun hs hh => ⟨_, exec_findItem h hg, ?_⟩,
    fun hl => ⟨_, exec_findItem h hg, ?_⟩⟩⟩
  · rw [exec_findItem h hg, findItemJob, withItem_of_found p key _ _ _ x s hx, finishJob_reply h, findFields_eq]
  · have he : exec (.describeItem p) s = .next (finishJob (describeItemJob p key s)) := exec_granted h hg rfl (by simp)
    rw [he, describeItemJob, withItem_of_found p key _ _ _ x s hx, finishJob_reply h]
  · have hnone : (s.record x).firstLost [.state, .holds] = none := by simp [Record.firstLost, hs, hh]
    have hreads := readWords_reads x hg.inWalk [.state, .holds]
    obtain ⟨h0, h1⟩ := readWords_repairs x hg.inWalk [.state, .holds]
    obtain ⟨-, hrec⟩ := readWords_cases x [.state, .holds] s
    have hsame := (readWords_sifts (fun _ => False) s x [.state, .holds]).record x
    obtain ⟨hstate, hholds, hrest⟩ := repair_state_holds (s.record x)
    rw [(findItemJob_of_key_found hx).1 hnone]
    dsimp only
    rw [findFields_of_reads hreads hsame, findFields_eq]
    generalize (readWords x [.state, .holds] s).2 = u at *
    have hx' : u.record x = (s.record x).repair [.state, .holds] := (hrec x).trans (if_pos rfl)
    simp only [reply_record, finishJob_memory, reply_memory, finishJob_attention, reply_attention, finishJob_engine, reply_engine,
      finishJob_channels, reply_channels, finishJob_hold, reply_hold, finishJob_pinTable, reply_pinTable, finishJob_store, reply_store,
      finishJob_ports]
    refine ⟨fun y hy => (hrec y).trans (if_neg hy), hreads.header, hx', hsame.1, ?_, ?_, ?_, h1, fun h => ?_, answer_ports h hreads.ports _ _,
      hreads.engine, hreads.channels, hreads.hold, hreads.pinTable, hreads.store⟩
    · rw [hx']; exact hstate hs
    · rw [hx']; exact hholds hh
    · rw [hx']; exact hrest
    · rw [h0 h]; exact ⟨rfl, rfl⟩
  · obtain ⟨w, hw, hpart⟩ : ∃ w, (s.record x).firstLost [.state, .holds] = some w ∧ w.part = .fixedFields := by
      cases hs : ((s.record x).condition .state).lost with
      | true => exact ⟨.state, by simp [Record.firstLost, hs], rfl⟩
      | false =>
        have hh := hl.resolve_left (by simp [hs])
        exact ⟨.holds, by simp [Record.firstLost, hs, hh], rfl⟩
    have hreads := readWords_reads x hg.inWalk [.state, .holds]
    have hfound := faultFound (s := s) hg.inWalk x (.port p) .fixedFields [.state, .holds]
      (t := recordFault (.port p) .fixedFields x (readWords x [.state, .holds] s).2) (by rw [recordFault_memory]) rfl (.refl _)
    rw [(findItemJob_of_key_found hx).2 w hw, hpart]
    dsimp only
    have hport := (recordFault_plays (readWords x [.state, .holds] s).2 (.port p) .fixedFields x).notified p
    have hch : (recordFault (.port p) .fixedFields x (readWords x [.state, .holds] s).2).channels = s.channels := by
      rw [recordFault_channels, hreads.channels]
    have hhold : (recordFault (.port p) .fixedFields x (readWords x [.state, .holds] s).2).hold = s.hold := by
      rw [recordFault_hold, hreads.hold]
    have hpins : (recordFault (.port p) .fixedFields x (readWords x [.state, .holds] s).2).pinTable = s.pinTable := by
      rw [recordFault_pinTable, hreads.pinTable]
    have hstore : (recordFault (.port p) .fixedFields x (readWords x [.state, .holds] s).2).store = s.store := by
      rw [recordFault_store, hreads.store]
    have hp : (readWords x [.state, .holds] s).2.port p = s.port p := by simp only [State.port, hreads.ports]
    rw [hp] at hport
    generalize recordFault (.port p) .fixedFields x (readWords x [.state, .holds] s).2 = u at *
    have hfound' := hfound.replied (p := p) .faulted (bucketFields key u)
    obtain ⟨g1, g2, g3, g4, g5, g6⟩ := hfound'
    refine ⟨g1, g2, g3, g4, g5, g6, ?_, by simpa using hch, by simpa using hhold, by simpa using hpins, by simpa using hstore⟩
    have hfields : bucketFields key (finishJob (reply p .faulted (bucketFields key u) u)) = bucketFields key u := by
      simp only [bucketFields, State.faultedInBucket, State.isFaulted, finishJob_engine, reply_engine]
    rw [hfields, finishJob_port, reply_of_service p v .faulted _ u (hport.service.trans h.1), answered, port_setPort, if_pos rfl,
      hport.replies]

end Sys2Proof.Machine
end

-- ==== Proofs: QUEUE_CUE and STOP_CHANNEL ====
section
/-! QUEUE_CUE and STOP_CHANNEL of the bound port (R75, R85 to R87), and how STOPPING ends (R86, R127). -/

namespace Sys2Proof.Machine

/-! ### Requests of the bound port -/

section Requests
variable {s u : State} {p : PortId} {v : Service} {r : Request} {c : ChannelId}

theorem onBound_of_bound {field : Byte} (hf : field.toNat = c.val) (hp : (s.channel c).port = some p) (work : ChannelId → State) :
    onBound p field work s = work c := by
  have hlt : field.toNat < 8 := by omega
  have hc : (⟨field.toNat, hlt⟩ : ChannelId) = c := Fin.ext hf
  rw [onBound, onChannel, dif_pos hlt, hc, if_pos hp]

/-- A request is answered after an operation that no more than sends notices and raises causes. -/
theorem replied_after (h : Serves s p v r) (ha : Alerted s u) (code : ReplyCode) (fields : List Field) :
    ((reply p code fields u).port p).service = none ∧ ((reply p code fields u).port p).replies =
      (s.port p).replies ++ [{ kind := v.kind, tag := v.tag, code := code, fields := fields }] := by
  have hp := ha.notified p
  rw [reply_of_service p v code fields u (hp.service.trans h.1), answered, port_setPort, if_pos rfl]
  exact ⟨rfl, by rw [hp.replies]⟩

/-- Settling and answering leave memory, the engine, the hold unit, the pins, the timing settings and the queue of commands alone. -/
theorem sameElsewhere_settle (c : ChannelId) (code : ReplyCode) (fields : List Field) (hm : u.memory = s.memory := by rfl)
    (he : u.engine = s.engine := by rfl) (hh : u.hold = s.hold := by rfl) (hp : u.pinTable = s.pinTable := by rfl)
    (ht : u.timing = s.timing := by rfl) (hq : u.pending = s.pending := by rfl) :
    SameElsewhere s (reply p code fields (settle c u)) := by
  refine ⟨?_, ?_, ?_, ?_, ?_, ?_⟩ <;> simp [*]

/-- A reply leaves every port's notices. -/
theorem reached_reply {n : Notice} {q : PortId} (code : ReplyCode) (fields : List Field) (h : Reached n q u) :
    Reached n q (reply p code fields u) := by
  cases hv : (u.port p).service with
  | none => rw [reply_of_none p code fields u hv]; exact h
  | some v =>
    rw [reply_of_service p v code fields u hv, answered, Reached, port_setPort]
    split
    · next e => subst e; exact h
    · exact h

end Requests

/-! ### The port and the queue under settling -/

/-- Two channels have the same bound port and the same queue. -/
def Channel.SameBinding (x y : Channel) : Prop := y.port = x.port ∧ y.queue = x.queue

theorem Channel.SameBinding.refl (x : Channel) : x.SameBinding x := ⟨rfl, rfl⟩

theorem Channel.SameBinding.trans {x y z : Channel} (h : x.SameBinding y) (g : y.SameBinding z) : x.SameBinding z :=
  ⟨g.1.trans h.1, g.2.trans h.2⟩

theorem Channel.Tended.sameBinding {x y : Channel} (h : x.Tended y) : x.SameBinding y := ⟨h.port, h.queue⟩

section Settling
variable (s : State) (c : ChannelId)

theorem goOn_sameBinding : (s.channel c).SameBinding ((goOn c s).channel c) := by
  rw [goOn_channel, if_pos rfl]; exact ⟨rfl, rfl⟩

theorem endCue_sameBinding (status : CueStatus) : (s.channel c).SameBinding ((endCue c status s).channel c) := by
  cases h : (s.channel c).current with
  | none => rw [endCue_of_none s c status h]; exact .refl _
  | some cur =>
    rw [endCue_channel s c c status (by rw [h]; rfl), if_pos rfl]
    exact ⟨by simp, by simp⟩

theorem finishCue_sameBinding : (s.channel c).SameBinding ((finishCue c s).channel c) := by
  unfold finishCue
  dsimp only
  split
  · split
    · exact .refl _
    · split
      · exact (endCue_sameBinding s c _).trans (goOn_sameBinding _ c)
      · split
        · exact endCue_sameBinding s c _
        · exact .refl _
  · exact .refl _

theorem stoppingEnd_sameBinding : (s.channel c).SameBinding ((stoppingEnd c s).channel c) := by
  unfold stoppingEnd
  dsimp only
  split
  · split
    · exact goOn_sameBinding s c
    · split
      · exact (endCue_sameBinding s c _).trans (goOn_sameBinding _ c)
      · rw [notifyBound_channel, keepRemainder_channel, if_pos rfl]; exact ⟨by simp, by simp⟩
  · exact .refl _

/-- A channel keeps its port and its queue while it settles. -/
theorem settle_sameBinding : (s.channel c).SameBinding ((settle c s).channel c) := by
  rw [settle_channel, settleChannel]
  exact (releaseBuffers_tended s c).sameBinding.trans <| (finishCue_sameBinding _ c).trans <| (issueAll_tended _ c).sameBinding.trans <|
    (assemble_tended _ c).sameBinding.trans <| (stoppingEnd_sameBinding _ c).trans (presentJob_tended _ c).sameBinding

/-! ### A channel in STOPPING -/

variable {s c}

theorem issueAll_of_not_delivering (h : (s.channel c).delivering = false) : issueAll c s = s := by
  have hone : issueOne c s = s := by
    unfold issueOne
    dsimp only
    split
    · rw [if_pos (by simp [h])]
    · rfl
  rw [issueAll, hone, hone, hone, hone]

theorem assemble_of_message (h : (s.channel c).message.isSome = true) : assemble c s = s := by
  unfold assemble
  dsimp only
  split
  · next hm => rw [hm] at h; cases h
  · rfl

theorem not_delivering_of_stopping {ch : Channel} (h : ch.state = .stopping) : ch.delivering = false := by
  simp [Channel.delivering, h]

theorem releaseBuffers_message : ((releaseBuffers c s).channel c).message = (s.channel c).message := by
  unfold releaseBuffers
  dsimp only
  split
  · rfl
  · rw [channel_setChannel, if_pos rfl]

/-- A channel in STOPPING that holds a message waits for its credit (R86). -/
theorem settle_of_message (hs : (s.channel c).state = .stopping) (hm : (s.channel c).message.isSome = true) :
    (s.channel c).Tended ((settle c s).channel c) ∧ ((settle c s).channel c).message = (s.channel c).message := by
  have hr := releaseBuffers_tended s c
  have hm' : ((releaseBuffers c s).channel c).message.isSome = true := by rw [releaseBuffers_message]; exact hm
  have hdel : ((releaseBuffers c s).channel c).delivering = false := hr.delivering.trans (not_delivering_of_stopping hs)
  have e : settleChannel c s = presentJob c (releaseBuffers c s) := by
    rw [settleChannel, finishCue_of_due _ c (.inl hm'), issueAll_of_not_delivering hdel, assemble_of_message hm',
      stoppingEnd_of_awaiting _ c (.inr (.inl hm'))]
  rw [settle_channel, e]
  exact ⟨hr.trans (presentJob_tended _ c), (presentJob_keeps _ c).2.2.trans releaseBuffers_message⟩

/-- A channel in STOPPING with no cue that awaits the answer of a resolution stays as it is (R87). -/
theorem settle_of_resolution (hn : (s.channel c).current = none) {j : ChannelJob} (hj : (s.channel c).job = some j)
    (hr : j.isResolution = true) : (settle c s).channel c = s.channel c := by
  have e : settleChannel c s = s := by
    rw [settleChannel_of_no_cue s c hn, stoppingEnd_of_awaiting s c (.inr (.inr (.inl (by simp [hj, hr])))),
      presentJob_of_job s c (by simp [hj])]
  rw [settle_channel, e]

/-- STOPPING is at its end: nothing is held, awaited or in flight (R86). -/
structure Channel.AtEnd (ch : Channel) : Prop where
  state : ch.state = .stopping
  message : ch.message = none
  job : ch.job = none ∨ ch.job = some .disengage
  buffers : ∀ b, (ch.buffer b).isInFlight = false

theorem Channel.AtEnd.not_any {ch : Channel} (h : ch.AtEnd) : (ch.state = .stopping && ch.message.isNone &&
    !(ch.job.any ChannelJob.isResolution) && !(ch.buffers.toList.any Buffer.isInFlight)) = true := by
  have hb : ch.buffers.toList.any Buffer.isInFlight = false := by
    rw [List.any_eq_false]
    intro b hb
    obtain ⟨i, rfl⟩ := (mem_toList_iff _ _).1 hb
    simpa [Channel.buffer] using h.buffers i
  have hj : ch.job.any ChannelJob.isResolution = false := by
    rcases h.job with e | e <;> rw [e] <;> rfl
  simp [h.state, h.message, hb, hj]

/-- STOPPING that is at its end with no cue (R86). -/
theorem stoppingEnd_without_cue (h : (s.channel c).AtEnd) (hn : (s.channel c).current = none) : stoppingEnd c s = goOn c s := by
  unfold stoppingEnd
  dsimp only
  rw [if_pos h.not_any, hn]

/-- STOPPING that is at its end with a cue (R86, R127). -/
theorem stoppingEnd_with_cue (h : (s.channel c).AtEnd) {cur : CurrentCue} (hc : (s.channel c).current = some cur) :
    stoppingEnd c s = if cur.muted then goOn c (endCue c .cut s)
      else notifyBound c (.channelStopped (some (cur.tag, cur.next))) (keepRemainder c s) := by
  unfold stoppingEnd
  dsimp only
  rw [if_pos h.not_any, hc]

/-- A channel in STOPPING with nothing left becomes STOPPED and says so (R86). -/
theorem settle_atEnd_without_cue (h : (s.channel c).AtEnd) (hn : (s.channel c).current = none) :
    ((settle c s).channel c).state = .stopped ∧
      ∀ p, (s.channel c).port = some p → Reached (.channelStopped none) p (settle c s) := by
  have e : settleChannel c s = presentJob c (goOn c s) := by rw [settleChannel_of_no_cue s c hn, stoppingEnd_without_cue h hn]
  refine ⟨?_, fun p hp => ?_⟩
  · rw [settle_channel, e, (presentJob_tended _ c).state, goOn_channel, if_pos rfl]
    simp [Channel.wentOn, Channel.nextState, h.state]
  · rw [settle, e]
    exact ((presentJob_local _ c).alerted.trans (grantAll_alerted _)).notified.reached (goOn_reached_stopped h.state hp)

/-! ### The frames of a channel in STOPPING -/

/-- A frame whose blocks are not buffered is absent, and so is one past the runs, or one of a muted cue (R86, R88, R127). -/
theorem framePresence_absent {ch : Channel} {cur : CurrentCue} {frame : Nat} (hs : ch.state = .stopping)
    (h : cur.muted = true ∨ ch.runOf frame = none ∨ ∀ b, ch.buffer b = .free) : framePresence ch cur frame = .absent := by
  have hdel := not_delivering_of_stopping hs
  unfold framePresence
  split
  · simp [hdel]
  · next hm =>
    split
    · rfl
    · next run hrun =>
      have hfree : ∀ b, ch.buffer b = .free := by
        rcases h with h | h | h
        · exact absurd h hm
        · rw [hrun] at h; cases h
        · exact h
      have hnone : ∀ start n, ch.bufferFor start n = none := fun start n => by
        rw [Channel.bufferFor, List.find?_eq_none]
        intro b hb
        obtain ⟨i, rfl⟩ := (mem_toList_iff _ _).1 hb
        rw [show rowGet ch.buffers i = .free from hfree i]
        simp [Buffer.place]
      split
      · simp [hdel]
      · simp [hnone, blockPresence]

theorem assemble_of_absent {cur : CurrentCue} (hc : (s.channel c).current = some cur)
    (h : framePresence (s.channel c) cur cur.next = .absent) : assemble c s = s := by
  have hkinds : ∀ n, kindsFrom (s.channel c) cur cur.next n = [] := fun n => by
    cases n with
    | zero => rfl
    | succ n => simp [kindsFrom, h]
  unfold assemble
  dsimp only
  split
  · next cur' hc' hm =>
    rw [hc] at hc'
    cases hc'
    simp [nextMessage, hkinds]
  · rfl

/-! ### The end of STOPPING with a cue -/

/-- The buffers of a channel once those whose last frame has been sent are free (R79): each as it was, or free. -/
theorem releaseBuffers_buffer (b : BufferId) : ((releaseBuffers c s).channel c).buffer b = (s.channel c).buffer b ∨
    ((releaseBuffers c s).channel c).buffer b = .free := by
  unfold releaseBuffers
  dsimp only
  split
  · exact .inl rfl
  · rw [channel_setChannel, if_pos rfl]
    simp only [Channel.buffer, rowGet_map]
    split
    · split
      · exact .inr rfl
      · exact .inl rfl
    · split
      · exact .inr rfl
      · exact .inl rfl
    · exact .inl rfl

theorem releaseBuffers_keeps : ((releaseBuffers c s).channel c).runs = (s.channel c).runs ∧
    ((releaseBuffers c s).channel c).job = (s.channel c).job := by
  unfold releaseBuffers
  dsimp only
  split
  · exact ⟨rfl, rfl⟩
  · rw [channel_setChannel, if_pos rfl]; exact ⟨rfl, rfl⟩

theorem drainBuffer_of_not_inFlight (requests : List BlockRequest) (b : BufferId) {x : Buffer} (h : x.isInFlight = false) :
    drainBuffer requests c b x = .free := by
  cases x with
  | inFlight | draining => cases h
  | free | filled | concealed => rfl

/-- What STOPPING leaves of a channel whose cue has a frame still due that is not on hand (R86, R127): `x` is the channel before. -/
structure StoppedWith (x : Channel) (cur : CurrentCue) (c : ChannelId) (t : State) : Prop where
  state : (t.channel c).state = .stopped
  runs : (t.channel c).runs = []
  message : (t.channel c).message = none
  buffers : ∀ b, (t.channel c).buffer b = .free
  remainder : cur.muted = false → (t.channel c).current = some { cur with crossing := none } ∧
    ∀ p, x.port = some p → Reached (.channelStopped (some (cur.tag, cur.next))) p t
  cut : cur.muted = true → (t.channel c).current = none ∧ (t.channel c).job = some .disengage ∧ ∀ p, x.port = some p →
    Reached (.cueEnded cur.tag .cut cur.delivered cur.gap cur.concealed) p t ∧ Reached (.channelStopped none) p t

/-- A cue that ends says so (R83). -/
theorem endCue_reached {status : CueStatus} {cur : CurrentCue} (hc : (s.channel c).current = some cur) {p : PortId}
    (hp : (s.channel c).port = some p) :
    Reached (.cueEnded cur.tag status cur.delivered cur.gap cur.concealed) p (endCue c status s) := by
  unfold endCue
  rw [hc]
  have h := notifyBound_reached s c (.cueEnded cur.tag status cur.delivered cur.gap cur.concealed) p hp
  exact ((letGo_local _ c).alerted.trans (setChannel_local _ c _).alerted).notified.reached h

/-- A notice that has reached its port before a channel presents its job is there when it has settled. -/
theorem reached_settled {n : Notice} {p : PortId} (h : Reached n p s) : Reached n p (grantAll (presentJob c s)) :=
  ((presentJob_local s c).alerted.trans (grantAll_alerted _)).notified.reached h

/-- The end of STOPPING, once nothing is held, awaited or in flight (R86, R127). -/
theorem stoppedWith (h : (s.channel c).AtEnd) {cur : CurrentCue} (hc : (s.channel c).current = some cur) :
    StoppedWith (s.channel c) cur c (grantAll (presentJob c (stoppingEnd c s))) := by
  have hbuf : ∀ b, ((s.channel c).drained s.store.requests c).buffer b = .free := fun b => by
    rw [drained_buffer, drainBuffer_of_not_inFlight _ b (h.buffers b)]
  have tended := fun u => presentJob_tended u c
  have keeps := fun u => presentJob_keeps u c
  cases hm : cur.muted with
  | false =>
    have e : stoppingEnd c s = notifyBound c (.channelStopped (some (cur.tag, cur.next))) (keepRemainder c s) := by
      rw [stoppingEnd_with_cue h hc, hm]; rfl
    rw [e]
    have hch : (notifyBound c (.channelStopped (some (cur.tag, cur.next))) (keepRemainder c s)).channel c =
        { ((s.channel c).drained s.store.requests c).dropped with state := .stopped, current := some { cur with crossing := none } } := by
      rw [notifyBound_channel, keepRemainder_channel, if_pos rfl, hc]; rfl
    have hreach : ∀ p, (s.channel c).port = some p → Reached (.channelStopped (some (cur.tag, cur.next))) p
        (notifyBound c (.channelStopped (some (cur.tag, cur.next))) (keepRemainder c s)) := fun p hp => by
      refine notifyBound_reached _ c _ p ?_
      rw [keepRemainder_channel, if_pos rfl]
      simpa using hp
    generalize notifyBound c (.channelStopped (some (cur.tag, cur.next))) (keepRemainder c s) = u at *
    obtain ⟨hb, hr, hmsg⟩ := keeps u
    refine ⟨?_, ?_, ?_, fun b => ?_, fun _ => ⟨?_, fun p hp => reached_settled (hreach p hp)⟩,
      fun hf => absurd (hm.symm.trans hf) Bool.false_ne_true⟩
    · rw [grantAll_channel, (tended u).state, hch]
    · rw [grantAll_channel, hr, hch, dropped_runs]
    · rw [grantAll_channel, hmsg, hch, dropped_message]
    · rw [grantAll_channel, Channel.buffer, hb, hch]
      simp only [dropped_buffers]
      exact hbuf b
    · rw [grantAll_channel, (tended u).current, hch]
  | true =>
    have e : stoppingEnd c s = goOn c (endCue c .cut s) := by rw [stoppingEnd_with_cue h hc, hm]; rfl
    rw [e]
    have hend : (endCue c .cut s).channel c = ((s.channel c).drained s.store.requests c).cueOver := by
      rw [endCue_channel s c c .cut (by simp [hc]), if_pos rfl]
    have hch : (goOn c (endCue c .cut s)).channel c = ((s.channel c).drained s.store.requests c).cueOver.wentOn := by
      rw [goOn_channel, if_pos rfl, hend]
    have hcut : ∀ p, (s.channel c).port = some p →
        Reached (.cueEnded cur.tag .cut cur.delivered cur.gap cur.concealed) p (goOn c (endCue c .cut s)) := fun p hp =>
      (goOn_local _ c).alerted.notified.reached (endCue_reached hc hp)
    have hstop : ∀ p, (s.channel c).port = some p → Reached (.channelStopped none) p (goOn c (endCue c .cut s)) := fun p hp =>
      goOn_reached_stopped (by rw [hend]; simpa using h.state) (by rw [hend]; simpa using hp)
    generalize goOn c (endCue c .cut s) = u at *
    obtain ⟨hb, hr, hmsg⟩ := keeps u
    have hjob : ((presentJob c u).channel c).job = some .disengage := by
      have hj : (u.channel c).job = (s.channel c).job.map ChannelJob.discarded := by rw [hch]; simp [Channel.wentOn]
      rcases h.job with e | e
      · exact presentJob_disengages u c (by rw [hj, e]; rfl) (by rw [hch]; rfl)
      · rw [presentJob_of_job u c (by rw [hj, e]; simp), hj, e]; rfl
    refine ⟨?_, ?_, ?_, fun b => ?_, fun hf => absurd (hf.symm.trans hm) Bool.false_ne_true,
      fun _ => ⟨?_, ?_, fun p hp => ⟨reached_settled (hcut p hp), reached_settled (hstop p hp)⟩⟩⟩
    · rw [grantAll_channel, (tended u).state, hch]
      simp [Channel.wentOn, Channel.nextState, h.state]
    · rw [grantAll_channel, hr, hch]; simp [Channel.wentOn]
    · rw [grantAll_channel, hmsg, hch]; simp [Channel.wentOn]
    · rw [grantAll_channel, Channel.buffer, hb, hch]
      simp only [Channel.wentOn, cueOver_buffers]
      exact hbuf b
    · rw [grantAll_channel, (tended u).current, hch]; simp [Channel.wentOn]
    · rw [grantAll_channel, hjob]

/-- A channel in STOPPING whose cue has a frame still due, not on hand, with nothing held, awaited or in flight, settles to its end
(R86). -/
theorem settle_atEnd_with_cue (h : (s.channel c).AtEnd) {cur : CurrentCue} (hc : (s.channel c).current = some cur)
    (hdue : cur.next < cur.limit)
    (hgone : cur.muted = true ∨ (s.channel c).runOf cur.next = none ∨ ∀ b, (s.channel c).buffer b = .free) :
    StoppedWith (s.channel c) cur c (settle c s) := by
  have hr := releaseBuffers_tended s c
  obtain ⟨hruns, hjob⟩ := releaseBuffers_keeps (s := s) (c := c)
  have hc' : ((releaseBuffers c s).channel c).current = some cur := hr.current.trans hc
  have hend : ((releaseBuffers c s).channel c).AtEnd := by
    refine ⟨hr.state.trans h.state, releaseBuffers_message.trans h.message, by rw [hjob]; exact h.job, fun b => ?_⟩
    rcases releaseBuffers_buffer (s := s) (c := c) b with e | e <;> rw [e]
    · exact h.buffers b
    · rfl
  have hgone' : cur.muted = true ∨ ((releaseBuffers c s).channel c).runOf cur.next = none ∨
      ∀ b, ((releaseBuffers c s).channel c).buffer b = .free := by
    refine hgone.imp_right (Or.imp (fun e => ?_) fun e b => ?_)
    · rw [Channel.runOf, Channel.deliveryRuns, hr.state, hruns]; exact e
    · exact (releaseBuffers_buffer b).elim (fun h => h.trans (e b)) id
  have e : settleChannel c s = presentJob c (stoppingEnd c (releaseBuffers c s)) := by
    rw [settleChannel, finishCue_of_due _ c (.inr fun cur' h => by rw [hc'] at h; cases h; exact hdue),
      issueAll_of_not_delivering (not_delivering_of_stopping hend.state),
      assemble_of_absent hc' (framePresence_absent hend.state hgone')]
  have hs := stoppedWith hend hc'
  rw [settle, e]
  obtain ⟨h1, h2, h3, h4, h5, h6⟩ := hs
  rw [hr.port] at h5 h6
  exact ⟨h1, h2, h3, h4, h5, h6⟩

end Settling

/-! ### The two requests -/

section TheRequests
variable {s : State} {p : PortId} {c : ChannelId}

theorem queueCue_eq (cue : Cue) (h : (s.channel c).queue.length < 16) : queueCue p cue s c =
    reply p .ok [.u8 ((s.channel c).queue.length + 1)] (settle c (s.setChannel c
      { s.channel c with
        queue := (s.channel c).queue ++ [cue]
        state := if (s.channel c).state = .idle then .running else (s.channel c).state })) := by
  have hn : ¬ Config.queueLimit ≤ (s.channel c).queue.length := Nat.not_le.2 h
  simp only [queueCue, if_neg hn, List.length_append, List.length_singleton]

/-- The store reader makes no grant where none is due (R109). -/
theorem grantAll_of_noGrantDue {u : State} (h : NoGrantDue u) : grantAll u = u := by
  unfold grantAll grantSlots
  rcases h with h | h <;> rw [h]
  cases u.freeTag <;> rfl

theorem noGrantDue_of_store {u : State} (hg : NoGrantDue s) (h : u.store = s.store) : NoGrantDue u := by
  unfold NoGrantDue State.freeTag State.nextRequest State.waitingOf State.readSlot at *
  rw [h]
  exact hg

/-- A channel with no cue that is not in STOPPING, where the store reader has no grant to make, settles by presenting its job. -/
theorem settle_of_no_cue {u : State} (hg : NoGrantDue s) (hst : u.store = s.store) (hn : (u.channel c).current = none)
    (hs : (u.channel c).state ≠ .stopping) : settle c u = presentJob c u := by
  have hstore : (presentJob c u).store = u.store := by
    rcases presentJob_cases u c with ⟨e, -⟩ | ⟨j, -, -, e⟩ <;> rw [e]
    rw [grantJob_store, setChannel_store]
  rw [settle, settleChannel_of_no_cue u c hn, stoppingEnd_of_awaiting u c (.inl hs)]
  exact grantAll_of_noGrantDue (noGrantDue_of_store hg (hstore.trans hst))

theorem presentJob_of_not_due {u : State} (h : jobDue u c = none) : presentJob c u = u := by
  rcases presentJob_cases u c with ⟨e, -⟩ | ⟨j, -, hd, -⟩
  · exact e
  · rw [h] at hd; cases hd

theorem presentJob_of_due {u : State} {j : ChannelJob} (hj : (u.channel c).job = none) (h : jobDue u c = some j) :
    presentJob c u = grantJob (u.setChannel c { u.channel c with job := some j, disengageDue := false }) := by
  rcases presentJob_cases u c with ⟨-, hd⟩ | ⟨k, -, hd, e⟩
  · rw [hd hj] at h; cases h
  · rw [h] at hd; cases hd; exact e

/-- A channel in RUNNING with no cue and a cue queued is to resolve its start (R76). -/
theorem jobDue_start {u : State} {cue : Cue} {rest : List Cue} (hd : (u.channel c).disengageDue = false)
    (hn : (u.channel c).current = none) (hq : (u.channel c).queue = cue :: rest) (hs : (u.channel c).state = .running) :
    jobDue u c = some (.start cue (u.boundRole c) (decide ((u.channel c).cutoff = .ignore)) false) := by
  simp [jobDue, hd, hn, hq, hs]

/-- A channel with no cue outside RUNNING, and no disengage due, has no job to present (R15). -/
theorem jobDue_of_no_cue {u : State} (hd : (u.channel c).disengageDue = false) (hn : (u.channel c).current = none)
    (hs : (u.channel c).state ≠ .running) : jobDue u c = none := by
  unfold jobDue
  dsimp only
  rw [hd, hn]
  cases (u.channel c).queue <;> simp [hs]

theorem boundRole_of_port {u : State} (h : (u.channel c).port = some p) : u.boundRole c = (u.port p).role := by
  rw [State.boundRole, h]

/-- A channel written in RUNNING with no cue and a cue queued presents the start resolution (R76). -/
theorem settle_set_starts {x : Channel} {cue : Cue} {rest : List Cue} (hg : NoGrantDue s) (hp : x.port = some p) (hn : x.current = none)
    (hs : x.state = .running) (hq : x.queue = cue :: rest) (hj : x.job = none) (hd : x.disengageDue = false) :
    settle c (s.setChannel c x) = grantJob (s.setChannel c
      { x with job := some (.start cue (s.port p).role (decide (x.cutoff = .ignore)) false) }) := by
  have hx : (s.setChannel c x).channel c = x := by rw [channel_setChannel, if_pos rfl]
  have hrole : (s.setChannel c x).boundRole c = (s.port p).role := by rw [boundRole_of_port (p := p) (by rw [hx]; exact hp)]; rfl
  have hdue := jobDue_start (u := s.setChannel c x) (c := c) (by rw [hx]; exact hd) (by rw [hx]; exact hn) (by rw [hx]; exact hq)
    (by rw [hx]; exact hs)
  rw [settle_of_no_cue (u := s.setChannel c x) hg rfl (by rw [hx]; exact hn) (by rw [hx, hs]; decide),
    presentJob_of_due (by rw [hx]; exact hj) hdue, hx, hrole,
    setChannel_setChannel, ← hd]

/-- A channel written outside RUNNING and STOPPING with no cue and no disengage due stays as it is written. -/
theorem settle_set_quiet {x : Channel} (hg : NoGrantDue s) (hn : x.current = none) (hr : x.state ≠ .running) (hs : x.state ≠ .stopping)
    (hd : x.disengageDue = false) : settle c (s.setChannel c x) = s.setChannel c x := by
  have hx : (s.setChannel c x).channel c = x := by rw [channel_setChannel, if_pos rfl]
  rw [settle_of_no_cue (u := s.setChannel c x) hg rfl (by rw [hx]; exact hn) (by rw [hx]; exact hs),
    presentJob_of_not_due (jobDue_of_no_cue (by rw [hx]; exact hd) (by rw [hx]; exact hn) (by rw [hx]; exact hr))]

/-- A queue request that is taken, before the channel settles (R75, R76). -/
theorem exec_queueCue {v : Service} {field : Byte} {cue : Cue} (h : Serves s p v (.queueCue field cue)) (hf : field.toNat = c.val)
    (hp : (s.channel c).port = some p) : exec (.queueCue p) s = .next (queueCue p cue s c) := by
  obtain ⟨hv, hr⟩ := h
  rw [← onBound_of_bound hf hp (queueCue p cue s)]
  show Host.Outcome.next (serveQueueCue p s) = _
  cases v
  cases hr
  simp only [serveQueueCue, hv]

theorem exec_stopChannel {v : Service} {field : Byte} (h : Serves s p v (.stopChannel field)) (hf : field.toNat = c.val)
    (hp : (s.channel c).port = some p) : exec (.stopChannel p) s = .next (stopChannel p s c) := by
  obtain ⟨hv, hr⟩ := h
  rw [← onBound_of_bound hf hp (stopChannel p s)]
  show Host.Outcome.next (serveStopChannel p s) = _
  cases v
  cases hr
  simp only [serveStopChannel, hv]

/-! ### Entering STOPPING -/

/-- The part with a channel in STOPPING, before it settles (R85, R87, R116). -/
def enterStopping (c : ChannelId) (s : State) : State :=
  let t := endRetries c (enterState c .stopping s)
  t.setChannel c { t.channel c with job := (t.channel c).job.map ChannelJob.discarded }

theorem stopChannel_eq (p : PortId) (s : State) (c : ChannelId) : stopChannel p s c =
    if (s.channel c).delivering then reply p .ok [] (settle c (enterStopping c s)) else wrongState p c s := rfl

/-- Each buffer of a channel as it was, or free. -/
def BuffersEased (old new : Vector Buffer 4) : Prop := ∀ b, rowGet new b = rowGet old b ∨ rowGet new b = .free

/-- Requests that wait for a retry and end free their buffers, and change nothing else of their channel (R116). -/
theorem endRetries_buffers : ∃ buffers, (endRetries c s).channel c = { s.channel c with buffers := buffers } ∧
    BuffersEased (s.channel c).buffers buffers := by
  refine foldl_keeps (P := fun t => ∃ buffers, t.channel c = { s.channel c with buffers := buffers } ∧
    BuffersEased (s.channel c).buffers buffers) _ (fun t b h => ?_) _ _ ⟨_, rfl, fun _ => .inl rfl⟩
  dsimp only
  split
  · split
    · obtain ⟨buffers, hc, hb⟩ := h
      refine ⟨rowSet buffers b .free, ?_, fun d => ?_⟩
      · simp only [endMissing, channel_setChannel, if_true, forgetRequest_channel, hc, Channel.withBuffer]
      · rw [rowGet_rowSet]
        split
        · exact .inr rfl
        · exact hb d
    · exact h
  · exact h

theorem enterStopping_channel : ∃ buffers, (enterStopping c s).channel c =
      { s.channel c with state := .stopping, job := (s.channel c).job.map ChannelJob.discarded, buffers := buffers } ∧
    BuffersEased (s.channel c).buffers buffers := by
  obtain ⟨buffers, hc, hb⟩ := endRetries_buffers (s := enterState c .stopping s) (c := c)
  simp only [enterState, channel_setChannel, if_true] at hc hb
  refine ⟨buffers, ?_, hb⟩
  simp only [enterStopping, enterState, channel_setChannel, if_true, hc]

theorem enterStopping_local : Local c s (enterStopping c s) :=
  (setChannel_local s c _).trans ((endRetries_local _ c).trans (setChannel_local _ c _))

/-- The buffers of a channel whose retries have ended: none in flight where none was, and free where all were. -/
theorem BuffersEased.not_inFlight {old new : Vector Buffer 4} (h : BuffersEased old new)
    (ho : ∀ b, (rowGet old b).isInFlight = false) (b : BufferId) : (rowGet new b).isInFlight = false := by
  rcases h b with e | e <;> rw [e]
  · exact ho b
  · rfl

theorem BuffersEased.free {old new : Vector Buffer 4} (h : BuffersEased old new) (ho : ∀ b, rowGet old b = .free) (b : BufferId) :
    rowGet new b = .free := (h b).elim (fun e => e.trans (ho b)) id

/-- A frame that no run of a channel holds is in no run that it delivers from in STOPPING (R88). -/
theorem runOf_stopping_none {ch x : Channel} {frame : Nat} (hr : x.runs = ch.runs) (hs : x.state = .stopping)
    (hd : ch.delivering = true) (h : ch.runOf frame = none) : x.runOf frame = none := by
  have hall : ch.deliveryRuns = ch.runs := if_neg fun e => by rw [not_delivering_of_stopping e] at hd; cases hd
  have htake : x.deliveryRuns = ch.runs.take 1 := by rw [Channel.deliveryRuns, if_pos hs, hr]
  rw [Channel.runOf, hall, List.find?_eq_none] at h
  rw [Channel.runOf, htake, List.find?_eq_none]
  exact fun r hm => h r (List.mem_of_mem_take hm)

end TheRequests

/-- Settles O44, by the rules for a channel that settles: with no cue it presents its job, with a message it waits for its credit, and
with nothing awaited STOPPING comes to its end. -/
theorem queueCueAndStopChannel : Obligations.QueueCueAndStopChannel := by
  refine ⟨fun p v s field cue c h hf hp hg => ⟨fun hq => ?_, fun hq => ⟨⟨_, exec_queueCue h hf hp, ?_⟩, fun hs hn hqe hj hd => ?_,
    fun hs hn hd => ?_⟩⟩, fun p v s field c h hf hp => ⟨fun hs => ?_, fun hs => ⟨_, exec_stopChannel h hf hp, ?_⟩⟩⟩
  case refine_1 =>
    rw [exec_queueCue h hf hp, queueCue, if_pos (show Config.queueLimit ≤ _ from hq), reply_of_service p v _ _ _ h.1]
  case refine_2 =>
    rw [queueCue_eq cue hq]
    obtain ⟨hsvc, hrep⟩ := replied_after h ((setChannel_local s c { s.channel c with
      queue := (s.channel c).queue ++ [cue], state := if (s.channel c).state = .idle then .running else (s.channel c).state }).alerted.trans
        (settle_alerted _ c)) .ok [.u8 ((s.channel c).queue.length + 1)]
    refine ⟨?_, hsvc, hrep, sameElsewhere_settle c _ _, fun d hd => ?_⟩
    · rw [reply_channel, (settle_sameBinding _ c).2, channel_setChannel, if_pos rfl]
    · rw [reply_channel, settle_channel_ne _ c hd, channel_setChannel, if_neg hd]
  case refine_3 =>
    rw [exec_queueCue h hf hp, queueCue_eq cue hq, if_pos hs, hqe]
    have e := settle_set_starts (p := p) (c := c) (x := { s.channel c with queue := [cue], state := .running }) hg hp hn rfl rfl hj hd
    exact congrArg Host.Outcome.next ((congrArg (reply p .ok [.u8 1]) e).trans
      (reply_of_service p v _ _ _ (by rw [State.port, grantJob_ports]; exact h.1)))
  case refine_4 =>
    have hidle : (s.channel c).state ≠ .idle := by rcases hs with e | e | e <;> rw [e] <;> decide
    have hrun : (s.channel c).state ≠ .running := by rcases hs with e | e | e <;> rw [e] <;> decide
    have hstop : (s.channel c).state ≠ .stopping := by rcases hs with e | e | e <;> rw [e] <;> decide
    rw [exec_queueCue h hf hp, queueCue_eq cue hq, if_neg hidle]
    have e := settle_set_quiet (c := c) (x := { s.channel c with queue := (s.channel c).queue ++ [cue] }) hg hn hrun hstop hd
    exact congrArg Host.Outcome.next ((congrArg (reply p .ok _) e).trans (reply_of_service p v _ _ _ (by simpa using h.1)))
  case refine_5 =>
    have hdel : (s.channel c).delivering = false := by
      rw [← Bool.not_eq_true]
      simpa [Channel.delivering] using hs
    rw [exec_stopChannel h hf hp, stopChannel_eq, hdel, if_neg Bool.false_ne_true, wrongState, reply_of_service p v _ _ _ h.1]
  case refine_6 =>
    have hdel : (s.channel c).delivering = true := by simpa [Channel.delivering] using hs
    rw [stopChannel_eq, if_pos hdel]
    have hlocal := enterStopping_local (s := s) (c := c)
    obtain ⟨hsvc, hrep⟩ := replied_after h (hlocal.alerted.trans (settle_alerted _ c)) .ok []
    have hsame : SameElsewhere s (reply p .ok [] (settle c (enterStopping c s))) := by
      refine sameElsewhere_settle c _ _ ?_ ?_ ?_ ?_ ?_ ?_ <;> simp [enterStopping, enterState]
    obtain ⟨buffers, hch, hb⟩ := enterStopping_channel (s := s) (c := c)
    generalize enterStopping c s = u at *
    refine ⟨?_, hsvc, hrep, hsame, fun d hd => ?_, fun hm => ?_, fun cue role ignore discard hn hm hj => ?_, fun hn hm hj hfl => ?_,
      fun cur hc hdue hm hj hfl hgone => ?_⟩
    · rw [reply_channel, (settle_sameBinding _ c).2, hch]
    · rw [reply_channel, settle_channel_ne _ c hd, hlocal.channel d hd]
    · obtain ⟨ht, hmsg⟩ := settle_of_message (s := u) (c := c) (by rw [hch]) (by rw [hch]; exact hm)
      rw [reply_channel]
      exact ⟨by rw [ht.state, hch], by rw [ht.current, hch], by rw [hmsg, hch]⟩
    · have e := settle_of_resolution (s := u) (c := c) (j := .start cue role ignore true) (by rw [hch]; exact hn)
        (by rw [hch]; simp [hj, ChannelJob.discarded]) rfl
      rw [reply_channel, e, hch]
      simp [hj, ChannelJob.discarded]
    · have hend : (u.channel c).AtEnd := by
        rw [hch]
        exact ⟨rfl, hm, by rcases hj with e | e <;> simp [e, ChannelJob.discarded], hb.not_inFlight hfl⟩
      obtain ⟨hst, hreach⟩ := settle_atEnd_without_cue hend (by rw [hch]; exact hn)
      exact ⟨by rw [reply_channel, hst], reached_reply _ _ (hreach p (by rw [hch]; exact hp))⟩
    · have hend : (u.channel c).AtEnd := by
        rw [hch]
        exact ⟨rfl, hm, by rcases hj with e | e <;> simp [e, ChannelJob.discarded], hb.not_inFlight hfl⟩
      have hport : (u.channel c).port = some p := by rw [hch]; exact hp
      have hw := settle_atEnd_with_cue hend (cur := cur) (by rw [hch]; exact hc) hdue (by
        rw [hch]
        exact hgone.imp_right (Or.imp (runOf_stopping_none (ch := s.channel c) rfl rfl hdel) hb.free))
      rw [reply_channel]
      refine ⟨hw.state, hw.runs, hw.message, hw.buffers, fun hmu => ?_, fun hmu => ?_⟩
      · obtain ⟨hcur, hreach⟩ := hw.remainder hmu
        exact ⟨hcur, reached_reply _ _ (hreach p hport)⟩
      · obtain ⟨hcur, hjob, hreach⟩ := hw.cut hmu
        obtain ⟨hend, hstop⟩ := hreach p hport
        exact ⟨hcur, hjob, reached_reply _ _ hend, reached_reply _ _ hstop⟩

end Sys2Proof.Machine
end

-- ==== Proofs: what a cutoff event does to a channel ====
section
/-! The hold unit's judgement of a channel, settled (R126 to R129): what each behaviour makes of the channel, and that judging the
others makes nothing of it. -/

namespace Sys2Proof.Machine

/-! ### The parts of a cutoff's effect -/

section Effect
variable {requests requests' : List BlockRequest} {ch : Channel} {cur : CurrentCue} {latches : Groups} {c : ChannelId} {t u : State}

/-- A read that a slot serves is in flight, or a resolution awaits its answer (R86, R116). -/
def Channel.Awaits (requests : List BlockRequest) (c : ChannelId) (ch : Channel) : Prop :=
  ch.job.any ChannelJob.isResolution = true ∨ ∃ b, ch.buffer b = .draining ∨
    ∃ place, ch.buffer b = .inFlight place ∧ ∃ r ∈ requests, r.channel = c ∧ r.buffer = b ∧ r.active = true

/-- A channel holds no run and no block. -/
def Channel.HoldsNothing (x : Channel) : Prop := x.runs = [] ∧ ∀ b, (x.buffer b).place = none

/-- The cue of a channel has ended CUT, with what it held (R83). -/
def CueCut (ch : Channel) (cur : CurrentCue) (c : ChannelId) (t : State) : Prop :=
  (t.channel c).current = none ∧ (t.channel c).message = none ∧ (t.channel c).HoldsNothing ∧
    (ch.job = none → (t.channel c).job = some .disengage) ∧
    ∀ q, ch.port = some q → Reached (.cueEnded cur.tag .cut cur.delivered cur.gap cur.concealed) q t

/-- A channel has stopped with no remainder, and has said so (R86). -/
def StoppedEmpty (ch : Channel) (c : ChannelId) (t : State) : Prop :=
  (t.channel c).state = .stopped ∧ ∀ q, ch.port = some q → Reached (.channelStopped none) q t

theorem cutEffect_iff : CutEffect requests ch cur latches c t ↔
    (t.channel c).port = ch.port ∧ (t.channel c).queue = ch.queue ∧
    (ch.cutoff = .stop → CueCut ch cur c t ∧ (t.channel c).state = .cut ∧ ∀ q, ch.port = some q →
      Reached (.channelCut cur.tag cur.groups cur.itemHold (decide (cur.itemHold = 1)) (groupsOf cur.groups &&& latches)) q t) ∧
    (ch.cutoff = .skip → CueCut ch cur c t ∧
      (ch.state = .running → (t.channel c).state = if ch.queue = [] then .idle else .running) ∧
      (ch.state = .halting → (t.channel c).state = .halted ∧ ∀ q, ch.port = some q → Reached .channelHalted q t) ∧
      (ch.state = .stopping → StoppedEmpty ch c t) ∧ (ch.state = .stopped → (t.channel c).state = .stopped)) ∧
    (ch.cutoff = .mute →
      (ch.state = .running ∨ ch.state = .halting → cur.next < cur.limit →
        (t.channel c).state = ch.state ∧ (t.channel c).current = some { cur with muted := true } ∧ (t.channel c).HoldsNothing ∧
          ∀ m, (t.channel c).message = some m → m.hasCutoff = true) ∧
      (ch.state = .stopping → cur.next < cur.limit →
        (¬ ch.Awaits requests c → CueCut ch cur c t ∧ StoppedEmpty ch c t) ∧
        (ch.Awaits requests c → (t.channel c).state = .stopping ∧ (t.channel c).current = some { cur with muted := true } ∧
          (t.channel c).HoldsNothing ∧ (t.channel c).message = none)) ∧
      (ch.state = .stopped → CueCut ch cur c t ∧ (t.channel c).state = .stopped)) := Iff.rfl

/-- A cutoff's effect depends on the requests of its own channel alone. -/
theorem CutEffect.of_requests (h : CutEffect requests ch cur latches c t)
    (hr : ∀ r : BlockRequest, r.channel = c → (r ∈ requests ↔ r ∈ requests')) : CutEffect requests' ch cur latches c t := by
  have e : ch.Awaits requests c = ch.Awaits requests' c := by
    refine propext (or_congr Iff.rfl (exists_congr fun b => or_congr Iff.rfl (exists_congr fun place => and_congr Iff.rfl ?_)))
    exact exists_congr fun r => ⟨fun ⟨hm, hc, h⟩ => ⟨(hr r hc).1 hm, hc, h⟩, fun ⟨hm, hc, h⟩ => ⟨(hr r hc).2 hm, hc, h⟩⟩
  rw [cutEffect_iff, e] at h
  exact cutEffect_iff.2 h

/-- What has reached a port in one state has reached it in another. -/
def KeepsReached (t u : State) : Prop := ∀ n q, Reached n q t → Reached n q u

theorem Alerted.keepsReached (h : Alerted t u) : KeepsReached t u := fun _ _ => h.notified.reached

theorem CueCut.after (h : CueCut ch cur c t) (hc : u.channel c = t.channel c) (ha : KeepsReached t u) : CueCut ch cur c u := by
  obtain ⟨h1, h2, h3, h4, h5⟩ := h
  rw [← hc] at h1 h2 h3 h4
  exact ⟨h1, h2, h3, h4, fun q hq => ha _ q (h5 q hq)⟩

theorem StoppedEmpty.after (h : StoppedEmpty ch c t) (hc : u.channel c = t.channel c) (ha : KeepsReached t u) : StoppedEmpty ch c u :=
  ⟨(congrArg Channel.state hc).trans h.1, fun q hq => ha _ q (h.2 q hq)⟩

/-- A cutoff's effect stands after what leaves its channel alone. -/
theorem CutEffect.after (h : CutEffect requests ch cur latches c t) (hc : u.channel c = t.channel c) (ha : KeepsReached t u) :
    CutEffect requests ch cur latches c u := by
  obtain ⟨hport, hqueue, hstop, hskip, hmute⟩ := cutEffect_iff.1 h
  rw [← hc] at hport hqueue hstop hskip hmute
  refine cutEffect_iff.2 ⟨hport, hqueue, fun e => ?_, fun e => ?_, fun e => ?_⟩
  · obtain ⟨h1, h2, h3⟩ := hstop e
    exact ⟨h1.after hc ha, h2, fun q hq => ha _ q (h3 q hq)⟩
  · obtain ⟨h1, h2, h3, h4, h5⟩ := hskip e
    exact ⟨h1.after hc ha, h2, fun e => ⟨(h3 e).1, fun q hq => ha _ q ((h3 e).2 q hq)⟩, fun e => (h4 e).after hc ha, h5⟩
  · obtain ⟨h1, h2, h3⟩ := hmute e
    refine ⟨h1, fun e hd => ⟨fun hw => ?_, (h2 e hd).2⟩, fun e => ⟨(h3 e).1.after hc ha, (h3 e).2⟩⟩
    obtain ⟨h4, h5⟩ := (h2 e hd).1 hw
    exact ⟨h4.after hc ha, h5.after hc ha⟩

end Effect

/-! ### A channel that holds nothing -/

section Settling
variable {s : State} {c : ChannelId}

theorem drainBuffer_place (requests : List BlockRequest) (c : ChannelId) (b : BufferId) (x : Buffer) :
    (drainBuffer requests c b x).place = none := by
  cases x with
  | inFlight => simp only [drainBuffer]; split <;> rfl
  | draining | free | filled | concealed => rfl

theorem drainBuffer_inFlight (requests : List BlockRequest) (c : ChannelId) (b : BufferId) (x : Buffer) :
    (drainBuffer requests c b x).isInFlight = true ↔ x = .draining ∨
      ∃ place, x = .inFlight place ∧ ∃ r ∈ requests, r.channel = c ∧ r.buffer = b ∧ r.active = true := by
  cases x with
  | inFlight place =>
    simp only [drainBuffer]
    split
    · next h => simpa [Buffer.isInFlight, BlockRequest.isOf, and_assoc] using h
    · next h => simpa [Buffer.isInFlight, BlockRequest.isOf, and_assoc] using h
  | draining | free | filled | concealed => simp [drainBuffer, Buffer.isInFlight]

theorem releaseBuffers_of_no_place (h : ∀ b, ((s.channel c).buffer b).place = none) : releaseBuffers c s = s := by
  unfold releaseBuffers
  dsimp only
  split
  · rfl
  · next cur hc =>
    rw [show Vector.map _ (s.channel c).buffers = (s.channel c).buffers from ?_]
    · exact setChannel_channel s c
    · refine Vector.ext fun i hi => ?_
      have hb : ((s.channel c).buffers[i]).place = none := h ⟨i, hi⟩
      rw [Vector.getElem_map]
      cases hx : (s.channel c).buffers[i] with
      | filled p => rw [hx] at hb; cases hb
      | concealed p => rw [hx] at hb; cases hb
      | free | draining | inFlight => rfl

theorem issueAll_of_no_runs (h : (s.channel c).runs = []) : issueAll c s = s := by
  have hone : issueOne c s = s := by
    unfold issueOne
    dsimp only
    rw [h]
    split
    · split <;> rfl
    · rfl
  rw [issueAll, hone, hone, hone, hone]

/-- A channel that holds nothing of a cue with frames still due settles by assembling a message, ending STOPPING and presenting its job. -/
theorem settleChannel_of_holdsNothing {cur : CurrentCue} (hc : (s.channel c).current = some cur) (hdue : cur.next < cur.limit)
    (h : (s.channel c).HoldsNothing) : settleChannel c s = presentJob c (stoppingEnd c (assemble c s)) := by
  rw [settleChannel, releaseBuffers_of_no_place h.2,
    finishCue_of_due _ c (.inr fun cur' e => by rw [hc] at e; cases e; exact hdue), issueAll_of_no_runs h.1]

theorem assemble_keeps : ((assemble c s).channel c).runs = (s.channel c).runs ∧
    ((assemble c s).channel c).buffers = (s.channel c).buffers := by
  unfold assemble
  dsimp only
  split
  · split
    · rw [channel_setChannel, if_pos rfl]; exact ⟨rfl, rfl⟩
    · exact ⟨rfl, rfl⟩
  · exact ⟨rfl, rfl⟩

/-- The frames of a muted cue carry cutoff silence (R127). -/
theorem kindsFrom_muted {ch : Channel} {cur : CurrentCue} (hm : cur.muted = true) (frame n : Nat) :
    ∀ k ∈ kindsFrom ch cur frame n, k = .cutoff := by
  induction n generalizing frame with
  | zero => simp [kindsFrom]
  | succ n ih =>
    rw [kindsFrom, framePresence, if_pos hm]
    cases ch.delivering
    · simp
    · simpa using ih (frame + 1)

/-- A message assembled of a muted cue is marked so (R127). -/
theorem assemble_muted {cur : CurrentCue} (hc : (s.channel c).current = some cur) (hm : cur.muted = true)
    (hn : (s.channel c).message = none) {m : Message} (h : ((assemble c s).channel c).message = some m) : m.hasCutoff = true := by
  unfold assemble at h
  dsimp only at h
  rw [hc, hn] at h
  dsimp only at h
  split at h
  · next kinds hk =>
    rw [channel_setChannel, if_pos rfl] at h
    cases h
    have hall : kinds ≠ [] ∧ ∀ k ∈ kinds, k = .cutoff := by
      unfold nextMessage at hk
      dsimp only at hk
      have hcut := kindsFrom_muted (ch := s.channel c) hm cur.next (min Config.messageFrames (cur.limit - cur.next))
      split at hk
      · cases hk
      · next hne => split at hk <;> [skip; split at hk] <;> cases hk <;> exact ⟨hne, hcut⟩
    obtain ⟨k, rest, rfl⟩ := List.exists_cons_of_ne_nil hall.1
    simp [buildMessage, hall.2 k (by simp)]
  · rw [hn] at h; cases h

/-- A playing channel whose muted cue has frames still due goes on to deliver cutoff silence (R127). -/
theorem settle_muted_playing {cur : CurrentCue} (hs : (s.channel c).state ≠ .stopping) (hc : (s.channel c).current = some cur)
    (hm : cur.muted = true) (hdue : cur.next < cur.limit) (h : (s.channel c).HoldsNothing) (hn : (s.channel c).message = none) :
    (s.channel c).Tended ((settleChannel c s).channel c) ∧ ((settleChannel c s).channel c).HoldsNothing ∧
      ∀ m, ((settleChannel c s).channel c).message = some m → m.hasCutoff = true := by
  have ht := assemble_tended s c
  have e : settleChannel c s = presentJob c (assemble c s) := by
    rw [settleChannel_of_holdsNothing hc hdue h, stoppingEnd_of_awaiting _ c (.inl (by rw [ht.state]; exact hs))]
  obtain ⟨hb, hr, hmsg⟩ := presentJob_keeps (assemble c s) c
  obtain ⟨hr', hb'⟩ := assemble_keeps (s := s) (c := c)
  rw [e]
  refine ⟨ht.trans (presentJob_tended _ c), ⟨by rw [hr, hr', h.1], fun b => ?_⟩, fun m hm' => ?_⟩
  · rw [Channel.buffer, hb, hb']; exact h.2 b
  · exact assemble_muted hc hm hn (hmsg.symm.trans hm')

/-- A channel in STOPPING whose muted cue has frames still due, and which awaits a read or an answer, stays in STOPPING (R127). -/
theorem settle_muted_awaiting {cur : CurrentCue} (hs : (s.channel c).state = .stopping) (hc : (s.channel c).current = some cur)
    (hm : cur.muted = true) (hdue : cur.next < cur.limit) (h : (s.channel c).HoldsNothing)
    (ha : (s.channel c).job.any ChannelJob.isResolution = true ∨ ∃ b, ((s.channel c).buffer b).isInFlight = true) :
    settleChannel c s = presentJob c s := by
  rw [settleChannel_of_holdsNothing hc hdue h, assemble_of_absent hc (framePresence_absent hs (.inl hm)),
    stoppingEnd_of_awaiting s c (.inr (.inr (ha.imp_right ?_)))]
  rintro ⟨b, hb⟩
  exact List.any_eq_true.2 ⟨_, (mem_toList_iff _ _).2 ⟨b, rfl⟩, hb⟩

/-! ### The effect of each behaviour -/

variable {cur : CurrentCue}

/-- A cue that has ended CUT, once its channel has settled (R83). -/
theorem settle_cueOver {ch : Channel} {requests : List BlockRequest} {st : ChannelState}
    (hu : s.channel c = { (ch.drained requests c).cueOver with state := st }) (hst : st ≠ .stopping)
    (hr : ∀ q, ch.port = some q → Reached (.cueEnded cur.tag .cut cur.delivered cur.gap cur.concealed) q s) :
    CueCut ch cur c (settleChannel c s) ∧ ((settleChannel c s).channel c).state = st ∧
      ((settleChannel c s).channel c).port = ch.port ∧ ((settleChannel c s).channel c).queue = ch.queue := by
  have h := settle_idles s c (by rw [hu]; rfl)
  rw [settle_channel, hu] at h
  refine ⟨⟨h.current, h.message.trans (cueOver_message _), ⟨h.runs, fun b => ?_⟩, fun hj => h.disengages (by simp [hj]) rfl,
    fun q hq => (settleChannel_local s c).alerted.notified.reached (hr q hq)⟩, h.state hst, h.port.trans (by simp), h.queue.trans (by simp)⟩
  have e : rowGet (ch.drained requests c).buffers b = drainBuffer requests c b (ch.buffer b) := drained_buffer requests c ch b
  rw [Channel.buffer, h.buffers]
  simp only [cueOver_buffers, e, drainBuffer_place]

variable (hc : (s.channel c).current = some cur)
include hc

theorem stopCue_effect (hcut : (s.channel c).cutoff = .stop) :
    CutEffect s.store.requests (s.channel c) cur s.hold.latches c (settleChannel c (stopCue c s)) := by
  have hsome : (s.channel c).current.isSome := by rw [hc]; rfl
  have hend := endCue_channel s c c .cut hsome
  rw [if_pos rfl] at hend
  have hstop : stopCue c s = notifyBound c
      (.channelCut cur.tag cur.groups cur.itemHold (decide (cur.itemHold = 1)) (groupsOf cur.groups &&& s.hold.latches))
      (enterState c .cut (endCue c .cut s)) := by rw [stopCue, hc]
  have hch := stopCue_channel s c c hsome
  rw [if_pos rfl] at hch
  obtain ⟨h1, h2, h3, h4⟩ := settle_cueOver (cur := cur) hch (by simp) fun q hq => by
    rw [hstop]
    exact ((enterState_local _ c _).trans (notifyBound_local _ c _)).alerted.notified.reached (endCue_reached hc hq)
  refine cutEffect_iff.2 ⟨h3, h4, fun _ => ⟨h1, h2, fun q hq => ?_⟩, fun e => ?_, fun e => ?_⟩
  · refine (settleChannel_local _ c).alerted.notified.reached ?_
    rw [hstop]
    refine notifyBound_reached _ c _ q ?_
    rw [enterState_channel, if_pos rfl, hend]
    simpa using hq
  · rw [hcut] at e; cases e
  · rw [hcut] at e; cases e

/-- A cutoff of a remainder, under SKIP and MUTE alike (R127, R129). -/
theorem endCue_effect (hs : (s.channel c).state = .stopped) (hcut : (s.channel c).cutoff = .skip ∨ (s.channel c).cutoff = .mute) :
    CutEffect s.store.requests (s.channel c) cur s.hold.latches c (settleChannel c (endCue c .cut s)) := by
  have hend := endCue_channel s c c .cut (by rw [hc]; rfl)
  rw [if_pos rfl] at hend
  have hu : (endCue c .cut s).channel c = { ((s.channel c).drained s.store.requests c).cueOver with state := .stopped } := by
    rw [hend]
    have e : ((s.channel c).drained s.store.requests c).cueOver.state = .stopped := by simpa using hs
    rw [← e]
  obtain ⟨h1, h2, h3, h4⟩ := settle_cueOver (cur := cur) hu (by simp) fun q hq => endCue_reached hc hq
  refine cutEffect_iff.2 ⟨h3, h4, fun e => ?_, fun _ => ⟨h1, fun e => ?_, fun e => ?_, fun e => ?_, fun _ => h2⟩, fun _ =>
    ⟨fun e => ?_, fun e => ?_, fun _ => ⟨h1, h2⟩⟩⟩
  · rw [e] at hcut; simp at hcut
  all_goals rw [hs] at e; simp at e

theorem skip_effect (hs : (s.channel c).state ≠ .stopped) (hcut : (s.channel c).cutoff = .skip) :
    CutEffect s.store.requests (s.channel c) cur s.hold.latches c (settleChannel c (goOn c (endCue c .cut s))) := by
  have hend := endCue_channel s c c .cut (by rw [hc]; rfl)
  rw [if_pos rfl] at hend
  have hch : (goOn c (endCue c .cut s)).channel c =
      { ((s.channel c).drained s.store.requests c).cueOver with state := (s.channel c).nextState } := by
    rw [goOn_channel, if_pos rfl, hend]
    simp only [Channel.wentOn, Channel.nextState, cueOver_state, cueOver_queue, drained_state, drained_queue]
  have hne : (s.channel c).nextState ≠ .stopping := by
    cases e : (s.channel c).state with
    | running => simp only [Channel.nextState, e]; split <;> simp
    | _ => simp [Channel.nextState, e]
  obtain ⟨h1, h2, h3, h4⟩ := settle_cueOver (cur := cur) hch hne fun q hq =>
    (goOn_local _ c).alerted.notified.reached (endCue_reached hc hq)
  have hset := (settleChannel_local (goOn c (endCue c .cut s)) c).alerted.notified
  have hport : ∀ q, (s.channel c).port = some q → ((endCue c .cut s).channel c).port = some q := fun q hq => by
    rw [hend]; simpa using hq
  have hstate : ((endCue c .cut s).channel c).state = (s.channel c).state := by rw [hend]; simp
  refine cutEffect_iff.2 ⟨h3, h4, fun e => ?_, fun _ => ⟨h1, fun e => ?_, fun e => ⟨?_, fun q hq => ?_⟩, fun e => ⟨?_, fun q hq => ?_⟩,
    fun e => absurd e hs⟩, fun e => ?_⟩
  · rw [hcut] at e; cases e
  · rw [h2, Channel.nextState, e]
  · rw [h2, Channel.nextState, e]
  · exact hset.reached (goOn_reached_halted (hstate.trans e) (hport q hq))
  · rw [h2, Channel.nextState, e]
  · exact hset.reached (goOn_reached_stopped (hstate.trans e) (hport q hq))
  · rw [hcut] at e; cases e

omit hc in
/-- A channel at the end of STOPPING under a muted cue ends it CUT and stops (R127). -/
theorem StoppedWith.cut_settled {x : Channel} (h : StoppedWith x cur c (settle c s)) (hm : cur.muted = true) :
    CueCut x cur c (settleChannel c s) ∧ StoppedEmpty x c (settleChannel c s) := by
  have hreach : ∀ n q, Reached n q (settle c s) → Reached n q (settleChannel c s) := fun n q hr => by
    rw [Reached, settle, State.port, grantAll_ports] at hr
    exact hr
  obtain ⟨hcur, hjob, hall⟩ := h.cut hm
  have hch := settle_channel s c c
  have hplace : ∀ b, (((settle c s).channel c).buffer b).place = none := fun b => by rw [h.buffers b]; rfl
  refine ⟨⟨?_, ?_, ⟨?_, fun b => ?_⟩, fun _ => ?_, fun q hq => hreach _ q (hall q hq).1⟩, ?_, fun q hq => hreach _ q (hall q hq).2⟩ <;>
    rw [← hch]
  · exact hcur
  · exact h.message
  · exact h.runs
  · exact hplace b
  · exact hjob
  · exact h.state

/-- A cutoff under MUTE of a channel that is not stopped (R127). -/
theorem mute_effect (hs : (s.channel c).state ≠ .stopped) (hcut : (s.channel c).cutoff = .mute) :
    CutEffect s.store.requests (s.channel c) cur s.hold.latches c (settleChannel c (muteCue c s)) := by
  have hch := muteCue_channel s c c
  rw [if_pos rfl, hc] at hch
  have hstate : ((muteCue c s).channel c).state = (s.channel c).state := by rw [hch]; simp
  have hport : ((muteCue c s).channel c).port = (s.channel c).port := by rw [hch]; simp
  have hqueue : ((muteCue c s).channel c).queue = (s.channel c).queue := by rw [hch]; simp
  have hcur : ((muteCue c s).channel c).current = some { cur with muted := true } := by rw [hch]; simp
  have hmsg : ((muteCue c s).channel c).message = none := by rw [hch]; simp
  have hjob : ((muteCue c s).channel c).job = (s.channel c).job.map ChannelJob.discarded := by rw [hch]; simp
  have hbuf : ∀ b, ((muteCue c s).channel c).buffer b = drainBuffer s.store.requests c b ((s.channel c).buffer b) := fun b => by
    rw [hch, Channel.buffer, dropped_buffers]
    exact drained_buffer ..
  have hnothing : ((muteCue c s).channel c).HoldsNothing := ⟨by rw [hch]; simp, fun b => by rw [hbuf]; exact drainBuffer_place ..⟩
  have hawaits : (s.channel c).Awaits s.store.requests c ↔ ((muteCue c s).channel c).job.any ChannelJob.isResolution = true ∨
      ∃ b, (((muteCue c s).channel c).buffer b).isInFlight = true := by
    simp only [Channel.Awaits, hbuf, drainBuffer_inFlight, hjob]
    rw [show ((s.channel c).job.map ChannelJob.discarded).any ChannelJob.isResolution = (s.channel c).job.any ChannelJob.isResolution from ?_]
    cases (s.channel c).job with
    | none => rfl
    | some j => cases j <;> rfl
  clear hch
  generalize muteCue c s = u at *
  have hbind := settle_sameBinding u c
  rw [settle_channel] at hbind
  refine cutEffect_iff.2 ⟨hbind.1.trans hport, hbind.2.trans hqueue, fun e => ?_, fun e => ?_, fun _ =>
    ⟨fun hplay hdue => ?_, fun hst hdue => ⟨fun hw => ?_, fun hw => ?_⟩, fun e => absurd e hs⟩⟩
  · rw [hcut] at e; cases e
  · rw [hcut] at e; cases e
  · have hne : (u.channel c).state ≠ .stopping := by rw [hstate]; rcases hplay with e | e <;> rw [e] <;> decide
    obtain ⟨ht, hn, hm⟩ := settle_muted_playing hne hcur rfl hdue hnothing hmsg
    exact ⟨ht.state.trans hstate, ht.current.trans hcur, hn, hm⟩
  · rw [hawaits, not_or, not_exists] at hw
    have hend : (u.channel c).AtEnd := by
      refine ⟨hstate.trans hst, hmsg, ?_, fun b => Bool.eq_false_iff.2 (hw.2 b)⟩
      cases hj : (u.channel c).job with
      | none => exact .inl rfl
      | some j =>
        cases j with
        | disengage => exact .inr rfl
        | start | segment => exact absurd (by rw [hj]; rfl) hw.1
    have h := (settle_atEnd_with_cue hend hcur hdue (.inl rfl)).cut_settled rfl
    obtain ⟨⟨h1, h2, h3, h4, h5⟩, h6, h7⟩ := h
    rw [hport] at h5 h7
    exact ⟨⟨h1, h2, h3, fun hn => h4 (by rw [hjob, hn]; rfl), h5⟩, h6, h7⟩
  · have e := settle_muted_awaiting (hstate.trans hst) hcur rfl hdue hnothing (hawaits.1 hw)
    obtain ⟨hb, hr, hm⟩ := presentJob_keeps u c
    have ht := presentJob_tended u c
    rw [e]
    exact ⟨ht.state.trans (hstate.trans hst), ht.current.trans hcur,
      ⟨hr.trans hnothing.1, fun b => by rw [Channel.buffer, hb]; exact hnothing.2 b⟩, hm.trans hmsg⟩

/-- What a cutoff event makes of a channel, once it has settled (R126 to R129). -/
theorem cutoffEvent_effect (hcut : (s.channel c).cutoff ≠ .ignore) :
    CutEffect s.store.requests (s.channel c) cur s.hold.latches c (settleChannel c (cutoffEvent c s)) := by
  unfold cutoffEvent
  dsimp only
  split
  · next e => exact absurd e hcut
  · next e => exact stopCue_effect hc e
  · next e =>
    split
    · next hs => exact endCue_effect hc hs (.inl e)
    · next hs => exact skip_effect hc hs e
  · next e =>
    split
    · next hs => exact endCue_effect hc hs (.inr e)
    · next hs => exact mute_effect hc hs e

end Settling

/-! ### Judging several channels -/

section Judging
variable {s t u : State} {c : ChannelId}

/-- An operation leaves a channel and its block requests alone, and the hold unit. -/
structure Apart (c : ChannelId) (s t : State) : Prop where
  channel : t.channel c = s.channel c
  requests : ∀ r : BlockRequest, r.channel = c → (r ∈ t.store.requests ↔ r ∈ s.store.requests)
  hold : t.hold = s.hold
  alerted : Alerted s t

theorem Apart.refl (c : ChannelId) (s : State) : Apart c s s := ⟨rfl, fun _ _ => Iff.rfl, rfl, .refl s⟩

theorem Apart.trans (h : Apart c s t) (g : Apart c t u) : Apart c s u :=
  ⟨g.channel.trans h.channel, fun r hr => (g.requests r hr).trans (h.requests r hr), g.hold.trans h.hold, h.alerted.trans g.alerted⟩

theorem Apart.cutoffDue (h : Apart c s t) : t.cutoffDue c = s.cutoffDue c := by
  simp only [State.cutoffDue, h.channel, h.hold]

/-- A channel is judged, and settles. -/
def judgeAndSettle (u : State) (c : ChannelId) : State := settleChannel c (judge c u)

theorem judgeAndSettle_apart (s : State) {c d : ChannelId} (h : c ≠ d) : Apart c s (judgeAndSettle s d) := by
  have hl := (judge_local s d).trans (settleChannel_local _ d)
  rw [judgeAndSettle]
  exact ⟨hl.channel c h, fun r hr => hl.requests r (by rw [hr]; exact h), by rw [settleChannel_hold, judge_hold], hl.alerted⟩

/-- Judging other channels leaves a channel alone. -/
theorem foldl_judge_apart (l : List ChannelId) (s : State) (h : c ∉ l) : Apart c s (l.foldl judgeAndSettle s) := by
  induction l generalizing s with
  | nil => exact .refl c s
  | cons d l ih =>
    rw [List.mem_cons, not_or] at h
    rw [List.foldl_cons]
    exact (judgeAndSettle_apart s h.1).trans (ih _ h.2)

theorem cutoffDue_iff : s.cutoffDue c = true ↔ ∃ cur, (s.channel c).current = some cur ∧ cur.held s.hold.latches = true ∧
    (s.channel c).cutoff ≠ .ignore ∧ cur.muted = false := by
  unfold State.cutoffDue
  split
  · next h => simp [h]
  · next cur h => simp [h, and_assoc]

/-- A channel that is judged among others, where it meets a cutoff event (R126). -/
theorem foldl_judge_effect {l : List ChannelId} (hl : l.Nodup) (hc : c ∈ l) (hd : s.cutoffDue c = true) {cur : CurrentCue}
    (hcur : (s.channel c).current = some cur) :
    CutEffect s.store.requests (s.channel c) cur s.hold.latches c (l.foldl judgeAndSettle s) := by
  obtain ⟨ahead, behind, rfl⟩ := List.append_of_mem hc
  obtain ⟨-, hnb, hdis⟩ := List.nodup_append'.1 hl
  have ha := foldl_judge_apart ahead s fun h => hdis h (List.mem_cons_self ..)
  rw [List.foldl_append, List.foldl_cons]
  generalize ahead.foldl judgeAndSettle s = u at *
  have hb := foldl_judge_apart behind (judgeAndSettle u c) (List.nodup_cons.1 hnb).1
  obtain ⟨-, -, -, hcut, -⟩ := cutoffDue_iff.1 hd
  have he := cutoffEvent_effect (s := u) (by rw [ha.channel]; exact hcur) (by rw [ha.channel]; exact hcut)
  have hj : judgeAndSettle u c = settleChannel c (cutoffEvent c u) := by
    rw [judgeAndSettle, judge, if_pos (ha.cutoffDue.trans hd)]
  rw [← hj, ha.channel, ha.hold] at he
  exact (he.of_requests ha.requests).after hb.channel hb.alerted.keepsReached

theorem freeOrder_perm {α : Type} (rank : α → Nat) (l : List α) (s : State) : (freeOrder rank l s).1.Perm l := by
  unfold freeOrder
  split
  · exact .refl l
  · exact List.perm_insertionSort _ l

theorem judgeChannels_eq (l : List ChannelId) (s : State) : judgeChannels l s =
    grantAll ((freeOrder Fin.val (l.filter fun c => s.cutoffDue c) s).1.foldl judgeAndSettle
      (freeOrder Fin.val (l.filter fun c => s.cutoffDue c) s).2) := rfl

theorem freeOrder_apart {α : Type} (rank : α → Nat) (l : List α) (s : State) (c : ChannelId) : Apart c s (freeOrder rank l s).2 :=
  ⟨by simp only [State.channel, freeOrder_channels], fun r _ => by rw [freeOrder_store], freeOrder_hold .., .of_eq (by simp) (by simp)⟩

/-- A channel that is not judged, or meets no cutoff event, is left as it is (R126). -/
theorem judgeChannels_channel {l : List ChannelId} (h : c ∈ l → s.cutoffDue c = false) : (judgeChannels l s).channel c = s.channel c := by
  have hn : c ∉ (freeOrder Fin.val (l.filter fun c => s.cutoffDue c) s).1 := fun hm => by
    have hm' := (freeOrder_perm Fin.val _ s).mem_iff.1 hm
    rw [List.mem_filter] at hm'
    rw [h hm'.1] at hm'
    cases hm'.2
  rw [judgeChannels_eq, grantAll_channel]
  exact ((freeOrder_apart _ _ s c).trans (foldl_judge_apart _ _ hn)).channel

/-- A channel that is judged and meets a cutoff event is cut by its behaviour (R126 to R129). -/
theorem judgeChannels_effect {l : List ChannelId} (hl : l.Nodup) (hc : c ∈ l) (hd : s.cutoffDue c = true) {cur : CurrentCue}
    (hcur : (s.channel c).current = some cur) :
    CutEffect s.store.requests (s.channel c) cur s.hold.latches c (judgeChannels l s) := by
  have hp := freeOrder_perm Fin.val (l.filter fun c => s.cutoffDue c) s
  have ha := freeOrder_apart Fin.val (l.filter fun c => s.cutoffDue c) s c
  have he := foldl_judge_effect (s := (freeOrder Fin.val (l.filter fun c => s.cutoffDue c) s).2) (c := c)
    (hp.nodup_iff.2 (hl.filter _)) (hp.mem_iff.2 (List.mem_filter.2 ⟨hc, hd⟩)) (ha.cutoffDue.trans hd)
    (by rw [ha.channel]; exact hcur)
  rw [ha.channel, ha.hold] at he
  rw [judgeChannels_eq]
  exact (he.of_requests ha.requests).after (grantAll_channel _ c) (grantAll_alerted _).keepsReached

theorem judgeChannels_alerted (l : List ChannelId) (s : State) : Alerted s (judgeChannels l s) := by
  rw [judgeChannels_eq]
  have hf : Alerted s (freeOrder Fin.val (l.filter fun c => s.cutoffDue c) s).2 := .of_eq (by simp) (by simp)
  refine (foldl_keeps (P := Alerted s) judgeAndSettle (fun t c h => ?_) _ _ hf).trans (grantAll_alerted _)
  exact h.trans ((judge_local t c).alerted.trans (settleChannel_local _ c).alerted)

end Judging

end Sys2Proof.Machine
end

-- ==== Proofs: the holds of an item ====
section
/-! HOLD_ITEM, LIFT_ITEM and SET_GROUPS of an item found intact (R124, R125), and what they make of the channels that engage it. -/

namespace Sys2Proof.Machine

section Holds
variable {s : State} {p : PortId} {v : Service} {r : Request} {x : Slot} {groups itemHold : Byte}

theorem heldBy_eq (groups itemHold : Byte) (latches : Groups) :
    heldBy groups itemHold latches = decide (itemHold = 1 ∨ groupsOf groups &&& latches ≠ 0) := by rw [heldBy, Bool.decide_or]

/-! ### The copies in the channels -/

/-- A channel with the copy of its item's hold fields brought up to date (R15). -/
def Channel.withHolds (ch : Channel) (groups itemHold : Byte) : Channel :=
  { ch with current := ch.current.map fun cur => { cur with groups := groups, itemHold := itemHold } }

theorem withHolds_withHolds (ch : Channel) (groups itemHold : Byte) :
    (ch.withHolds groups itemHold).withHolds groups itemHold = ch.withHolds groups itemHold := by
  simp only [Channel.withHolds, Option.map_map]
  rfl

/-- The part with the copies of some channels brought up to date (R15, R124). -/
def copyAll (l : List ChannelId) (groups itemHold : Byte) (s : State) : State := l.foldl (copyHolds groups itemHold) s

theorem copyAll_channel (l : List ChannelId) (s : State) (c : ChannelId) : (copyAll l groups itemHold s).channel c =
    if c ∈ l then (s.channel c).withHolds groups itemHold else s.channel c := by
  induction l generalizing s with
  | nil => rfl
  | cons d l ih =>
    have hd : (copyHolds groups itemHold s d).channel c = if c = d then (s.channel d).withHolds groups itemHold else s.channel c :=
      channel_setChannel ..
    rw [copyAll, List.foldl_cons, ← copyAll, ih, hd]
    by_cases hcd : c = d
    · subst hcd
      simp [withHolds_withHolds]
    · simp [hcd]

/-- Bringing copies up to date changes nothing but channels. -/
theorem copyAll_rest (l : List ChannelId) (groups itemHold : Byte) (s : State) :
    copyAll l groups itemHold s = { s with channels := (copyAll l groups itemHold s).channels } :=
  foldl_keeps (P := fun t => t = { s with channels := t.channels }) _ (fun t c h => by rw [copyHolds, State.setChannel, h]) l s rfl

theorem copyAll_alerted (l : List ChannelId) (groups itemHold : Byte) (s : State) : Alerted s (copyAll l groups itemHold s) := by
  rw [copyAll_rest]
  exact .of_eq rfl rfl

theorem mem_engagedChannels {c : ChannelId} : c ∈ s.engagedChannels x ↔ s.engagedSlot c = some x := by
  simp [State.engagedChannels]

/-! ### The hold fields written -/

/-- The record with its hold fields written. -/
def Record.withHolds (r : Record) (groups itemHold : Byte) : Record := { r with groups := groups, itemHold := itemHold }

theorem writeHolds_eq (hi : (s.record x).intact) : writeHolds x groups itemHold s = judgeChannels (s.engagedChannels x)
    (copyAll (s.engagedChannels x) groups itemHold (s.writeRecord x ((s.record x).withHolds groups itemHold))) := by
  have hr : ((s.record x).withHolds groups itemHold).fresh .holds = (s.record x).withHolds groups itemHold :=
    fresh_of_clean _ _ (words_of_intact _ hi)
  rw [← hr]
  rfl

/-- Where no channel engages the item, writing its hold fields does nothing else (R124). -/
theorem writeHolds_of_not_engaged (hi : (s.record x).intact) (hx : s.engagements x = 0) (hg : NoGrantDue s) :
    writeHolds x groups itemHold s = s.writeRecord x ((s.record x).withHolds groups itemHold) := by
  have hn : s.engagedChannels x = [] :=
    List.eq_nil_iff_forall_not_mem.2 fun c hc => engagements_eq_zero.1 hx c (mem_engagedChannels.1 hc)
  rw [writeHolds_eq hi, hn]
  exact grantAll_of_noGrantDue (noGrantDue_of_store hg rfl)

theorem writeHolds_alerted (hi : (s.record x).intact) : Alerted s (writeHolds x groups itemHold s) := by
  rw [writeHolds_eq hi]
  exact (Alerted.of_eq (s := s) (t := s.writeRecord x ((s.record x).withHolds groups itemHold)) rfl rfl).trans
    ((copyAll_alerted _ _ _ _).trans (judgeChannels_alerted _ _))

/-- What writing an item's hold fields makes of a channel (R124, R126 to R129). -/
def HoldsReach (s : State) (x : Slot) (groups itemHold : Byte) (c : ChannelId) (t : State) : Prop :=
  let ch := (s.channel c).withHolds groups itemHold
  (s.engagedSlot c ≠ some x → t.channel c = s.channel c) ∧
    (s.engagedSlot c = some x →
      (ch.current = none ∨ ch.cutoff = .ignore ∨
          (∃ cur, ch.current = some cur ∧ (cur.muted = true ∨ cur.held s.hold.latches = false)) → t.channel c = ch) ∧
        ∀ cur, ch.current = some cur → cur.muted = false → cur.held s.hold.latches = true →
          CutEffect s.store.requests ch cur s.hold.latches c t)

theorem HoldsReach.after {c : ChannelId} {t u : State} (h : HoldsReach s x groups itemHold c t) (hc : u.channel c = t.channel c)
    (ha : KeepsReached t u) : HoldsReach s x groups itemHold c u := by
  obtain ⟨hapart, hengaged⟩ := h
  refine ⟨fun hx => hc.trans (hapart hx), fun hx => ?_⟩
  obtain ⟨huncut, hcut⟩ := hengaged hx
  exact ⟨fun hn => hc.trans (huncut hn), fun cur h1 h2 h3 => (hcut cur h1 h2 h3).after hc ha⟩

theorem writeHolds_reach (hi : (s.record x).intact) (c : ChannelId) :
    HoldsReach s x groups itemHold c (writeHolds x groups itemHold s) := by
  have hch := copyAll_channel (groups := groups) (itemHold := itemHold) (s.engagedChannels x)
    (s.writeRecord x ((s.record x).withHolds groups itemHold)) c
  have hrest := copyAll_rest (s.engagedChannels x) groups itemHold (s.writeRecord x ((s.record x).withHolds groups itemHold))
  rw [writeHolds_eq hi]
  generalize copyAll (s.engagedChannels x) groups itemHold (s.writeRecord x ((s.record x).withHolds groups itemHold)) = u at *
  have hhold : u.hold = s.hold := by rw [hrest]; rfl
  have hstore : u.store = s.store := by rw [hrest]; rfl
  have hnodup : (s.engagedChannels x).Nodup := (List.nodup_finRange 8).filter _
  rw [writeRecord_channel] at hch
  refine ⟨fun hx => ?_, fun hx => ⟨fun hn => ?_, fun cur hcur hm hh => ?_⟩⟩
  · have hmem : c ∉ s.engagedChannels x := fun h => hx (mem_engagedChannels.1 h)
    rw [if_neg hmem] at hch
    rw [judgeChannels_channel fun h => absurd h hmem, hch]
  · rw [if_pos (mem_engagedChannels.2 hx)] at hch
    have hdue : u.cutoffDue c = false := Bool.eq_false_iff.2 fun h => by
      obtain ⟨cur, h1, h2, h3, h4⟩ := cutoffDue_iff.1 h
      rw [hch] at h1 h3
      rw [hhold] at h2
      rcases hn with hn | hn | ⟨cur', hc', hn⟩
      · rw [h1] at hn; cases hn
      · exact h3 hn
      · rw [h1] at hc'; cases hc'
        rcases hn with hn | hn
        · rw [h4] at hn; cases hn
        · rw [h2] at hn; cases hn
    rw [judgeChannels_channel fun _ => hdue, hch]
  · rw [if_pos (mem_engagedChannels.2 hx)] at hch
    rw [← hch] at hcur ⊢
    by_cases hcut : (u.channel c).cutoff = .ignore
    · have hdue : u.cutoffDue c = false := Bool.eq_false_iff.2 fun h => by
        obtain ⟨-, -, -, h3, -⟩ := cutoffDue_iff.1 h
        exact h3 hcut
      have hsame := judgeChannels_channel (l := s.engagedChannels x) fun _ => hdue
      refine cutEffect_iff.2 ⟨by rw [hsame], by rw [hsame], fun e => ?_, fun e => ?_, fun e => ?_⟩ <;> rw [hcut] at e <;> cases e
    · have h := judgeChannels_effect hnodup (mem_engagedChannels.2 hx)
        (cutoffDue_iff.2 ⟨cur, hcur, by rw [hhold]; exact hh, hcut, hm⟩) hcur
      rw [hhold, hstore] at h
      exact h

/-! ### The request answered -/

/-- Writing the hold fields of an item that no channel engages, answered. -/
theorem writeHolds_answered_of_not_engaged (h : Serves s p v r) (hi : (s.record x).intact) (fields : List Field)
    (hx : s.engagements x = 0) (hg : NoGrantDue s) : finishJob (reply p .ok fields (writeHolds x groups itemHold s)) =
      jobAnswered p v .ok fields (s.writeRecord x ((s.record x).withHolds groups itemHold)) := by
  rw [writeHolds_of_not_engaged hi hx hg, reply_of_service p v .ok fields (s.writeRecord x _) h.1]
  rfl

theorem keepsReached_answered (u : State) (code : ReplyCode) (fields : List Field) :
    KeepsReached u (finishJob (reply p code fields u)) := fun n q hr => by
  rw [Reached, finishJob_port]
  exact reached_reply code fields hr

/-- Writing the hold fields of an item, answered (R124, R125). -/
theorem writeHolds_answered (h : Serves s p v r) (hi : (s.record x).intact) (fields : List Field) :
    let t := finishJob (reply p .ok fields (writeHolds x groups itemHold s))
    t.record x = (s.record x).withHolds groups itemHold ∧ (∀ y, y ≠ x → t.record y = s.record y) ∧
      t.memory.header = s.memory.header ∧ t.engine = s.engine ∧ t.hold = s.hold ∧ t.pinTable = s.pinTable ∧ t.timing = s.timing ∧
      (t.port p).service = none ∧
      (t.port p).replies = (s.port p).replies ++ [{ kind := v.kind, tag := v.tag, code := .ok, fields := fields }] ∧
      ∀ c, HoldsReach s x groups itemHold c t := by
  have hrest := copyAll_rest (s.engagedChannels x) groups itemHold (s.writeRecord x ((s.record x).withHolds groups itemHold))
  obtain ⟨hsvc, hrep⟩ := replied_after h (writeHolds_alerted (groups := groups) (itemHold := itemHold) hi) .ok fields
  have hreach := fun c => writeHolds_reach (groups := groups) (itemHold := itemHold) hi c
  have hw := writeHolds_eq (groups := groups) (itemHold := itemHold) hi
  generalize copyAll (s.engagedChannels x) groups itemHold (s.writeRecord x ((s.record x).withHolds groups itemHold)) = u at *
  have hmem : (finishJob (reply p .ok fields (writeHolds x groups itemHold s))).memory =
      (s.writeRecord x ((s.record x).withHolds groups itemHold)).memory := by
    rw [finishJob_memory, reply_memory, hw, judgeChannels_memory, hrest]
  have hrec : ∀ y, (finishJob (reply p .ok fields (writeHolds x groups itemHold s))).record y =
      (s.writeRecord x ((s.record x).withHolds groups itemHold)).record y := fun y => by rw [State.record, hmem]; rfl
  refine ⟨?_, fun y hy => ?_, ?_, ?_, ?_, ?_, ?_, ?_, ?_, fun c => (hreach c).after ?_ (keepsReached_answered _ _ _)⟩
  · rw [hrec, record_writeRecord, if_pos rfl]
  · rw [hrec, record_writeRecord, if_neg hy]
  · rw [hmem]; rfl
  · rw [finishJob_engine, reply_engine, hw, judgeChannels_engine, hrest]; rfl
  · rw [finishJob_hold, reply_hold, hw, judgeChannels_hold, hrest]; rfl
  · rw [finishJob_pinTable, reply_pinTable, hw, judgeChannels_pinTable, hrest]; rfl
  · rw [finishJob_timing, reply_timing, hw, judgeChannels_timing, hrest]; rfl
  · rw [finishJob_port]; exact hsvc
  · rw [finishJob_port]; exact hrep
  · rw [finishJob_channel, reply_channel]

/-- A command that writes the hold fields of an item and answers OK (R124, R125). -/
theorem holdsWritten {i : Instr} {fields : List Field} (h : Serves s p v r) (hi : (s.record x).intact)
    (e : exec i s = .next (finishJob (reply p .ok fields (writeHolds x groups itemHold s)))) :
    (s.engagements x = 0 → NoGrantDue s →
      exec i s = .next (jobAnswered p v .ok fields (s.writeRecord x ((s.record x).withHolds groups itemHold)))) ∧
    ∃ t, exec i s = .next t ∧ t.record x = (s.record x).withHolds groups itemHold ∧ (∀ y, y ≠ x → t.record y = s.record y) ∧
      t.memory.header = s.memory.header ∧ t.engine = s.engine ∧ t.hold = s.hold ∧ t.pinTable = s.pinTable ∧ t.timing = s.timing ∧
      (t.port p).service = none ∧
      (t.port p).replies = (s.port p).replies ++ [{ kind := v.kind, tag := v.tag, code := .ok, fields := fields }] ∧
      ∀ c, HoldsReach s x groups itemHold c t :=
  ⟨fun hx hg => by rw [e, writeHolds_answered_of_not_engaged h hi fields hx hg], _, e, writeHolds_answered h hi fields⟩

end Holds

/-- Settles O35: the hold fields are written, and each channel that engages the item is judged apart from the others. -/
theorem itemHolds : Obligations.ItemHolds := by
  intro p v s key x hg hx
  obtain ⟨-, -, hi, -⟩ := id hx
  refine ⟨fun h => ?_, fun h => ?_, fun set h => ⟨fun hset => ?_, fun hset => ?_⟩⟩
  · have e : exec (.holdItem p) s = .next (finishJob (holdItemOn p x s)) := by
      rw [← withItem_of_found p key [.holds] noFields (holdItemOn p) x s hx]
      exact exec_granted h hg rfl (by simp)
    refine ⟨fun hr => ?_, fun hr => holdsWritten h hi ?_⟩
    · rw [e, holdItemOn, if_pos hr, finishJob_reply h]
    · rw [e, holdItemOn, if_neg hr]
  · have e : exec (.liftItem p) s = .next (finishJob (liftItemOn p x s)) := by
      rw [← withItem_of_found p key [.holds] noFields (liftItemOn p) x s hx]
      exact exec_granted h hg rfl (by simp)
    refine ⟨fun hr => ?_, fun hr => holdsWritten h hi ?_⟩
    · rw [e, liftItemOn, if_neg hr, finishJob_reply h]
    · rw [e, liftItemOn, if_pos hr, heldBy_eq]
  · have e : exec (.setGroups p) s = .next (finishJob (setGroupsJob p key set s)) := exec_granted h hg rfl (by simp)
    rw [e, setGroupsJob, if_neg (by simpa [groupSetLegal] using hset), finishJob_reply h]
  · have e : exec (.setGroups p) s = .next (finishJob (setGroupsJob p key set s)) := exec_granted h hg rfl (by simp)
    refine holdsWritten h hi ?_
    rw [e, setGroupsJob, if_pos (by simpa [groupSetLegal] using hset), withItem_of_found p key _ _ _ x s hx, setGroupsOn, heldBy_eq]

end Sys2Proof.Machine
end

-- ==== Proofs: the passes of an item ====
section
/-! OPEN_PASS, ADD_EXTENT, CLOSE_PASS and WITHDRAW_PASS of an item found intact (R27 to R33). -/

namespace Sys2Proof.Machine

section Passes
variable {s : State} {p : PortId} {v : Service} {r : Request} {key : Key} {x : Slot}

/-! ### The lowest-indexed entry in a state -/

theorem firstPass_eq_none {r : Record} {st : PassState} : r.firstPass st = none ↔ ∀ i, (r.pass i).state ≠ st := by
  simp [Record.firstPass]

theorem firstPass_eq_some {r : Record} {st : PassState} {i : Fin 4} (hi : (r.pass i).state = st)
    (hbelow : ∀ j, j < i → (r.pass j).state ≠ st) : r.firstPass st = some i := by
  refine List.find?_eq_some_iff_getElem.2 ⟨decide_eq_true hi, i.val, by simp, by simp, fun j hj => ?_⟩
  simpa using hbelow ⟨j, hj.trans i.isLt⟩ hj

/-! ### A job on a found item -/

/-- A granted job that looks an item up and finds it intact works on its slot at once (R8). -/
theorem exec_found {words : List RecordWord} {faulted : State → List Field} {work : Slot → State → State}
    (h : Serves s p v r) (hg : Grants s p.val) (hx : FoundAt s key x) (hk : r.presentsJob = true) (hr : r ≠ .formatCatalogue)
    (hj : r.job p v.role s = withItem p key words faulted work s) : exec (r.command p) s = .next (finishJob (work x s)) := by
  rw [exec_granted h hg hk hr, hj, withItem_of_found p key words faulted work x s hx]

/-- The one write of a pass entry of an intact record, answered. -/
theorem finishJob_writePass (h : Serves s p v r) (hx : FoundAt s key x) (fields : List Field) (i : Fin 4) (e : PassEntry) :
    finishJob (reply p .ok fields (s.writeRecord x ((s.record x).writePass i e))) =
      jobAnswered p v .ok fields (s.writeRecord x { s.record x with passes := rowSet (s.record x).passes i e }) := by
  obtain ⟨-, -, hi, -⟩ := hx
  rw [writePass_of_intact _ i e hi]
  exact finishJob_reply (s := s.writeRecord x _) h .ok fields

/-! ### The checks of the fields -/

theorem closePassJob_of_legal {pass length : Nat} (i : Fin 4) (hp : pass = i.val) (hl : 1 ≤ length) : closePassJob p key pass length s =
    withItem p key [.format, .pass i] noFields (closePassOn p i length) s := by
  subst hp
  rw [closePassJob, dif_pos i.isLt, if_pos hl]

theorem closePassJob_of_illegal {pass length : Nat} (hbad : ¬ (pass < 4 ∧ 1 ≤ length)) :
    closePassJob p key pass length s = reply p .badField [] s := by
  rw [closePassJob]
  split_ifs with hp hl
  · exact absurd ⟨hp, hl⟩ hbad
  · rfl
  · rfl

theorem addExtentJob_of_legal {pass start count : Nat} (i : Fin 4) (hp : pass = i.val)
    (he : 1 ≤ count ∧ count ≤ 65535 ∧ start + count ≤ 4294967296) : addExtentJob p key pass start count s =
      withItem p key [.pass i] noFields (addExtentOn p i { start := start, count := count }) s := by
  subst hp
  rw [addExtentJob, dif_pos i.isLt, if_pos he]

theorem addExtentJob_of_illegal {pass start count : Nat} (hbad : ¬ (pass < 4 ∧ 1 ≤ count ∧ start + count ≤ 4294967296)) :
    addExtentJob p key pass start count s = reply p .badField [] s := by
  rw [addExtentJob]
  split_ifs with hp he
  · obtain ⟨hcount, -, hend⟩ := he
    exact absurd ⟨hp, hcount, hend⟩ hbad
  · rfl
  · rfl

theorem withdrawPassJob_of_legal {role : Role} {pass : Nat} (i : Fin 4) (hp : pass = i.val) : withdrawPassJob p role key pass s =
    withItem p key [.pass i, .rendition] noFields (withdrawPassOn p role i) s := by
  subst hp
  rw [withdrawPassJob, dif_pos i.isLt]

theorem withdrawPassJob_of_illegal {role : Role} {pass : Nat} (hbad : 4 ≤ pass) :
    withdrawPassJob p role key pass s = reply p .badField [] s := by
  rw [withdrawPassJob, dif_neg (Nat.not_lt.2 hbad)]

end Passes

/-! ### The conditions of the refusals -/

theorem covers_iff {extents : List Extent} {length B : Nat} :
    covers extents length B = true ↔ length * B ≤ blockTotal extents * 65536 := decide_eq_true_iff

theorem any_overlaps_iff {n : Extent} {l : List Extent} : (l.any fun y => n.overlaps y) = true ↔
    ∃ y ∈ l, n.start < y.start + y.count ∧ y.start < n.start + n.count := by
  simp [Extent.overlaps]

theorem blockTotal_append_singleton (l : List Extent) (n : Extent) : blockTotal (l ++ [n]) = blockTotal l + n.count := by
  simp [blockTotal]

/-! ### The four requests -/

/-- Settles O32: the branches of the two jobs in turn, on the slot that the lookup finds. -/
theorem openAndClosePass : Obligations.OpenAndClosePass := by
  intro p v s key x hg hx
  refine ⟨fun h => ?_, fun pass length h => ⟨fun hbad => ?_, fun i hpass hlen => ?_⟩⟩
  · have e : exec (.openPass p) s = .next (finishJob (openPassOn p x s)) := exec_found h hg hx rfl (by simp) rfl
    simp only [e, openPassOn, Bool.not_eq_true', ← Bool.not_eq_true, Bool.or_eq_true, decide_eq_true_eq, ite_not]
    refine ⟨fun h1 h2 => ?_, fun hst => ⟨fun hfull => ?_, fun i hi hbelow => ?_⟩⟩
    · rw [if_neg (not_or.2 ⟨h1, h2⟩), finishJob_reply h]
    · rw [if_pos hst, firstPass_eq_none.2 hfull]
      exact congrArg _ (finishJob_reply h _ _)
    · rw [if_pos hst, firstPass_eq_some hi hbelow]
      exact congrArg _ (finishJob_writePass h hx _ _ _)
  · have e : exec (.closePass p) s = .next (finishJob (closePassJob p key pass.toNat length.toNat s)) :=
      exec_granted h hg rfl (by simp)
    dsimp only
    rw [e, closePassJob_of_illegal hbad, finishJob_reply h]
  · have e : exec (.closePass p) s = .next (finishJob (closePassOn p i length.toNat x s)) :=
      exec_found h hg hx rfl (by simp) (closePassJob_of_legal i hpass hlen)
    simp only [e, closePassOn, Bool.not_eq_true', ← Bool.not_eq_true, covers_iff, ne_eq, ite_not]
    refine ⟨fun hst => ?_, fun hst hown => ?_, fun hst hown => ⟨fun hshort => ?_, fun hcov => ?_⟩⟩
    · rw [if_neg hst, finishJob_reply h]
    · rw [if_pos hst, if_neg hown, finishJob_reply h]
    · rw [if_pos hst, if_pos hown, if_neg (Nat.not_le.2 hshort), finishJob_reply h]
    · rw [if_pos hst, if_pos hown, if_pos hcov, finishJob_writePass h hx]
      rfl

/-- Settles O33: the branches of the two jobs in turn, on the slot that the lookup finds. -/
theorem extentsAndWithdrawal : Obligations.ExtentsAndWithdrawal := by
  intro p v s key x pass hg hx
  refine ⟨fun start count h => ⟨fun hbad => ?_, fun i hpass hcount hend => ?_⟩, fun h => ⟨fun hbad => ?_, fun i hpass => ?_⟩⟩
  · have e : exec (.addExtent p) s = .next (finishJob (addExtentJob p key pass.toNat start.toNat count.toNat s)) :=
      exec_granted h hg rfl (by simp)
    dsimp only
    rw [e, addExtentJob_of_illegal hbad, finishJob_reply h]
  · have hc : count.toNat ≤ 65535 := Nat.le_of_lt_succ count.isLt
    have e : exec (.addExtent p) s = .next (finishJob (addExtentOn p i { start := start.toNat, count := count.toNat } x s)) :=
      exec_found h hg hx rfl (by simp) (addExtentJob_of_legal i hpass ⟨hcount, hc, hend⟩)
    simp only [e, addExtentOn, any_overlaps_iff, ne_eq, ite_not]
    refine ⟨fun hst => ?_, fun hst hown => ?_, fun hst hown => ⟨fun hfull => ?_, fun hroom => ⟨fun hover => ?_, fun hapart => ?_⟩⟩⟩
    · rw [if_neg hst, finishJob_reply h]
    · rw [if_pos hst, if_neg hown, finishJob_reply h]
    · rw [if_pos hst, if_pos hown, if_pos hfull, finishJob_reply h]
    · rw [if_pos hst, if_pos hown, if_neg (Nat.not_le.2 hroom), if_pos hover, finishJob_reply h]
    · rw [if_pos hst, if_pos hown, if_neg (Nat.not_le.2 hroom), if_neg fun ⟨y, hy, hover⟩ => hapart y hy hover,
        finishJob_writePass h hx, blockTotal_append_singleton, List.length_append]
      rfl
  · have e : exec (.withdrawPass p) s = .next (finishJob (withdrawPassJob p v.role key pass.toNat s)) :=
      exec_granted h hg rfl (by simp)
    dsimp only
    rw [e, withdrawPassJob_of_illegal hbad, finishJob_reply h]
  · have e : exec (.withdrawPass p) s = .next (finishJob (withdrawPassOn p v.role i x s)) :=
      exec_found h hg hx rfl (by simp) (withdrawPassJob_of_legal i hpass)
    simp only [e, withdrawPassOn, Bool.not_eq_true', ← Bool.not_eq_true, Bool.or_eq_true, decide_eq_true_eq, or_assoc, ne_eq, ite_not]
    refine ⟨fun hst => ?_, fun hst hmay => ?_, fun hst hmay hn => ?_, fun hst hmay hn he => ?_, fun hst hmay hn he => ?_⟩
    · rw [if_neg hst, finishJob_reply h]
    · rw [if_pos hst, if_neg hmay, finishJob_reply h]
    · rw [if_pos hst, if_pos hmay, if_pos hn, finishJob_reply h]
    · rw [if_pos hst, if_pos hmay, if_neg hn, if_neg he, finishJob_reply h]
    · rw [if_pos hst, if_pos hmay, if_neg hn, if_pos he, finishJob_writePass h hx]
      rfl

end Sys2Proof.Machine
end

-- ==== Proofs: renditions under a splice ====
section
/-! What a rendition supplies for a frame (R41), and that merging and cutting keep it (R38, R45, R46). -/

namespace Sys2Proof.Machine

section Supply
variable {x y g n : Segment} {l rest : List Segment} {start stop a b f : Nat}

/-! ### Mergeable neighbours -/

theorem advance_advance (source : Source) (j k : Nat) : (source.advance j).advance k = source.advance (j + k) := by
  cases source with
  | pass i o => simp only [Source.advance, Nat.add_assoc]
  | gap => rfl
  | other code => rfl

/-- Mergeable neighbours are both GAP, or both PASS of one pass, the second going on where the first ends (R38). -/
theorem mergeable_iff : x.mergeable y = true ↔
    (x.source = .gap ∧ y.source = .gap) ∨ ∃ i o, x.source = .pass i o ∧ y.source = .pass i (o + x.length) := by
  unfold Segment.mergeable
  cases x.source with
  | gap => cases y.source <;> simp
  | pass i o =>
    cases y.source with
    | pass j q => simp [eq_comm (a := i)]
    | gap => simp
    | other code => simp
  | other code => simp

/-- The second of two mergeable neighbours goes on where the first ends (R38). -/
theorem source_of_mergeable (h : x.mergeable y = true) : y.source = x.source.advance x.length := by
  obtain ⟨hx, hy⟩ | ⟨i, o, hx, hy⟩ := mergeable_iff.1 h <;> rw [hx, hy] <;> rfl

/-! ### The supply of a frame -/

theorem supplied_nil (f : Nat) : supplied [] f = none := rfl

theorem supplied_cons_of_contains (hs : g.start ≤ f) (hf : f < g.stop) (rest : List Segment) :
    supplied (g :: rest) f = some (g.source.advance (f - g.start)) := by
  simp [supplied, segmentOf, Segment.contains, hs, hf]

theorem supplied_cons_of_not_contains (h : ¬ (g.start ≤ f ∧ f < g.stop)) (rest : List Segment) :
    supplied (g :: rest) f = supplied rest f := by
  simp only [supplied, segmentOf, Segment.contains, List.find?_cons, decide_eq_false h]

theorem supplied_append (l l' : List Segment) (f : Nat) : supplied (l ++ l') f = (supplied l f).or (supplied l' f) := by
  simp only [supplied, segmentOf, List.find?_append, Option.map_or]

/-- The supply of a list is that of its first segment, or else that of the others. -/
theorem supplied_cons (g : Segment) (rest : List Segment) (f : Nat) :
    supplied (g :: rest) f = (supplied [g] f).or (supplied rest f) := supplied_append [g] rest f

/-- The segment that replaces two mergeable neighbours supplies each frame from where they supplied it (R38). -/
theorem supplied_merged (h : x.mergeable y = true) (hy : y.start = x.stop) (rest : List Segment) (f : Nat) :
    supplied ({ x with length := x.length + y.length } :: rest) f = supplied (x :: y :: rest) f := by
  have hstop : ({ x with length := x.length + y.length } : Segment).stop = y.stop := by simp only [Segment.stop] at hy ⊢; omega
  have hxy : x.start ≤ y.start := by rw [hy]; exact Nat.le_add_right ..
  have hyy : y.start ≤ y.stop := Nat.le_add_right ..
  by_cases hm : x.start ≤ f ∧ f < y.stop
  · obtain ⟨hs, hf⟩ := hm
    refine (supplied_cons_of_contains (g := { x with length := x.length + y.length }) hs (hf.trans_eq hstop.symm) rest).trans ?_
    by_cases hx : f < x.stop
    · rw [supplied_cons_of_contains hs hx]
    · rw [supplied_cons_of_not_contains (g := x) (by omega), supplied_cons_of_contains (by omega) hf, source_of_mergeable h,
        advance_advance]
      congr 2
      simp only [Segment.stop] at hy hx ⊢
      omega
  · rw [supplied_cons_of_not_contains (by rw [hstop]; exact hm), supplied_cons_of_not_contains (g := x) (by omega),
      supplied_cons_of_not_contains (g := y) (by omega)]

/-- Merging neighbours keeps the supply of every frame (R38, R46). -/
theorem supplied_mergeSegments (h : Abut start stop l) (f : Nat) : supplied (mergeSegments l) f = supplied l f := by
  induction l generalizing start with
  | nil => rfl
  | cons x rest ih =>
    obtain ⟨-, -, hr⟩ := h
    have hm := hr.merge
    rw [supplied_cons x rest, ← ih hr, ← supplied_cons, mergeSegments]
    split
    · next e => rw [e]
    · next y tail e =>
      rw [e] at hm ⊢
      obtain ⟨hy, -, -⟩ := hm
      split
      · next hxy => exact supplied_merged hxy hy tail f
      · rfl

/-! ### The supply of a cut list -/

theorem supplied_before (g : Segment) (a f : Nat) : supplied (g.before a) f = if f < a then supplied [g] f else none := by
  unfold Segment.before
  split
  · next hstop =>
    split
    · rfl
    · rw [supplied_cons_of_not_contains (by omega), supplied_nil]
  · split
    · next hstart =>
      have hleft : ({ g with length := a - g.start } : Segment).stop = a := by simp only [Segment.stop]; omega
      split
      · next hf =>
        by_cases hg : g.start ≤ f
        · rw [supplied_cons_of_contains (g := g) hg (by omega)]
          exact supplied_cons_of_contains (g := { g with length := a - g.start }) hg (hf.trans_eq hleft.symm) []
        · rw [supplied_cons_of_not_contains (g := g) (fun h => hg h.1)]
          exact supplied_cons_of_not_contains (g := { g with length := a - g.start }) (fun h => hg h.1) []
      · next hf => rw [supplied_cons_of_not_contains (by rw [hleft]; exact fun h => hf h.2), supplied_nil]
    · split
      · rw [supplied_cons_of_not_contains (by omega)]
      · rfl

theorem supplied_after (g : Segment) (b f : Nat) : supplied (g.after b) f = if b ≤ f then supplied [g] f else none := by
  unfold Segment.after
  split
  · split
    · rfl
    · rw [supplied_cons_of_not_contains (by omega), supplied_nil]
  · split
    · next hstart hstop =>
      have hright : ({ start := b, length := g.stop - b, source := g.source.advance (b - g.start) } : Segment).stop = g.stop :=
        Nat.add_sub_cancel' hstop.le
      split
      · next hf =>
        by_cases hg : f < g.stop
        · refine (supplied_cons_of_contains hf (hg.trans_eq hright.symm) []).trans ?_
          rw [supplied_cons_of_contains (by omega) hg, advance_advance]
          congr 2
          dsimp only
          omega
        · rw [supplied_cons_of_not_contains (by rw [hright]; exact fun h => hg h.2),
            supplied_cons_of_not_contains (g := g) (fun h => hg h.2)]
      · next hf => rw [supplied_cons_of_not_contains (fun h => hf h.1), supplied_nil]
    · split
      · rw [supplied_cons_of_not_contains (by omega)]
      · rfl

/-- Where each segment's piece supplies a frame as the segment did, or not at all, so do the pieces together. -/
theorem supplied_flatMap {piece : Segment → List Segment} {c : Prop} [Decidable c]
    (h : ∀ g, supplied (piece g) f = if c then supplied [g] f else none) (l : List Segment) :
    supplied (l.flatMap piece) f = if c then supplied l f else none := by
  induction l with
  | nil => split <;> rfl
  | cons g rest ih =>
    rw [List.flatMap_cons, supplied_append, h, ih, supplied_cons g rest]
    split <;> rfl

/-- The cut list supplies the frames of the new segment from its source, and every other frame from where it was supplied (R45). -/
theorem supplied_cutList (l : List Segment) (n : Segment) (f : Nat) : supplied (cutList l n) f =
    if n.start ≤ f ∧ f < n.stop then some (n.source.advance (f - n.start)) else supplied l f := by
  have hn : n.start ≤ n.stop := Nat.le_add_right ..
  rw [cutList, supplied_append, supplied_flatMap fun g => supplied_before g n.start f, supplied_cons,
    supplied_flatMap fun g => supplied_after g n.stop f]
  by_cases h : n.start ≤ f ∧ f < n.stop
  · rw [if_pos h, if_neg (by omega), supplied_cons_of_contains h.1 h.2]
    rfl
  · rw [if_neg h, supplied_cons_of_not_contains h, supplied_nil]
    by_cases hf : f < n.start
    · rw [if_pos hf, if_neg (by omega)]
      exact Option.or_none
    · rw [if_neg hf, if_pos (by omega)]
      rfl

/-! ### The lengths of the lists -/

theorem length_mergeSegments_le (l : List Segment) : (mergeSegments l).length ≤ l.length := by
  induction l with
  | nil => exact Nat.le_refl 0
  | cons x rest ih =>
    rw [mergeSegments]
    split
    · simp
    · next y tail e =>
      rw [e, List.length_cons] at ih
      split <;> simp only [List.length_cons] <;> omega

theorem length_before_le (g : Segment) (a : Nat) : (g.before a).length ≤ 1 := by
  unfold Segment.before
  split_ifs <;> simp

theorem length_after_le (g : Segment) (b : Nat) : (g.after b).length ≤ 1 := by
  unfold Segment.after
  split_ifs <;> simp

/-- A segment that ends by a frame leaves nothing from that frame on (R45). -/
theorem after_of_stop_le (hl : 1 ≤ g.length) (h : g.stop ≤ b) : g.after b = [] := by
  have hs : g.start < g.stop := Nat.lt_add_of_pos_right hl
  rw [Segment.after, if_neg (by omega), if_neg (by omega)]

/-- Segments that all stand from a frame on leave nothing before it (R45). -/
theorem Abut.flatMap_before_eq_nil (h : Abut start stop l) (ha : a ≤ start) : (l.flatMap fun g => g.before a) = [] := by
  induction l generalizing start with
  | nil => rfl
  | cons g rest ih =>
    obtain ⟨rfl, hl, hr⟩ := h
    have hs : g.start < g.stop := Nat.lt_add_of_pos_right hl
    rw [List.flatMap_cons, ih hr (by omega), Segment.before, if_neg (by omega), if_neg (by omega)]
    rfl

theorem length_flatMap_after_le (l : List Segment) (b : Nat) : (l.flatMap fun g => g.after b).length ≤ l.length := by
  induction l with
  | nil => exact Nat.le_refl 0
  | cons g rest ih =>
    have := length_after_le g b
    simp only [List.flatMap_cons, List.length_append, List.length_cons]
    omega

/-- Only one segment can leave a piece on each side of the range of a splice (R45). -/
theorem Abut.length_cut_le (h : Abut start stop l) (hab : a ≤ b) :
    (l.flatMap fun g => g.before a).length + (l.flatMap fun g => g.after b).length ≤ l.length + 1 := by
  induction l generalizing start with
  | nil => simp
  | cons g rest ih =>
    obtain ⟨-, hl, hr⟩ := h
    have hbefore := length_before_le g a
    simp only [List.flatMap_cons, List.length_append, List.length_cons]
    by_cases hg : g.stop ≤ a
    · have := ih hr
      rw [after_of_stop_le hl (hg.trans hab), List.length_nil]
      omega
    · have hafter := length_after_le g b
      have := length_flatMap_after_le rest b
      rw [hr.flatMap_before_eq_nil (by omega), List.length_nil]
      omega

theorem length_splicedList_le (h : Abut start stop l) (n : Segment) : (splicedList l n).length ≤ l.length + 2 := by
  have hm := length_mergeSegments_le (cutList l n)
  have hc := h.length_cut_le (show n.start ≤ n.stop from Nat.le_add_right ..)
  simp only [cutList, List.length_append, List.length_cons] at hm
  exact hm.trans (by omega)

/-- A list that runs over a frame has a segment. -/
theorem Abut.one_le_length (h : Abut start stop l) (hs : start < stop) : 1 ≤ l.length := by
  cases l with
  | nil => exact absurd h (Nat.ne_of_lt hs)
  | cons g rest => simp

end Supply

/-- Settles O18: a mergeable neighbour goes on with the source where the first segment ends. -/
theorem mergeableNeighbours : Obligations.MergeableNeighbours := by
  intro x y
  refine ⟨mergeable_iff, fun h hy _ _ rest f _ _ => ⟨?_, supplied_merged h hy rest f⟩⟩
  simp [mergeSegments, h]

/-- Settles O19: cutting replaces the supply of the range alone, and merging keeps every frame's. -/
theorem spliceKeepsEveryOtherFrame : Obligations.SpliceKeepsEveryOtherFrame := by
  intro list L a b source hlist _ hab hb
  obtain ⟨habut, -⟩ := (contiguousTo_iff L 0 list).1 hlist
  have hstop : ({ start := a, length := b - a, source := source } : Segment).stop = b := Nat.add_sub_cancel' hab.le
  have hcut : Abut 0 L (cutList list { start := a, length := b - a, source := source }) :=
    habut.cutList (Nat.sub_pos_of_lt hab) (hstop.le.trans hb)
  refine ⟨(contiguousTo_iff ..).2 ⟨hcut.merge, unmergeable_merge _⟩, hcut.merge.one_le_length (by omega),
    length_splicedList_le habut _, fun f _ => ?_⟩
  rw [splicedList, supplied_mergeSegments hcut, supplied_cutList, hstop]

end Sys2Proof.Machine
end

-- ==== Proofs: SPLICE, RELEASE_ITEM and REOPEN_ITEM ====
section
/-! SPLICE, RELEASE_ITEM and REOPEN_ITEM of an item found intact (R43 to R47, R52, R53). -/

namespace Sys2Proof.Machine

section Splices
variable {s : State} {p : PortId} {v : Service} {key : Key} {x : Slot} {r : Record} {a b : Nat} {source : Source}

/-! ### The checks of SPLICE -/

theorem spliceSource_of_illegal {kind pass : Byte} {offset : Nat} (hbad : ¬ (kind = 0 ∨ kind = 1 ∧ pass.toNat < 4)) :
    spliceSource kind.toNat pass.toNat offset = none := by
  obtain ⟨h0, h1⟩ := not_or.1 hbad
  have h0 : kind.toNat ≠ 0 := fun h => h0 (BitVec.eq_of_toNat_eq h)
  have h1 : ¬ (kind.toNat = 1 ∧ pass.toNat < 4) := fun ⟨h, hp⟩ => h1 ⟨BitVec.eq_of_toNat_eq h, hp⟩
  rw [spliceSource, if_neg h0, if_neg h1]

theorem spliceSource_pass {pass : Nat} (i : Fin 4) (hp : pass = i.val) (offset : Nat) :
    spliceSource 1 pass offset = some (.pass i.val offset) := by
  subst hp
  rw [spliceSource, if_neg (by decide), if_pos ⟨rfl, i.isLt⟩]

theorem spliceRefusal_of_state (hst : r.state ≠ .review) : spliceRefusal r a b source = some .wrongState := if_pos hst

theorem spliceRefusal_of_range (hst : r.state = .review) (hbad : ¬ (a < b ∧ b ≤ r.length)) :
    spliceRefusal r a b source = some .outOfRange := by
  unfold spliceRefusal
  rw [if_neg (not_not.2 hst), if_pos (by rw [decide_eq_false hbad]; rfl)]

theorem spliceRefusal_gap (hst : r.state = .review) (hab : a < b ∧ b ≤ r.length) : spliceRefusal r a b .gap = none := by
  unfold spliceRefusal
  rw [if_neg (not_not.2 hst), if_neg (by rw [decide_eq_true hab]; simp)]

/-- In REVIEW and over a range within the item, the pass entry alone decides (R44). -/
theorem spliceRefusal_pass (hst : r.state = .review) (hab : a < b ∧ b ≤ r.length) (i : Fin 4) (offset : Nat) :
    spliceRefusal r a b (.pass i.val offset) =
      if (r.pass i).state ≠ .complete then some .wrongState
      else if (r.pass i).length < offset + (b - a) then some .outOfRange else none := by
  unfold spliceRefusal
  rw [if_neg (not_not.2 hst), if_neg (by rw [decide_eq_true hab]; simp)]
  exact dif_pos i.isLt

/-! ### A splice of a found item -/

section Found
variable {a b offset : BitVec 32} {kind pass : Byte}

theorem exec_splice_found (h : Serves s p v (.splice key a b kind pass offset)) (hg : Grants s p.val) (hx : FoundAt s key x)
    (hs : spliceSource kind.toNat pass.toNat offset.toNat = some source) :
    exec (.splice p) s = .next (finishJob (spliceOn p a.toNat b.toNat source x s)) :=
  exec_found (words := spliceWords source) (faulted := noFields) h hg hx rfl (by simp) (by simp only [Request.job, spliceJob, hs])

theorem exec_splice_refused (h : Serves s p v (.splice key a b kind pass offset)) (hg : Grants s p.val) (hx : FoundAt s key x)
    (hs : spliceSource kind.toNat pass.toNat offset.toNat = some source) {code : ReplyCode}
    (hr : spliceRefusal (s.record x) a.toNat b.toNat source = some code) :
    exec (.splice p) s = .next (jobAnswered p v code [] s) := by
  rw [exec_splice_found h hg hx hs, spliceOn, hr]
  exact congrArg _ (finishJob_reply h code [])

/-- The rendition of an intact record written, its word fresh (R143). -/
theorem writeRendition_of_intact (r : Record) (list : List Segment) (h : r.intact) :
    ({ r with rendition := list } : Record).fresh .rendition = { r with rendition := list } :=
  fresh_of_clean _ _ (words_of_intact r h)

/-- A splice that nothing refuses finds the merged list too long, or writes it (R46, R47). -/
theorem exec_splice_made (h : Serves s p v (.splice key a b kind pass offset)) (hg : Grants s p.val) (hx : FoundAt s key x)
    (hs : spliceSource kind.toNat pass.toNat offset.toNat = some source)
    (hr : spliceRefusal (s.record x) a.toNat b.toNat source = none) :
    let list := splicedList (s.record x).rendition { start := a.toNat, length := b.toNat - a.toNat, source := source }
    (32 < list.length → exec (.splice p) s = .next (jobAnswered p v .listFull [] s)) ∧
      (list.length ≤ 32 → exec (.splice p) s = .next (jobAnswered p v .ok
        [.u8 (s.record x).rendition.length, .u8 list.length, .u8 (indexOfFrame list a.toNat)]
        (s.writeRecord x { s.record x with rendition := list }))) := by
  have ⟨_, _, hi, _⟩ := hx
  simp only [exec_splice_found h hg hx hs, spliceOn, hr, writeRendition_of_intact _ _ hi, Config.segmentLimit]
  refine ⟨fun hfull => ?_, fun hroom => ?_⟩
  · rw [if_pos hfull, finishJob_reply h]
  · rw [if_neg (Nat.not_lt.2 hroom)]
    exact congrArg _ (finishJob_reply (s := s.writeRecord x _) h .ok _)

end Found

end Splices

/-! ### The requests -/

/-- Settles O30: the field checks, then the checks of R44 in turn, then the length of the merged list. -/
theorem splice : Obligations.Splice := by
  intro p v s key a b kind pass offset h hg
  refine ⟨fun hbad => ?_, fun x hx => ?_⟩
  · have e : exec (.splice p) s =
        .next (finishJob (spliceJob p key a.toNat b.toNat kind.toNat pass.toNat offset.toNat s)) := exec_granted h hg rfl (by simp)
    rw [e, spliceJob, spliceSource_of_illegal hbad, finishJob_reply h]
  · refine ⟨fun hok hst => ?_, fun hok hst hab => ?_, fun hst ha hb => ⟨fun hk => ?_, fun hk i hi => ?_⟩⟩
    · obtain ⟨source, hs⟩ := spliceSource_isSome (offset := offset.toNat) hok
      exact exec_splice_refused h hg hx hs (spliceRefusal_of_state hst)
    · obtain ⟨source, hs⟩ := spliceSource_isSome (offset := offset.toNat) hok
      exact exec_splice_refused h hg hx hs (spliceRefusal_of_range hst hab)
    · subst hk
      exact exec_splice_made h hg hx rfl (spliceRefusal_gap hst ⟨ha, hb⟩)
    · subst hk
      have hs := spliceSource_pass i hi offset.toNat
      have hr := spliceRefusal_pass hst ⟨ha, hb⟩ i offset.toNat
      refine ⟨fun hc => ?_, fun hc hlong => ?_, fun hc hfits => ?_⟩
      · exact exec_splice_refused h hg hx hs (hr.trans (if_pos hc))
      · rw [if_neg (not_not.2 hc), if_pos hlong] at hr
        exact exec_splice_refused h hg hx hs hr
      · rw [if_neg (not_not.2 hc), if_neg (Nat.not_lt.2 hfits)] at hr
        exact exec_splice_made h hg hx hs hr

/-- Settles O31: the branches of the two jobs in turn, on the slot that the lookup finds. -/
theorem releaseAndReopen : Obligations.ReleaseAndReopen := by
  intro p v s key x hg hx
  have ⟨_, _, hi, _⟩ := hx
  have hwrite := fun st => writeState_of_intact (s.record x) st hi
  refine ⟨fun h => ?_, fun h => ?_⟩
  · have e : exec (.releaseItem p) s = .next (finishJob (releaseItemOn p x s)) := exec_found h hg hx rfl (by simp) rfl
    simp only [e, releaseItemOn, hwrite, Bool.and_eq_true, decide_eq_true_eq]
    refine ⟨fun hok => ?_, fun hbad => ?_⟩
    · rw [if_pos hok]
      exact congrArg _ (finishJob_reply (s := s.writeRecord x _) h .ok _)
    · rw [if_neg hbad, finishJob_reply h]
  · have e : exec (.reopenItem p) s = .next (finishJob (reopenItemOn p x s)) := exec_found h hg hx rfl (by simp) rfl
    simp only [e, reopenItemOn, hwrite, ne_eq, ite_not]
    refine ⟨fun hst => ?_, fun hst hpins => ?_, fun hst hpins huse => ?_, fun hst hpins huse => ?_⟩
    · rw [if_neg hst, finishJob_reply h]
    · rw [if_pos hst, if_neg hpins, finishJob_reply h]
    · rw [if_pos hst, if_pos hpins, if_neg huse, finishJob_reply h]
    · rw [if_pos hst, if_pos hpins, if_pos huse]
      exact congrArg _ (finishJob_reply (s := s.writeRecord x _) h .ok _)

end Sys2Proof.Machine
end

-- ==== Proofs: the frames of a cue and the extent walk ====
section
/-! The frames of a granted cue (R57, R58, R59), and the walk along the extents of a pass (R62, R63). -/

namespace Sys2Proof.Machine

/-! ### The frames of a cue -/

/-- Every rate gives at least 32 frames to a millisecond (R2, R59). -/
theorem rate_ge_of_legal {rate : Nat} (h : rateLegal rate = true) : 32000 ≤ rate := by
  simp only [rateLegal, List.contains_iff_mem, List.mem_cons, List.not_mem_nil, or_false] at h
  omega

/-- A duration of a millisecond or more holds at least 32 frames (R59). -/
theorem frameAt_add_ge {rate duration : Nat} (start : Nat) (h : 32000 ≤ rate) (hd : 1 ≤ duration) :
    frameAt start rate + 32 ≤ frameAt (start + duration) rate := by
  have hmul : 1 * 32000 ≤ duration * rate := Nat.mul_le_mul hd h
  simp only [frameAt, Nat.add_mul]
  omega

theorem cueEnd_of_zero (start rate length : Nat) : cueEnd start 0 rate length = (length, false) := if_pos rfl

theorem cueEnd_of_le {start duration rate length : Nat} (hd : 1 ≤ duration) (h : frameAt (start + duration) rate ≤ length) :
    cueEnd start duration rate length = (frameAt (start + duration) rate, false) :=
  (if_neg (Nat.one_le_iff_ne_zero.1 hd)).trans (if_pos h)

theorem cueEnd_of_gt {start duration rate length : Nat} (hd : 1 ≤ duration) (h : length < frameAt (start + duration) rate) :
    cueEnd start duration rate length = (length, true) :=
  (if_neg (Nat.one_le_iff_ne_zero.1 hd)).trans (if_neg (Nat.not_le.2 h))

/-- A cue that is granted starts within the item (R76). -/
theorem startRefusal_inRange {r : Record} {cue : Cue} {role : Role} {ignore : Bool} {latches : Groups}
    (h : startRefusal r cue role ignore latches = none) : frameAt cue.start.toNat r.rate < r.length := by
  by_contra hout
  unfold startRefusal at h
  rw [if_pos (Nat.not_lt.1 hout)] at h
  split_ifs at h

/-- Settles O20, by the three cases of R58. -/
theorem framesOfAGrantedCue : Obligations.FramesOfAGrantedCue := by
  intro r cue role ignore latches x hrate hgrant cur S D
  have hin : frameAt S r.rate < r.length := startRefusal_inRange hgrant
  have hend : (cur.f1, cur.shortened) = cueEnd S D r.rate r.length := rfl
  change cur.f0 = frameAt S r.rate ∧ cur.f0 < cur.f1 ∧ cur.f1 ≤ r.length ∧ cur.next = cur.f0 ∧
    (D = 0 → cur.f1 = r.length ∧ cur.shortened = false) ∧
    (1 ≤ D → frameAt (S + D) r.rate ≤ r.length →
      cur.f1 = frameAt (S + D) r.rate ∧ cur.shortened = false ∧ 32 ≤ cur.f1 - cur.f0) ∧
    (1 ≤ D → r.length < frameAt (S + D) r.rate → cur.f1 = r.length ∧ cur.shortened = true)
  have hf0 : cur.f0 = frameAt S r.rate := rfl
  have hnext : cur.next = cur.f0 := rfl
  rcases Nat.eq_zero_or_pos D with hD | hD
  · rw [hD, cueEnd_of_zero, Prod.mk.injEq] at hend
    obtain ⟨h1, hs⟩ := hend
    exact ⟨hf0, by omega, by omega, hnext, fun _ => ⟨h1, hs⟩, by omega, by omega⟩
  · have hlong := frameAt_add_ge S (rate_ge_of_legal hrate) hD
    rcases Nat.lt_or_ge r.length (frameAt (S + D) r.rate) with hpast | hfits
    · rw [cueEnd_of_gt hD hpast, Prod.mk.injEq] at hend
      obtain ⟨h1, hs⟩ := hend
      exact ⟨hf0, by omega, by omega, hnext, by omega, by omega, fun _ _ => ⟨h1, hs⟩⟩
    · rw [cueEnd_of_le hD hfits, Prod.mk.injEq] at hend
      obtain ⟨h1, hs⟩ := hend
      exact ⟨hf0, by omega, by omega, hnext, by omega, fun _ _ => ⟨h1, hs, by omega⟩, by omega⟩

/-! ### The extent walk -/

section Walk
variable {extents rest : List Extent} {x y : Extent} {n i j : Nat}

theorem blockTotal_cons (x : Extent) (rest : List Extent) : blockTotal (x :: rest) = x.count + blockTotal rest := by
  simp [blockTotal]

theorem storeBlock_cons_of_lt (h : n < x.count) : storeBlock (x :: rest) n = some (x.start + n) := if_pos h

theorem storeBlock_cons_of_ge (h : x.count ≤ n) : storeBlock (x :: rest) n = storeBlock rest (n - x.count) := if_neg (Nat.not_lt.2 h)

/-- Extent `i` of the list, `x`, holds pass block `n`: U_i ≤ n < U_i + c_i (R62, R63). -/
def HoldsBlock (extents : List Extent) (n i : Nat) (x : Extent) : Prop :=
  extents[i]? = some x ∧ blockTotal (extents.take i) ≤ n ∧ n < blockTotal (extents.take i) + x.count

theorem holdsBlock_cons_zero : HoldsBlock (y :: rest) n 0 x ↔ y = x ∧ n < y.count := by
  simp only [HoldsBlock, List.getElem?_cons_zero, Option.some.injEq, List.take_zero]
  constructor
  · rintro ⟨rfl, -, h⟩
    exact ⟨rfl, by simpa [blockTotal] using h⟩
  · rintro ⟨rfl, h⟩
    exact ⟨rfl, by simp [blockTotal], by simpa [blockTotal] using h⟩

theorem holdsBlock_cons_succ : HoldsBlock (y :: rest) n (i + 1) x ↔ y.count ≤ n ∧ HoldsBlock rest (n - y.count) i x := by
  simp only [HoldsBlock, List.getElem?_cons_succ, List.take_succ_cons, blockTotal_cons]
  constructor
  · rintro ⟨hx, h1, h2⟩
    exact ⟨by omega, hx, by omega, by omega⟩
  · rintro ⟨hy, hx, h1, h2⟩
    exact ⟨hx, by omega, by omega⟩

/-- A pass block below the block total lies in some extent (R62). -/
theorem exists_holdsBlock (h : n < blockTotal extents) : ∃ i x, HoldsBlock extents n i x := by
  induction extents generalizing n with
  | nil => cases h
  | cons y rest ih =>
    rw [blockTotal_cons] at h
    rcases Nat.lt_or_ge n y.count with hn | hn
    · exact ⟨0, y, holdsBlock_cons_zero.2 ⟨rfl, hn⟩⟩
    · obtain ⟨i, x, hx⟩ := ih (n := n - y.count) (by omega)
      exact ⟨i + 1, x, holdsBlock_cons_succ.2 ⟨hn, hx⟩⟩

/-- No two extents of a list hold one pass block (R63). -/
theorem HoldsBlock.index_unique (hx : HoldsBlock extents n i x) (hy : HoldsBlock extents n j y) : j = i := by
  induction extents generalizing n i j with
  | nil => cases hx.1
  | cons z rest ih =>
    cases i with
    | zero =>
      cases j with
      | zero => rfl
      | succ j => exact absurd (holdsBlock_cons_zero.1 hx).2 (Nat.not_lt.2 (holdsBlock_cons_succ.1 hy).1)
    | succ i =>
      cases j with
      | zero => exact absurd (holdsBlock_cons_zero.1 hy).2 (Nat.not_lt.2 (holdsBlock_cons_succ.1 hx).1)
      | succ j => exact congrArg (· + 1) (ih (holdsBlock_cons_succ.1 hx).2 (holdsBlock_cons_succ.1 hy).2)

/-- The walk finds the extent that holds the pass block, and the block t_i + (n − U_i) of it (R63). -/
theorem HoldsBlock.storeBlock_eq (h : HoldsBlock extents n i x) :
    storeBlock extents n = some (x.start + (n - blockTotal (extents.take i))) := by
  induction extents generalizing n i with
  | nil => cases h.1
  | cons y rest ih =>
    cases i with
    | zero =>
      obtain ⟨rfl, hn⟩ := holdsBlock_cons_zero.1 h
      exact storeBlock_cons_of_lt hn
    | succ i =>
      obtain ⟨hn, hrest⟩ := holdsBlock_cons_succ.1 h
      rw [storeBlock_cons_of_ge hn, ih hrest, List.take_succ_cons, blockTotal_cons, Nat.sub_sub]

/-- A pass block at or beyond the block total has no store block (R62). -/
theorem storeBlock_of_ge (h : blockTotal extents ≤ n) : storeBlock extents n = none := by
  induction extents generalizing n with
  | nil => rfl
  | cons y rest ih =>
    rw [blockTotal_cons] at h
    rw [storeBlock_cons_of_ge (by omega), ih (by omega)]

end Walk

/-- Settles O21: the extent that holds the pass block exists, is the only one, and is the one that the walk finds. -/
theorem extentWalk : Obligations.ExtentWalk := by
  intro extents n _
  refine ⟨fun hn => ?_, storeBlock_of_ge⟩
  obtain ⟨i, x, hx⟩ := exists_holdsBlock hn
  have ⟨hi, hlow, hhigh⟩ := hx
  exact ⟨i, x, hi, hlow, hhigh, hx.storeBlock_eq, fun j y hj h1 h2 => hx.index_unique ⟨hj, h1, h2⟩⟩

end Sys2Proof.Machine
end

-- ==== Proofs: the grant of a read slot and the request for a block ====
section
/-! Which slot and which request a grant takes, what it leaves (R109, R110), and which block a channel asks for next (R64, R66, R79). -/

namespace Sys2Proof.Machine

/-! ### The lowest in a row -/

theorem find?_finRange_eq_some {n : Nat} {p : Fin n → Bool} {i : Fin n} :
    (List.finRange n).find? p = some i ↔ p i = true ∧ ∀ j, j < i → p j = false := by
  rw [← Fin.find?_eq_find?_finRange, Fin.find?_eq_some_iff]

/-- The free slot of a grant is the lowest-numbered one (R109). -/
theorem freeTag_eq_some {s : State} {g : ReadTag} :
    s.freeTag = some g ↔ s.readSlot g = .free ∧ ∀ h, h < g → s.readSlot h ≠ .free := by
  simp [State.freeTag, find?_finRange_eq_some]

/-- A channel's lowest-numbered free buffer. -/
def Channel.freeBuffer (ch : Channel) : Option BufferId := (List.finRange 4).find? fun b => ch.buffer b = .free

theorem freeBuffer_eq_none {ch : Channel} : ch.freeBuffer = none ↔ ∀ b, ch.buffer b ≠ .free := by simp [Channel.freeBuffer]

theorem freeBuffer_eq_some {ch : Channel} {b : BufferId} :
    ch.freeBuffer = some b ↔ ch.buffer b = .free ∧ ∀ a, a < b → ch.buffer a ≠ .free := by
  simp [Channel.freeBuffer, find?_finRange_eq_some]

/-! ### The earliest request -/

section Requests
variable {s : State} {x y z r : BlockRequest} {l : List BlockRequest} {c : ChannelId}

theorem earlier_self (x : BlockRequest) : x.earlier x = false := by simp [BlockRequest.earlier]

theorem earlier_asymm (h : x.earlier y = true) : y.earlier x = false := by
  simp only [BlockRequest.earlier, decide_eq_true_eq, decide_eq_false_iff_not] at *
  omega

theorem earlier_false_trans (hxy : x.earlier y = false) (hyz : y.earlier z = false) : x.earlier z = false := by
  simp only [BlockRequest.earlier, decide_eq_false_iff_not] at *
  omega

theorem earliest_eq_none : earliest l = none ↔ l = [] := by
  cases l with
  | nil => simp [earliest]
  | cons x rest =>
    unfold earliest
    split
    · simp
    · split <;> simp

/-- The earliest request of a list is one of the list, and none of the list stands before it (R109). -/
theorem earliest_spec (h : earliest l = some r) : r ∈ l ∧ ∀ x ∈ l, x.earlier r = false := by
  induction l generalizing r with
  | nil => cases h
  | cons y rest ih =>
    unfold earliest at h
    split at h
    · next he =>
      cases h
      rw [earliest_eq_none.1 he]
      simp [earlier_self]
    · next z he =>
      obtain ⟨hz, hmin⟩ := ih he
      split at h
      · next hzy =>
        cases h
        exact ⟨List.mem_cons_of_mem _ hz, List.forall_mem_cons.2 ⟨earlier_asymm hzy, hmin⟩⟩
      · next hzy =>
        cases h
        refine ⟨List.mem_cons_self, List.forall_mem_cons.2 ⟨earlier_self _, fun x hx => ?_⟩⟩
        exact earlier_false_trans (hmin x hx) (Bool.not_eq_true _ ▸ hzy)

/-! ### The request of a grant -/

theorem mem_waitingOf : x ∈ s.waitingOf c ↔ x ∈ s.store.requests ∧ x.channel = c ∧ x.active = false := by
  simp [State.waitingOf]

/-- Nothing of a channel waits where each of its requests is active (R108). -/
theorem waitingOf_eq_nil : s.waitingOf c = [] ↔ ∀ x ∈ s.store.requests, x.channel = c → x.active = true := by
  simp [State.waitingOf]

/-- The granted request is the earliest of a channel, and none of the channels before that one in the round waits (R109). -/
theorem nextRequest_eq_some (h : s.nextRequest = some r) : ∃ i : Fin 8, earliest (s.waitingOf (s.store.lastChannel + 1 + i)) = some r ∧
    ∀ k, k < i → s.waitingOf (s.store.lastChannel + 1 + k) = [] := by
  obtain ⟨c, hc, hr⟩ := Option.bind_eq_some_iff.1 h
  rw [channelCycle, List.find?_map, Option.map_eq_some_iff] at hc
  obtain ⟨i, hi, rfl⟩ := hc
  exact ⟨i, hr, by simpa using (find?_finRange_eq_some.1 hi).2⟩

theorem nextRequest_spec (h : s.nextRequest = some r) : r ∈ s.store.requests ∧ r.active = false ∧
    (∀ x ∈ s.store.requests, x.channel = r.channel → x.active = false → x.earlier r = false) ∧
    ∀ k : Fin 8, k < r.channel - (s.store.lastChannel + 1) →
      ∀ x ∈ s.store.requests, x.channel = s.store.lastChannel + 1 + k → x.active = true := by
  obtain ⟨i, hr, hbefore⟩ := nextRequest_eq_some h
  obtain ⟨hmem, hmin⟩ := earliest_spec hr
  obtain ⟨hreq, hch, hact⟩ := mem_waitingOf.1 hmem
  rw [hch, add_sub_cancel_left]
  exact ⟨hreq, hact, fun x hx hc ha => hmin x (mem_waitingOf.2 ⟨hx, hc, ha⟩), fun k hk => waitingOf_eq_nil.1 (hbefore k hk)⟩

/-! ### What a grant leaves -/

theorem grantSlots_succ_of_due {g : ReadTag} (n : Nat) (hg : s.freeTag = some g) (hr : s.nextRequest = some r) :
    grantSlots (n + 1) s = grantSlots n (grantTo g r s) := by rw [grantSlots, hg, hr]

/-- The granted request is active after the grant (R109). -/
theorem active_of_mem_grantTo {g : ReadTag} (hx : x ∈ (grantTo g r s).store.requests) (hc : x.channel = r.channel)
    (hb : x.buffer = r.buffer) : x.active = true := by
  obtain ⟨y, -, rfl⟩ := List.mem_map.1 hx
  split
  · rfl
  · next hof =>
    rw [if_neg hof] at hc hb
    exact absurd (decide_eq_true ⟨hc, hb⟩) hof

end Requests

/-! ### The run whose block is asked for next -/

section Runs
variable {B i k : Nat} {run : Run} {runs : List Run}

theorem nextUnissued_eq_none (h : ∀ r ∈ runs, r.allIssued B = true) (k : Nat) : nextUnissued B runs k = none := by
  induction runs generalizing k with
  | nil => rfl
  | cons x rest ih =>
    obtain ⟨hx, hrest⟩ := List.forall_mem_cons.1 h
    exact (if_pos hx).trans (ih hrest (k + 1))

/-- The first of the runs, in timeline order, that has a block left (R79). -/
theorem nextUnissued_eq_some (hi : runs[i]? = some run) (hrun : run.allIssued B = false)
    (hbefore : ∀ j r, j < i → runs[j]? = some r → r.allIssued B = true) (k : Nat) : nextUnissued B runs k = some (k + i, run) := by
  induction runs generalizing i k with
  | nil => cases hi
  | cons x rest ih =>
    cases i with
    | zero =>
      cases hi
      exact if_neg (Bool.eq_false_iff.1 hrun)
    | succ i =>
      have hx : x.allIssued B = true := hbefore 0 x (Nat.succ_pos i) rfl
      have := ih hi (fun j r hj hr => hbefore (j + 1) r (Nat.succ_lt_succ hj) hr) (k + 1)
      rw [nextUnissued, if_pos hx, this, Nat.add_right_comm, Nat.add_assoc]

theorem le_lastFrameTouching_iff {m n : Nat} (hB : 1 ≤ B) : m ≤ lastFrameTouching n B ↔ m * B < (n + 1) * 65536 := by
  rw [lastFrameTouching, Nat.le_div_iff_mul_le hB, Config.blockBytes]
  omega

/-- The first pass frame of a run has its first byte before the end of the run's first block, and of every later one (R64). -/
theorem le_lastFrameTouching_of_firstBlock_le {q n : Nat} (hB : 1 ≤ B) (h : firstBlock q B ≤ n) : q ≤ lastFrameTouching n B := by
  rw [le_lastFrameTouching_iff hB]
  rw [firstBlock, Config.blockBytes] at h
  omega

/-- The frames of a run up to the last one of a block are those whose first byte lies before the block's end (R64, R66). -/
theorem le_lastFrameOf_iff {q n f : Nat} (hB : 1 ≤ B) (hn : firstBlock q B ≤ n) (hs : run.start ≤ f) (hf : f < run.stop) :
    f ≤ lastFrameOf run q n B ↔ (q + (f - run.start)) * B < (n + 1) * 65536 := by
  have hq := le_lastFrameTouching_of_firstBlock_le hB hn
  rw [← le_lastFrameTouching_iff hB, lastFrameOf]
  omega

end Runs

/-! ### One block request -/

section Issue
variable {s : State} {c : ChannelId} {cur : CurrentCue} {b : BufferId} {i p q block : Nat} {run : Run} {extents : List Extent}

/-- The request that a channel makes for pass block `n` of a run, which lies at `block` of the store (R108). -/
def requestFor (c : ChannelId) (b : BufferId) (run : Run) (n block : Nat) : BlockRequest :=
  { channel := c, buffer := b, block := block, runStart := run.start, passBlock := n, failed := 0, lastFailure := none,
    abandoned := false, active := false }

/-- What a buffer is for that takes pass block `n` of a run whose first pass frame is `q` (R79). -/
def placeFor (run : Run) (q n frameBytes : Nat) : BlockPlace :=
  { runStart := run.start, passBlock := n, lastFrame := lastFrameOf run q n frameBytes }

/-- A channel asks for nothing but in RUNNING and HALTING, with a current cue and a free buffer (R79). -/
theorem issueOne_of_idle (h : (s.channel c).delivering = false ∨ (s.channel c).current = none ∨ (s.channel c).freeBuffer = none) :
    issueOne c s = s := by
  unfold issueOne
  dsimp only
  split
  · next cur b hc hb =>
    have hd : (s.channel c).delivering = false :=
      h.resolve_right (not_or.2 ⟨by simp [hc], by simp [Channel.freeBuffer, hb]⟩)
    rw [if_pos (by simp [hd])]
  · rfl

section Able
variable (hd : (s.channel c).delivering = true) (hc : (s.channel c).current = some cur) (hb : (s.channel c).freeBuffer = some b)
include hd hc hb

theorem issueOne_of_all_issued (hr : nextUnissued cur.frameBytes (s.channel c).runs 0 = none) : issueOne c s = s := by
  rw [Channel.freeBuffer] at hb
  simp only [issueOne, hc, hb, hd, hr, Bool.not_true, Bool.false_eq_true, if_false]

variable (hr : nextUnissued cur.frameBytes (s.channel c).runs 0 = some (i, run)) (hsrc : run.source = .pass p q extents)
include hr hsrc

/-- A block past the end of the extents is not asked for (R63). -/
theorem issueOne_of_no_block (hblock : storeBlock extents (firstBlock q cur.frameBytes + run.issued) = none) : issueOne c s = s := by
  rw [Channel.freeBuffer] at hb
  simp only [issueOne, hc, hb, hd, hr, hsrc, hblock, Bool.not_true, Bool.false_eq_true, if_false]

/-- The request for the next block of a run, into the free buffer (R64, R66, R79). -/
theorem issueOne_of_block (hblock : storeBlock extents (firstBlock q cur.frameBytes + run.issued) = some block) :
    issueOne c s = (s.setStore { s.store with requests := s.store.requests ++
        [requestFor c b run (firstBlock q cur.frameBytes + run.issued) block] }).setChannel c
      { (s.channel c).withBuffer b (.inFlight (placeFor run q (firstBlock q cur.frameBytes + run.issued) cur.frameBytes)) with
        runs := (s.channel c).runs.set i { run with issued := run.issued + 1 } } := by
  rw [Channel.freeBuffer] at hb
  simp only [issueOne, hc, hb, hd, hr, hsrc, hblock, Bool.not_true, Bool.false_eq_true, if_false, requestFor, placeFor]

end Able

end Issue

/-- Settles O54: what a grant takes and leaves, then the branches of one block request. -/
theorem grantOfASlot : Obligations.GrantOfASlot := by
  refine ⟨fun s n g r => ⟨grantSlots_succ_of_due n, freeTag_eq_some.1, nextRequest_spec, ?_, fun h hne => ?_, rfl, rfl,
    fun x hx => active_of_mem_grantTo hx⟩, fun s c => ⟨fun hidle => ?_, fun cur b hst hc hfree hlow => ?_⟩⟩
  · rw [grantTo_readSlot, if_pos rfl]
  · rw [grantTo_readSlot, if_neg hne]
  · rw [← delivering_iff, Bool.not_eq_true, ← freeBuffer_eq_none] at hidle
    exact issueOne_of_idle hidle
  · have hd := delivering_iff.2 hst
    have hb := freeBuffer_eq_some.2 ⟨hfree, hlow⟩
    refine ⟨fun hall => issueOne_of_all_issued hd hc hb (nextUnissued_eq_none hall 0), ?_⟩
    intro i run p q extents hi hrun hbefore hsrc n
    have hr : nextUnissued cur.frameBytes (s.channel c).runs 0 = some (i, run) := by
      rw [nextUnissued_eq_some hi hrun hbefore, Nat.zero_add]
    refine ⟨issueOne_of_no_block hd hc hb hr hsrc, fun block hblock => ⟨placeFor run q n cur.frameBytes, rfl, rfl, ?_, ?_⟩⟩
    · exact fun hB f hs hf => le_lastFrameOf_iff hB (Nat.le_add_right ..) hs hf
    · exact issueOne_of_block hd hc hb hr hsrc hblock

end Sys2Proof.Machine
end

-- ==== Proofs: the kinds of change that a command makes ====
section
/-! Every command changes the part by changes of the kinds below, one after another: what each kind leaves alone is said here once, and so
what every command keeps of the cues' counts (R81 to R83), and of the blocks that are not its own to change (R72, R120, R143, R159, R160,
R163), follows from its being made of them. -/

namespace Sys2Proof.Machine

open Relation

/-! ### What is not a command's own -/

/-- The commands that may change a group latch (R120). -/
def ChangesLatches (i : Instr) : Prop :=
  (∃ lines, i = .reset lines) ∨ i = .walkHeaderRead ∨ i = .walkEnd ∨ (∃ p, i = .formatCatalogue p) ∨ i = .formatComplete ∨
    (∃ p, i = .holdGroup p) ∨ (∃ p, i = .liftGroup p) ∨ ∃ g, i = .holdLineRise g

/-- The commands that may change a role (R159). -/
def ChangesRoles (i : Instr) : Prop := (∃ lines, i = .reset lines) ∨ ∃ q, i = .assignRole q

/-- The commands that may change a binding (R72, R160). -/
def ChangesBindings (i : Instr) : Prop := (∃ lines, i = .reset lines) ∨ (∃ q, i = .assignRole q) ∨ ∃ q, i = .bindChannel q

/-- The commands that may change the timing settings (R163). -/
def ChangesTiming (i : Instr) : Prop := (∃ lines, i = .reset lines) ∨ ∃ p, i = .setTiming p

/-- A command leaves alone what only other commands change. -/
structure Within (i : Instr) (s t : State) : Prop where
  pending : t.pending = s.pending
  memory : writesCatalogue i = false → t.memory = s.memory
  latches : t.hold.latches ≠ s.hold.latches → ChangesLatches i
  roles : ∀ p, (t.port p).role ≠ (s.port p).role → ChangesRoles i
  bindings : ∀ c, (t.channel c).port ≠ (s.channel c).port → ChangesBindings i
  timing : t.timing ≠ s.timing → ChangesTiming i

section Within
variable {i : Instr} {s t u : State}

theorem Within.refl (i : Instr) (s : State) : Within i s s :=
  ⟨rfl, fun _ => rfl, fun h => absurd rfl h, fun _ h => absurd rfl h, fun _ h => absurd rfl h, fun h => absurd rfl h⟩

/-- A value that differs after two changes was changed by one of them. -/
theorem changed_by_one {α : Type} {x y z : α} {P : Prop} (h : y ≠ x → P) (g : z ≠ y → P) (hne : z ≠ x) : P := by
  by_cases e : y = x
  · exact g (e ▸ hne)
  · exact h e

theorem Within.trans (h : Within i s t) (g : Within i t u) : Within i s u :=
  ⟨g.pending.trans h.pending, fun hw => (g.memory hw).trans (h.memory hw), changed_by_one h.latches g.latches,
    fun p => changed_by_one (h.roles p) (g.roles p), fun c => changed_by_one (h.bindings c) (g.bindings c),
    changed_by_one h.timing g.timing⟩

/-- What few commands may change beside the channels and the ports: the queue of waiting commands, catalogue memory, the group latches and
the timing settings. -/
def State.background (s : State) : List Instr × Memory × Groups × Timing := (s.pending, s.memory, s.hold.latches, s.timing)

/-- A change of other things than those is within every command. -/
theorem Within.of_eq (hr : ∀ p, (t.port p).role = (s.port p).role) (hb : ∀ c, (t.channel c).port = (s.channel c).port)
    (h : t.background = s.background) : Within i s t := by
  simp only [State.background, Prod.mk.injEq] at h
  obtain ⟨hp, hm, hl, ht⟩ := h
  exact ⟨hp, fun _ => hm, fun h => absurd hl h, fun p h => absurd (hr p) h, fun c h => absurd (hb c) h, fun h => absurd ht h⟩

end Within

/-! ### The kinds of change -/

/-- Whether a notice says that a cue has ended (R83). -/
def Notice.endsCue : Notice → Bool
  | .cueEnded .. => true
  | _ => false

/-- Whether a status says that all frames due of a cue have been sent (R83). -/
def CueStatus.delivers (x : CueStatus) : Bool := x = .played || x = .shortened || x = .muted

/-- A channel keeps its cue, and of its message and its engine job no more than it had, but for a disengage. -/
structure Channel.Rests (x y : Channel) : Prop where
  current : y.current = x.current
  message : y.message = x.message ∨ y.message = none
  job : y.job = x.job ∨ y.job = x.job.map ChannelJob.discarded ∨ y.job = none ∨ y.job = some .disengage

theorem Channel.Rests.refl (x : Channel) : x.Rests x := ⟨rfl, .inl rfl, .inl rfl⟩

/-- A cue keeps its tag, its range and its counts; a crossing may be forgotten. -/
structure CurrentCue.CountsAs (x y : CurrentCue) : Prop where
  tag : y.tag = x.tag
  f0 : y.f0 = x.f0
  f1 : y.f1 = x.f1
  next : y.next = x.next
  delivered : y.delivered = x.delivered
  gap : y.gap = x.gap
  concealed : y.concealed = x.concealed
  crossing : y.crossing = x.crossing ∨ y.crossing = none

/-- A cue that a grant makes current has delivered nothing; and it has a frame due, where linked records are known to be sound (R76). -/
structure CurrentCue.Starts (sound : Prop) (cur : CurrentCue) : Prop where
  counted : cur.counted
  due : sound → cur.next < cur.f1

/-- One change that a command may make; `sound` says whether the linked records are known to be sound. -/
inductive Change (i : Instr) (sound : Prop) : State → State → Prop
  /-- The channels keep their cues, and no notice is sent. -/
  | rests {s t : State} (hw : Within i s t) (hc : ∀ c, (s.channel c).Rests (t.channel c))
      (hn : ∀ p, (t.port p).notices ⊆ (s.port p).notices) : Change i sound s t
  /-- A notice is sent that is no CUE_ENDED. -/
  | told (s : State) (p : PortId) (n : Notice) (h : n.endsCue = false) : Change i sound s (notify p n s)
  /-- A current cue takes a mark (R115, R124, R127). -/
  | marked (s : State) (c : ChannelId) (f : CurrentCue → CurrentCue) (hf : ∀ cur : CurrentCue, cur.CountsAs (f cur)) :
      Change i sound s (s.setChannel c { s.channel c with current := (s.channel c).current.map f })
  /-- A message is assembled (R81). -/
  | assembled (s : State) (c : ChannelId) (cur : CurrentCue) (kinds : List FrameKind) (wait : Option Nat)
      (hc : (s.channel c).current = some cur) (hk : nextMessage (s.channel c) cur = some kinds) :
      Change i sound s (s.setChannel c { s.channel c with message := some (buildMessage (s.channel c) cur kinds), wait := wait })
  /-- A cue ends: with the status of a cue delivered only where nothing more of it is due (R83). -/
  | ended (s : State) (c : ChannelId) (cur : CurrentCue) (status : CueStatus) (hc : (s.channel c).current = some cur)
      (h : status.delivers = true → cur.endStatus = status ∧ cur.limit ≤ cur.next) : Change i sound s (endCue c status s)
  /-- A job is presented (R76, R77). -/
  | presented (s : State) (c : ChannelId) (j : ChannelJob) (due : Bool) (hs : j.isStart = true → (s.channel c).current = none)
      (hg : ∀ frame stop, j = .segment frame stop false →
        ∃ cur, (s.channel c).current = some cur ∧ (frame = cur.next ∨ frame ≤ cur.f1)) :
      Change i sound s (s.setChannel c { s.channel c with job := some j, disengageDue := due })
  /-- A start resolution is granted (R76). -/
  | started (s : State) (c : ChannelId) (cur : CurrentCue) (queue : List Cue) (runs : List Run) (hi : ∃ d, i = .startResolution d)
      (hj : (s.channel c).job.any ChannelJob.isStart = true) (hcur : cur.Starts sound) :
      Change i sound s (s.setChannel c { s.channel c with job := none, queue := queue, current := some cur, runs := runs })
  /-- A segment resolution is answered FAULTED (R78). -/
  | crossed (s : State) (c : ChannelId) (frame stop : Nat) (hj : (s.channel c).job = some (.segment frame stop false)) :
      Change i sound s (s.setChannel c { s.channel c with
        job := none
        current := (s.channel c).current.map fun cur => { cur with crossing := some frame }
        message := (s.channel c).message.map fun m => m.closeAt frame })
  /-- A message is sent (R82). -/
  | sent (s : State) (c : ChannelId) (m : Message) (hi : ∃ p, i = .outgoingArbitration p) (hm : (s.channel c).message = some m) :
      Change i sound s (s.setChannel c ((s.channel c).messageSent m))
  /-- The part is reset (R70, R156). -/
  | reset (s : State) (lines : Groups) (hi : i = .reset lines) :
      Change i sound s (State.afterReset s.memory lines s.moments s.pending)

/-! ### What every change leaves alone -/

section Frames
variable (s : State) (p : PortId) (c : ChannelId)

theorem port_raiseCause (k : Cause) (q : PortId) : (raiseCause k s).port q = s.port q := by simp only [State.port, raiseCause_ports]

theorem notifyBound_role (n : Notice) (q : PortId) : ((notifyBound c n s).port q).role = (s.port q).role := by
  unfold notifyBound
  split
  · exact notify_role s _ q n
  · rfl

/-- What a CUE_ENDED leaves to its port: what the end of the cue itself leaves alone. -/
theorem endCue_ports (status : CueStatus) {cur : CurrentCue} (h : (s.channel c).current = some cur) :
    (endCue c status s).ports = (notifyBound c (.cueEnded cur.tag status cur.delivered cur.gap cur.concealed) s).ports := by
  simp [endCue, h]

theorem setChannel_port_eq {x : Channel} (hx : x.port = (s.channel c).port) (d : ChannelId) :
    ((s.setChannel c x).channel d).port = (s.channel d).port := by
  rw [channel_setChannel]; split
  · next e => rw [hx, e]
  · rfl

end Frames

section Change
variable {i : Instr} {sound : Prop} {s t : State}

theorem Within.setChannel {c : ChannelId} {x : Channel} (hx : x.port = (s.channel c).port) : Within i s (s.setChannel c x) :=
  .of_eq (fun _ => rfl) (setChannel_port_eq s c hx) rfl

theorem endCue_within {c : ChannelId} {status : CueStatus} {cur : CurrentCue} (h : (s.channel c).current = some cur) :
    Within i s (endCue c status s) := by
  refine .of_eq (fun p => ?_) (fun d => ?_) (by simp [State.background])
  · simp only [State.port, endCue_ports s c status h]
    exact notifyBound_role s c _ p
  · rw [endCue_channel s c d status (by rw [h]; rfl)]
    split
    · next e => rw [e]; simp
    · rfl

theorem Change.within (h : Change i sound s t) : Within i s t := by
  cases h with
  | rests hw => exact hw
  | told p n => exact .of_eq (notify_role s p · n) (fun c => by rw [notify_channel]) (by simp [State.background])
  | ended c cur status hc => exact endCue_within hc
  | marked | assembled | presented | started | crossed | sent => exact .setChannel rfl
  | reset lines hi =>
    have own : ∃ lines, i = .reset lines := ⟨lines, hi⟩
    exact ⟨rfl, fun _ => rfl, fun _ => .inl own, fun _ _ => .inl own, fun _ _ => .inl own, fun _ => .inl own⟩

end Change

end Sys2Proof.Machine
end

-- ==== Proofs: every operation is made of changes ====
section
/-! Each operation of the part, from the notices to the jobs at the engine, is made of changes of the kinds above. A lemma for each, in the
order of the model's files. -/

namespace Sys2Proof.Machine

open Relation

/-- Changes, one after another. -/
def Changes (i : Instr) (sound : Prop) : State → State → Prop := ReflTransGen (Change i sound)

section Rules
variable {i : Instr} {sound : Prop} {s t u : State}

theorem Changes.refl : Changes i sound s s := ReflTransGen.refl

theorem Changes.trans (h : Changes i sound s t) (g : Changes i sound t u) : Changes i sound s u := ReflTransGen.trans h g

/-- The last change first, where it is what tells the part that it starts from. -/
theorem Changes.after (g : Changes i sound t u) (h : Changes i sound s t) : Changes i sound s u := h.trans g

theorem Changes.single (h : Change i sound s t) : Changes i sound s t := ReflTransGen.single h

theorem Changes.within (h : Changes i sound s t) : Within i s t := by
  induction h with
  | refl => exact .refl i s
  | tail _ hlast ih => exact ih.trans hlast.within

/-- A channel keeps its cue, and of its message and its job no more than it had. -/
theorem Changes.set (s : State) (c : ChannelId) {x : Channel} (hx : (s.channel c).Rests x)
    (hb : x.port ≠ (s.channel c).port → ChangesBindings i) : Changes i sound s (s.setChannel c x) := by
  refine .single (.rests ⟨rfl, fun _ => rfl, fun h => absurd rfl h, fun _ h => absurd rfl h, fun d hd => ?_, fun h => absurd rfl h⟩
    (fun d => ?_) fun _ => List.Subset.refl _)
  · rw [channel_setChannel] at hd
    split at hd
    · next e => exact hb (e ▸ hd)
    · exact absurd rfl hd
  · rw [channel_setChannel]
    split
    · next e => rw [e]; exact hx
    · exact .refl _

/-- A port is sent nothing, and keeps its role where the command may not change it. -/
theorem Changes.setPort (s : State) (p : PortId) {q : Port} (hr : q.role ≠ (s.port p).role → ChangesRoles i)
    (hn : q.notices ⊆ (s.port p).notices) : Changes i sound s (s.setPort p q) := by
  refine .single (.rests ⟨rfl, fun _ => rfl, fun h => absurd rfl h, fun d hd => ?_, fun _ h => absurd rfl h, fun h => absurd rfl h⟩
    (fun _ => .refl _) fun d => ?_)
  · rw [port_setPort] at hd
    split at hd
    · next e => exact hr (e ▸ hd)
    · exact absurd rfl hd
  · rw [port_setPort]
    split
    · next e => rw [e]; exact hn
    · exact List.Subset.refl _

/-- A port keeps its role and its notices. -/
theorem Changes.port (s : State) (p : PortId) {q : Port} (hr : q.role = (s.port p).role)
    (hn : q.notices = (s.port p).notices) : Changes i sound s (s.setPort p q) :=
  .setPort s p (fun h => absurd hr h) (by rw [hn]; exact List.Subset.refl _)

/-- A change of other things than channels and ports. -/
theorem Changes.other (hp : t.ports = s.ports) (hc : t.channels = s.channels) (hpend : t.pending = s.pending)
    (hm : writesCatalogue i = false → t.memory = s.memory) (hl : t.hold.latches ≠ s.hold.latches → ChangesLatches i)
    (ht : t.timing ≠ s.timing → ChangesTiming i) : Changes i sound s t := by
  have port : ∀ p, t.port p = s.port p := fun p => by simp only [State.port, hp]
  have channel : ∀ c, t.channel c = s.channel c := fun c => by simp only [State.channel, hc]
  exact .single (.rests ⟨hpend, hm, hl, fun p h => absurd (by rw [port]) h, fun c h => absurd (by rw [channel]) h, ht⟩
    (fun c => by rw [channel]; exact .refl _) fun p => by rw [port]; exact List.Subset.refl _)

/-- A change of blocks that every command may change. -/
theorem Changes.apart (hp : t.ports = s.ports) (hc : t.channels = s.channels) (h : t.background = s.background) : Changes i sound s t := by
  simp only [State.background, Prod.mk.injEq] at h
  obtain ⟨hpend, hm, hl, ht⟩ := h
  exact .other hp hc hpend (fun _ => hm) (fun h => absurd hl h) fun h => absurd ht h

/-- Catalogue memory is not this command's to leave alone. -/
theorem may_write {P : Prop} (h : writesCatalogue i = true) : writesCatalogue i = false → P := fun h' => by rw [h] at h'; cases h'

end Rules

/-! ### Shared operations -/

section Shared
variable {i : Instr} {sound : Prop} (s : State) (c : ChannelId)

theorem notify_changes (p : PortId) {n : Notice} (h : n.endsCue = false) : Changes i sound s (notify p n s) :=
  .single (.told s p n h)

theorem notifyBound_changes {n : Notice} (h : n.endsCue = false) : Changes i sound s (notifyBound c n s) := by
  unfold notifyBound
  split
  · exact notify_changes s _ h
  · exact .refl

theorem notifyControl_changes {n : Notice} (h : n.endsCue = false) : Changes i sound s (notifyControl n s) :=
  foldl_keeps (P := Changes i sound s) _ (fun t p ht => by
    split
    · exact ht.trans (notify_changes t p h)
    · exact ht) _ _ .refl

theorem raiseCause_changes (k : Cause) : Changes i sound s (raiseCause k s) :=
  .apart (by simp) (by simp) (by simp [State.background])
theorem alarmEvent_changes (d : FaultDetail) : Changes i sound s (alarmEvent d s) :=
  .apart (by simp) (by simp) (by simp [State.background])
theorem grantAll_changes : Changes i sound s (grantAll s) :=
  .apart (by simp) (by simp) (by simp [State.background])
theorem grantJob_changes : Changes i sound s (grantJob s) :=
  .apart (by simp) (by simp) (by simp [State.background])
theorem finishJob_changes : Changes i sound s (finishJob s) :=
  .apart (by simp) (by simp) (by simp [State.background])
theorem freeOrder_changes {α : Type} (rank : α → Nat) (l : List α) : Changes i sound s (freeOrder rank l s).2 :=
  .apart (by simp) (by simp) (by simp [State.background])
theorem setStore_changes (r : StoreReader) : Changes i sound s (s.setStore r) :=
  .apart rfl rfl rfl
theorem flagFaulted_changes (x : Slot) : Changes i sound s (flagFaulted x s) :=
  .apart rfl rfl rfl
theorem walkLinkedFault_changes (x : Slot) : Changes i sound s (walkLinkedFault x s) :=
  .apart rfl rfl rfl

theorem recordFault_changes (who : Requester) (part : RecordPart) (x : Slot) : Changes i sound s (recordFault who part x s) :=
  (flagFaulted_changes s x).trans ((alarmEvent_changes _ _).trans (notifyControl_changes _ rfl))

theorem noteRepairs_changes (n : Nat) : Changes i sound s (noteRepairs n s) :=
  .apart (by simp) (by simp) (by simp [State.background])

theorem writeRecord_changes (hw : writesCatalogue i = true) (x : Slot) (r : Record) : Changes i sound s (s.writeRecord x r) :=
  .other rfl rfl rfl (may_write hw) (fun h => absurd rfl h) fun h => absurd rfl h

theorem reply_changes (p : PortId) (code : ReplyCode) (fields : List Field) : Changes i sound s (reply p code fields s) := by
  cases h : (s.port p).service with
  | none => rw [reply_of_none p code fields s h]; exact .refl
  | some v => rw [reply_of_service p v code fields s h]; exact .port s p rfl rfl

end Shared

theorem Sifts.changes {i : Instr} {sound : Prop} {F : Slot → Prop} {s t : State} (hw : writesCatalogue i = true) (h : Sifts F s t) :
    Changes i sound s t := by
  induction h with
  | refl => exact .refl
  | repaired _ x w n ih => exact ih.trans ((writeRecord_changes _ hw x _).trans (noteRepairs_changes _ n))
  | faulted _ who part x _ ih => exact ih.trans (recordFault_changes _ who part x)
  | walkFaulted _ x _ ih => exact ih.trans (walkLinkedFault_changes _ x)

/-! ### Playback -/

section Playback
variable {i : Instr} {sound : Prop} (s : State) (c : ChannelId)

/-- A channel changes that keeps its cue, its message and its job. -/
theorem Changes.tended (s : State) (c : ChannelId) {x : Channel} (hc : x.current = (s.channel c).current)
    (hm : x.message = (s.channel c).message) (hj : x.job = (s.channel c).job) (hb : x.port = (s.channel c).port) :
    Changes i sound s (s.setChannel c x) :=
  .set s c ⟨hc, .inl hm, .inl hj⟩ fun h => absurd hb h

theorem withBuffer_changes (b : BufferId) (x : Buffer) : Changes i sound s (s.setChannel c ((s.channel c).withBuffer b x)) :=
  .tended s c rfl rfl rfl rfl

theorem forgetRequest_changes (b : BufferId) : Changes i sound s (forgetRequest c b s) := setStore_changes s _

theorem endMissing_changes (b : BufferId) : Changes i sound s (endMissing c b s) := by
  unfold endMissing
  exact (forgetRequest_changes s c b).trans (withBuffer_changes _ c b _)

theorem endData_changes (b : BufferId) (data : List Byte) : Changes i sound s (endData c b data s) := by
  unfold endData
  split
  · exact (forgetRequest_changes s c b).trans (withBuffer_changes _ c b _)
  · exact endMissing_changes s c b

theorem noteConcealed_changes : Changes i sound s (s.setChannel c (s.channel c).noteConcealed) :=
  .single (.marked s c (fun cur => { cur with concealNoticed := true }) fun _ => ⟨rfl, rfl, rfl, rfl, rfl, rfl, rfl, .inl rfl⟩)

theorem endConcealed_changes (b : BufferId) (block : Nat) (failure : Failure) :
    Changes i sound s (endConcealed c b block failure s) := by
  unfold endConcealed
  split
  · next place _ =>
    have h : Changes i sound s ((forgetRequest c b s).setChannel c (((forgetRequest c b s).channel c).withBuffer b (.concealed place))) :=
      (forgetRequest_changes s c b).trans (withBuffer_changes _ c b _)
    dsimp only
    split
    · split
      · exact h
      · exact h.trans ((noteConcealed_changes _ c).trans (notifyBound_changes _ c rfl))
    · exact h
  · exact endMissing_changes s c b

theorem failAttempt_changes (b : BufferId) (failure : Failure) : Changes i sound s (failAttempt c b failure s) := by
  unfold failAttempt
  split
  · exact .refl
  · split
    · exact endMissing_changes s c b
    · split
      · exact setStore_changes s _
      · exact endConcealed_changes s c b _ _

theorem releaseBuffers_changes : Changes i sound s (releaseBuffers c s) := by
  unfold releaseBuffers
  dsimp only
  split
  · exact .refl
  · exact .tended s c rfl rfl rfl rfl

theorem assemble_changes : Changes i sound s (assemble c s) := by
  unfold assemble
  dsimp only
  split
  · next cur hc _ =>
    split
    · next kinds hk => exact .single (.assembled s c cur kinds _ hc hk)
    · exact .refl
  · exact .refl

theorem issueOne_changes : Changes i sound s (issueOne c s) := by
  unfold issueOne
  dsimp only
  split
  · split
    · exact .refl
    · split
      · split
        · exact .refl
        · split
          · exact .refl
          · exact (setStore_changes s _).trans (.tended _ c rfl rfl rfl rfl)
      · exact .refl
  · exact .refl

theorem issueAll_changes : Changes i sound s (issueAll c s) :=
  (((issueOne_changes s c).trans (issueOne_changes _ c)).trans (issueOne_changes _ c)).trans (issueOne_changes _ c)

/-- A channel that discards its buffers keeps its cue, its message and its job. -/
theorem discardBuffers_changes : Changes i sound s (discardBuffers c s) := by
  unfold discardBuffers
  exact (setStore_changes s _).trans (.tended _ c rfl rfl rfl rfl)

theorem letGo_changes : Changes i sound s (letGo c s) := by
  unfold letGo
  exact (discardBuffers_changes s c).trans
    (.set _ c ⟨dropMessage_current _, .inr (dropMessage_message _), .inr (.inl (by simp))⟩ fun h => absurd (by simp) h)

theorem endCue_changes {status : CueStatus}
    (h : ∀ cur, (s.channel c).current = some cur → status.delivers = true → cur.endStatus = status ∧ cur.limit ≤ cur.next) :
    Changes i sound s (endCue c status s) := by
  cases hc : (s.channel c).current with
  | none => rw [endCue_of_none s c status hc]; exact .refl
  | some cur => exact .single (.ended s c cur status hc (h cur hc))

/-- A cue that ends CUT or FLUSHED is none whose frames have all been sent. -/
theorem endCue_undelivered_changes {status : CueStatus} (h : status.delivers = false) : Changes i sound s (endCue c status s) :=
  endCue_changes s c fun _ _ h' => by rw [h] at h'; cases h'

theorem enterState_changes (st : ChannelState) : Changes i sound s (enterState c st s) := .tended s c rfl rfl rfl rfl

theorem goOn_changes : Changes i sound s (goOn c s) := by
  unfold goOn
  split
  · split
    · exact enterState_changes s c _
    · exact .refl
  · exact (enterState_changes s c _).trans (notifyBound_changes _ c rfl)
  · exact (enterState_changes s c _).trans (notifyBound_changes _ c rfl)
  · exact .refl

theorem finishCue_changes : Changes i sound s (finishCue c s) := by
  unfold finishCue
  dsimp only
  split
  · next cur hc _ =>
    split
    · exact .refl
    · next hn =>
      have h : Changes i sound s (endCue c cur.endStatus s) := endCue_changes s c fun cur' h' _ => by
        obtain rfl : cur = cur' := Option.some_inj.1 (hc.symm.trans h')
        exact ⟨rfl, Nat.le_of_not_lt hn⟩
      split
      · exact h.trans (goOn_changes _ c)
      · split
        · exact h
        · exact .refl
  · exact .refl

theorem forgetCrossing_changes (st : ChannelState) :
    Changes i sound s (s.setChannel c { s.channel c with
      state := st, current := (s.channel c).current.map fun cur => { cur with crossing := none } }) := by
  have h := Changes.single (Change.marked (i := i) (sound := sound) s c (fun cur => { cur with crossing := none })
    fun _ => ⟨rfl, rfl, rfl, rfl, rfl, rfl, rfl, .inr rfl⟩)
  simpa [enterState, setChannel_setChannel] using h.trans (enterState_changes _ c st)

theorem keepRemainder_changes : Changes i sound s (keepRemainder c s) := by
  unfold keepRemainder
  exact (letGo_changes s c).trans (forgetCrossing_changes _ c _)

theorem stoppingEnd_changes : Changes i sound s (stoppingEnd c s) := by
  unfold stoppingEnd
  dsimp only
  split
  · split
    · exact goOn_changes s c
    · split
      · exact (endCue_undelivered_changes s c rfl).trans (goOn_changes _ c)
      · exact (keepRemainder_changes s c).trans (notifyBound_changes _ c rfl)
  · exact .refl

/-- A segment resolution that is due is one for a frame of the cue: its next frame, or the frame at the end of its run (R77, R90). -/
theorem segmentDue_frame {cur : CurrentCue} {runs : List Run} {frame stop : Nat} {discard : Bool}
    (h : segmentDue cur runs = some (.segment frame stop discard)) : frame = cur.next ∨ frame ≤ cur.f1 := by
  unfold segmentDue at h
  split at h
  · cases h
  · split at h
    · simp only [Option.some.injEq, ChannelJob.segment.injEq] at h
      exact .inl h.1.symm
    · split at h
      · next hr =>
        simp only [Option.some.injEq, ChannelJob.segment.injEq] at h
        simp only [Bool.and_eq_true, decide_eq_true_eq] at hr
        omega
      · cases h
    · cases h

theorem presentJob_changes : Changes i sound s (presentJob c s) := by
  unfold presentJob
  dsimp only
  split
  · next j _ h =>
    refine Changes.trans (.single (.presented s c j false ?_ ?_)) (grantJob_changes _)
    · intro hs
      rcases jobDue_cases s c h with ⟨-, rfl⟩ | ⟨-, hc, -⟩ | ⟨-, -, cur, -, hg⟩
      · cases hs
      · exact hc
      · obtain ⟨frame, rfl⟩ := segmentDue_cases hg
        cases hs
    · rintro frame stop rfl
      rcases jobDue_cases s c h with ⟨-, h⟩ | ⟨-, -, -, cue, -, h⟩ | ⟨-, -, cur, hc, hg⟩
      · cases h
      · cases h
      · exact ⟨cur, hc, segmentDue_frame hg⟩
  · exact .refl

theorem settleChannel_changes : Changes i sound s (settleChannel c s) :=
  (releaseBuffers_changes s c).trans <| (finishCue_changes _ c).trans <| (issueAll_changes _ c).trans <|
    (assemble_changes _ c).trans <| (stoppingEnd_changes _ c).trans (presentJob_changes _ c)

theorem settle_changes : Changes i sound s (settle c s) := (settleChannel_changes s c).trans (grantAll_changes _)

theorem muteCue_changes : Changes i sound s (muteCue c s) :=
  Changes.trans (.single (.marked s c (fun cur => { cur with muted := true }) fun _ => ⟨rfl, rfl, rfl, rfl, rfl, rfl, rfl, .inl rfl⟩))
    (letGo_changes _ c)

theorem stopCue_changes : Changes i sound s (stopCue c s) := by
  unfold stopCue
  split
  · exact .refl
  · exact (endCue_undelivered_changes s c rfl).trans ((enterState_changes _ c _).trans (notifyBound_changes _ c rfl))

theorem cutoffEvent_changes : Changes i sound s (cutoffEvent c s) := by
  unfold cutoffEvent
  dsimp only
  split
  · exact .refl
  · exact stopCue_changes s c
  · split
    · exact endCue_undelivered_changes s c rfl
    · exact (endCue_undelivered_changes s c rfl).trans (goOn_changes _ c)
  · split
    · exact endCue_undelivered_changes s c rfl
    · exact muteCue_changes s c

theorem judge_changes : Changes i sound s (judge c s) := by
  unfold judge
  split
  · exact cutoffEvent_changes s c
  · exact .refl

theorem judgeChannels_changes (l : List ChannelId) : Changes i sound s (judgeChannels l s) :=
  (foldl_keeps (P := Changes i sound s) _ (fun t c h => h.trans ((judge_changes t c).trans (settleChannel_changes _ c))) _ _
    (freeOrder_changes s _ _)).trans (grantAll_changes _)

end Playback

/-! ### Requests on channels -/

section Requests
variable {i : Instr} {sound : Prop}

theorem Changes.replied {s t : State} {p : PortId} {code : ReplyCode} {fields : List Field} (h : Changes i sound s t) :
    Changes i sound s (reply p code fields t) := h.trans (reply_changes t p code fields)

variable (s : State) (c : ChannelId) (p : PortId)

theorem releaseChannel_changes : Changes i sound s (releaseChannel c s) := by
  unfold releaseChannel
  exact (letGo_changes _ c).after ((endCue_undelivered_changes _ c rfl).after (.tended s c rfl rfl rfl rfl))

theorem clearCredit_changes (q : PortId) : Changes i sound s (clearCredit q c s) := .port s q rfl rfl

theorem dropOldCredit_changes : Changes i sound s (dropOldCredit c s) := by
  unfold dropOldCredit
  split
  · exact clearCredit_changes s c _
  · exact .refl

theorem bindTo_changes (hb : ChangesBindings i) (q : PortId) : Changes i sound s (bindTo c q s) := by
  unfold bindTo
  dsimp only
  refine (dropOldCredit_changes s c).trans ((clearCredit_changes _ c q).trans ?_)
  exact .set _ c ⟨rfl, .inl rfl, .inl rfl⟩ fun _ => hb

theorem unbind_changes (hb : ChangesBindings i) (q : PortId) : Changes i sound s (unbind q c s) := by
  unfold unbind
  refine (releaseChannel_changes s c).trans <| (clearCredit_changes _ c q).trans (Changes.trans ?_ (settle_changes _ c))
  exact .set _ c ⟨rfl, .inl rfl, .inl rfl⟩ fun _ => hb

theorem bindChannel_changes (hb : ChangesBindings i) (port : Byte) : Changes i sound s (bindChannel p port s c) := by
  unfold bindChannel
  dsimp only
  split
  · split
    · exact reply_changes s p _ _
    · exact .replied ((releaseChannel_changes s c).trans ((bindTo_changes _ c hb _).trans (settle_changes _ c)))
  · exact reply_changes s p _ _

theorem queueCue_changes (cue : Cue) : Changes i sound s (queueCue p cue s c) := by
  unfold queueCue
  dsimp only
  split
  · exact reply_changes s p _ _
  · exact .replied ((settle_changes _ c).after (.tended s c rfl rfl rfl rfl))

theorem endRetries_changes : Changes i sound s (endRetries c s) := by
  unfold endRetries
  refine foldl_keeps (P := Changes i sound s) _ (fun t b h => ?_) _ _ .refl
  split
  · split
    · exact h.trans (endMissing_changes t c b)
    · exact h
  · exact h

theorem stopChannel_changes : Changes i sound s (stopChannel p s c) := by
  unfold stopChannel wrongState
  split
  · refine .replied (Changes.trans ?_ (settle_changes _ c))
    exact ((enterState_changes s c _).trans (endRetries_changes _ c)).trans
      (.set _ c ⟨rfl, .inl rfl, .inr (.inl rfl)⟩ fun h => absurd rfl h)
  · exact reply_changes s p _ _

theorem haltChannel_changes : Changes i sound s (haltChannel p s c) := by
  unfold haltChannel wrongState
  dsimp only
  split
  · split
    · exact .replied ((enterState_changes s c _).trans (settle_changes _ c))
    · exact .replied ((enterState_changes s c _).trans ((notifyBound_changes _ c rfl).trans (settle_changes _ c)))
  · exact reply_changes s p _ _

theorem resumeChannel_changes : Changes i sound s (resumeChannel p s c) := by
  unfold resumeChannel wrongState
  dsimp only
  split
  · exact .replied ((enterState_changes s c _).trans (settle_changes _ c))
  · exact reply_changes s p _ _

theorem clearCut_changes : Changes i sound s (clearCut p s c) := by
  unfold clearCut
  split
  · exact .replied (enterState_changes s c _)
  · exact reply_changes s p _ _

theorem flushChannel_changes : Changes i sound s (flushChannel p s c) := by
  unfold flushChannel wrongState
  dsimp only
  split
  · exact reply_changes s p _ _
  · exact .replied ((settle_changes _ c).after ((endCue_undelivered_changes _ c rfl).after (.tended s c rfl rfl rfl rfl)))

theorem setLanes_changes (count word : Nat) (entries : List Byte) : Changes i sound s (setLanes p count word entries s c) := by
  unfold setLanes
  dsimp only
  split
  · exact reply_changes s p _ _
  · split
    · exact reply_changes s p _ _
    · split
      · exact reply_changes s p _ _
      · split
        · exact reply_changes s p _ _
        · exact .replied (Changes.tended s c (takeLanes_current ..) (by unfold Channel.takeLanes; split <;> rfl) (takeLanes_job ..)
            (by unfold Channel.takeLanes; split <;> rfl))

theorem setCutoff_changes (behaviour : Byte) : Changes i sound s (setCutoff p behaviour s c) := by
  unfold setCutoff
  dsimp only
  split
  · exact reply_changes s p _ _
  · split
    · exact reply_changes s p _ _
    · split
      · exact .replied ((settle_changes _ c).after ((judge_changes _ c).after (.tended s c rfl rfl rfl rfl)))
      · exact .replied (Changes.tended s c rfl rfl rfl rfl)

theorem channelStatus_changes (role : Role) : Changes i sound s (channelStatus p role s c) := by
  unfold channelStatus
  split <;> exact reply_changes s p _ _

/-! ### Holds -/

theorem copyHolds_changes (groups itemHold : Byte) : Changes i sound s (copyHolds groups itemHold s c) :=
  .single (.marked s c (fun cur => { cur with groups := groups, itemHold := itemHold })
    fun _ => ⟨rfl, rfl, rfl, rfl, rfl, rfl, rfl, .inl rfl⟩)

theorem writeHolds_changes (hw : writesCatalogue i = true) (x : Slot) (groups itemHold : Byte) :
    Changes i sound s (writeHolds x groups itemHold s) := by
  unfold writeHolds
  refine Changes.trans ?_ (judgeChannels_changes _ _)
  exact foldl_keeps (P := Changes i sound s) _ (fun t c h => h.trans (copyHolds_changes t c _ _)) _ _ (writeRecord_changes s hw x _)

theorem presentMirror_changes : Changes i sound s (presentMirror s) := by
  unfold presentMirror
  exact (grantJob_changes _).after (.apart rfl rfl rfl)

theorem setHold_changes (h : HoldUnit) (hl : h.latches ≠ s.hold.latches → ChangesLatches i) : Changes i sound s (s.setHold h) :=
  .other rfl rfl rfl (fun _ => rfl) hl fun h => absurd rfl h

theorem setLatch_changes (hl : ChangesLatches i) (g : GroupId) (source : HoldSource) (port : Option PortId) :
    Changes i sound s (setLatch g source port s) := by
  unfold setLatch
  exact (setHold_changes s _ fun _ => hl).trans <| (notifyControl_changes _ rfl).trans <|
    (judgeChannels_changes _ _).trans (presentMirror_changes _)

theorem groupRequest_changes (group : Byte) (work : GroupId → State) (hw : ∀ g, Changes i sound s (work g)) :
    Changes i sound s (groupRequest p group work s) := by
  unfold groupRequest
  split
  · exact hw _
  · exact reply_changes s p _ _

theorem holdGroupOn_changes (hl : ChangesLatches i) (g : GroupId) : Changes i sound s (holdGroupOn p s g) := by
  unfold holdGroupOn
  split
  · exact reply_changes s p _ _
  · exact .replied (setLatch_changes s hl _ _ _)

theorem liftGroupOn_changes (hl : ChangesLatches i) (g : GroupId) : Changes i sound s (liftGroupOn p s g) := by
  unfold liftGroupOn
  split
  · exact reply_changes s p _ _
  · split
    · exact reply_changes s p _ _
    · exact .replied ((setHold_changes s _ fun _ => hl).trans <| (notifyControl_changes _ rfl).trans (presentMirror_changes _))

theorem lineRise_changes (hl : ChangesLatches i) (g : GroupId) : Changes i sound s (lineRise g s) := by
  unfold lineRise
  split
  · exact .refl
  · have h : Changes i sound s (raiseCause .holdLine (s.setHold { s.hold with lines := s.hold.lines ||| groupBit g })) :=
      (raiseCause_changes _ _).after (.apart rfl rfl rfl)
    dsimp only
    split
    · exact h
    · exact h.trans (setLatch_changes _ hl _ _ _)

theorem lineFall_changes (g : GroupId) : Changes i sound s (lineFall g s) := by
  unfold lineFall
  split
  · exact (raiseCause_changes _ _).after (.apart rfl rfl rfl)
  · exact .refl

theorem serveMirrorWrite_changes (hw : writesCatalogue i = true) : Changes i sound s (serveMirrorWrite s) := by
  unfold serveMirrorWrite
  split
  · refine Changes.trans ?_ (finishJob_changes _)
    split
    · exact .apart rfl rfl rfl
    · exact .other rfl rfl rfl (may_write hw) (fun h => absurd rfl h) fun h => absurd rfl h
  · exact .refl

/-! ### Pins, attention, roles and timing -/

theorem setPins_changes (pins : List Pin) : Changes i sound s (s.setPins pins) := .apart rfl rfl rfl

theorem setAttention_changes (a : Attention) : Changes i sound s (s.setAttention a) := .apart rfl rfl rfl

theorem sendLapses_changes (cause : LapseCause) (l : List Pin) : Changes i sound s (sendLapses cause l s) :=
  foldl_keeps (P := Changes i sound s) _ (fun t x h => h.trans (notify_changes t x.port rfl)) _ _ .refl

theorem unpin_changes (role : Role) (slot : Slot) (port : Byte) : Changes i sound s (unpin p role slot port s) := by
  unfold unpin
  split
  · dsimp only
    split
    · split
      · exact reply_changes s p _ _
      · exact .replied (setPins_changes s _)
    · exact reply_changes s p _ _
  · exact reply_changes s p _ _

theorem setTiming_changes (ht : ChangesTiming i) (collection read retry : Nat) :
    Changes i sound s (setTiming p collection read retry s) := by
  unfold setTiming
  split
  · exact reply_changes s p _ _
  · split
    · exact reply_changes s p _ _
    · split
      · exact reply_changes s p _ _
      · have h : Changes i sound s { s with timing := { collection := collection, read := read, retry := retry } } :=
          .other rfl rfl rfl (fun _ => rfl) (fun h => absurd rfl h) fun _ => ht
        exact h.replied

theorem clearLinkFaults_changes : Changes i sound s (clearLinkFaults s) := by
  have port : ∀ q, (clearLinkFaults s).port q = { s.port q with linkFault := false } := fun q => rowGet_map ..
  exact .single (.rests (.of_eq (fun q => by rw [port]) (fun _ => rfl) rfl) (fun _ => .refl _)
    fun q => by rw [port]; exact List.Subset.refl _)

theorem acknowledge_changes (causes : CauseSet) : Changes i sound s (acknowledge p causes s) := by
  unfold acknowledge
  dsimp only
  split
  · exact .replied ((setAttention_changes s _).trans (clearLinkFaults_changes _))
  · exact .replied (setAttention_changes s _)

theorem setRole_changes (hr : ChangesRoles i) (pins : List Pin) (role : Role) :
    Changes i sound s ((s.setPins pins).setPort p { s.port p with role := role }) := by
  refine (setPins_changes s pins).trans (.setPort _ p (fun _ => hr) ?_)
  exact List.Subset.refl _

theorem assignRole_changes (hr : ChangesRoles i) (hb : ChangesBindings i) (target : PortId) (role : Role) :
    Changes i sound s (assignRole p target role s) := by
  unfold assignRole
  dsimp only
  split
  · exact reply_changes s p _ _
  · have h := foldl_keeps (P := Changes i sound s) (fun w c => unbind target c w) (fun t c h => h.trans (unbind_changes t c hb target))
      (freeOrder Fin.val (s.boundTo target) s).1 _ (freeOrder_changes s Fin.val (s.boundTo target))
    exact (h.trans (setRole_changes _ target hr _ role)).replied

/-! ### The store reader -/

theorem setReadSlot_changes (g : ReadTag) (x : ReadSlot) : Changes i sound s (s.setReadSlot g x) := setStore_changes s _

theorem setStalled_changes (b : Bool) : Changes i sound s (setStalled b s) := .apart rfl rfl rfl

theorem stallBegins_changes (block : Nat) : Changes i sound s (stallBegins block s) := by
  unfold stallBegins
  split
  · exact (setStalled_changes s true).trans (alarmEvent_changes _ _)
  · exact .refl

theorem stallEnds_changes : Changes i sound s (stallEnds s) := by
  unfold stallEnds
  split
  · exact .refl
  · exact setStalled_changes s false

theorem cancelSlots_changes (l : List (ReadTag × ChannelId × BufferId)) (acc : Nat × State) :
    Changes i sound acc.2 (l.foldl cancelSlot acc).2 := by
  induction l generalizing acc with
  | nil => exact .refl
  | cons x rest ih =>
    have h : Changes i sound acc.2 (cancelSlot acc x).2 := (setReadSlot_changes acc.2 _ _).trans (failAttempt_changes _ _ _ _)
    exact h.trans (ih _)

theorem resetStore_changes : Changes i sound s (resetStore s).2 := by
  have ho := freeOrder_changes (i := i) (sound := sound) s (fun x : ReadTag × ChannelId × BufferId => x.1.val) s.activeSlots
  unfold resetStore
  cases hf : freeOrder (fun x : ReadTag × ChannelId × BufferId => x.1.val) s.activeSlots s with
  | mk order t =>
    rw [hf] at ho
    have hc := cancelSlots_changes (i := i) (sound := sound) order (0, t)
    cases hs : order.foldl cancelSlot (0, t) with
    | mk n u =>
      rw [hs] at hc
      have hg := (ho.trans hc).trans ((setStore_changes u _).trans ((stallEnds_changes (clearStale u)).trans (grantAll_changes _)))
      simp only [hs]
      exact (foldl_keeps (P := Changes i sound s) (fun w (x : ReadTag × ChannelId × BufferId) => settleChannel x.2.1 w)
        (fun t x h => h.trans (settleChannel_changes t x.2.1)) order _ hg).trans (grantAll_changes _)

theorem afterAnswer_changes : Changes i sound s (afterAnswer c s) := (grantAll_changes s).trans (settle_changes _ c)

theorem answerTag_changes (tag : Byte) (attempt : ChannelId → BufferId → State → State)
    (ha : ∀ c b t, Changes i sound t (attempt c b t)) : Changes i sound s (answerTag tag attempt s) := by
  unfold answerTag
  split
  · unfold answerSlot
    split
    · exact .refl
    · exact ((setReadSlot_changes s _ _).trans (stallEnds_changes _)).trans (grantAll_changes _)
    · exact ((setReadSlot_changes s _ _).trans (ha _ _ _)).trans (afterAnswer_changes _ _)
  · exact .refl

theorem slotTimeout_changes (g : ReadTag) : Changes i sound s (slotTimeout g s) := by
  unfold slotTimeout
  split
  · next c b block _ _ =>
    exact ((setReadSlot_changes s g _).trans (failAttempt_changes _ c b _)).trans
      ((stallBegins_changes _ block).trans (afterAnswer_changes _ c))
  · exact .refl

theorem expireWait_changes (cur : CurrentCue) : Changes i sound s (expireWait c cur s) := by
  unfold expireWait
  have h : Changes i sound s (notifyBound c (.collectionTimeout cur.tag cur.next) (keepRemainder c s)) :=
    (keepRemainder_changes s c).trans (notifyBound_changes _ c rfl)
  have hu : Changes i sound s (if cur.muted then endCue c .cut (notifyBound c (.collectionTimeout cur.tag cur.next) (keepRemainder c s))
      else notifyBound c (.collectionTimeout cur.tag cur.next) (keepRemainder c s)) := by
    split
    · exact h.trans (endCue_undelivered_changes _ c rfl)
    · exact h
  dsimp only
  split
  · exact (hu.trans (judge_changes _ c)).trans (settle_changes _ c)
  · exact hu.trans (settle_changes _ c)

theorem waitTimeout_changes : Changes i sound s (waitTimeout c s) := by
  unfold waitTimeout
  dsimp only
  split
  · split
    · exact expireWait_changes s c _
    · exact .refl
  · exact .refl

/-! ### The time base -/

theorem advanceFaultTime_changes : Changes i sound s (advanceFaultTime s) := by
  unfold advanceFaultTime
  split
  · exact .refl
  · exact .apart rfl rfl rfl

theorem tickTimers_changes : Changes i sound s (tickTimers s) := by
  refine .single (.rests (.of_eq (fun _ => rfl) (fun c => by rw [channel_tickTimers]; rfl) rfl) (fun c => ?_)
    fun _ => List.Subset.refl _)
  rw [channel_tickTimers]
  exact ⟨rfl, .inl rfl, .inl rfl⟩

theorem countPins_changes : Changes i sound s (countPins s) := by
  unfold countPins
  exact (setPins_changes s _).trans ((freeOrder_changes _ _ _).trans (sendLapses_changes _ _ _))

theorem setPrescaler_changes (n : Nat) : Changes i sound s { s with pinTable := { s.pinTable with prescaler := n } } :=
  .apart rfl rfl rfl

theorem tickPins_changes : Changes i sound s (tickPins s) := by
  unfold tickPins
  split
  · exact (setPrescaler_changes s 0).trans (countPins_changes _)
  · exact setPrescaler_changes s _

theorem tick_changes : Changes i sound s (tick s) :=
  (advanceFaultTime_changes s).trans ((tickTimers_changes _).trans (tickPins_changes _))

/-! ### The links -/

theorem linkFault_changes : Changes i sound s (linkFault p s) := by
  unfold linkFault
  exact (raiseCause_changes _ _).after (.port s p rfl rfl)

theorem takeIn_changes (body : List Byte) : Changes i sound s (takeIn p body s) := by
  unfold takeIn
  dsimp only
  split
  · exact linkFault_changes s p
  · split
    · exact .port s p rfl rfl
    · split
      · exact .port s p rfl rfl
      · exact linkFault_changes s p

theorem takeCredit_changes (channel : Byte) (amount : Nat) : Changes i sound s (takeCredit p channel amount s) := by
  unfold takeCredit
  split
  · dsimp only
    split
    · exact .port s p rfl rfl
    · exact .refl
  · exact .refl

theorem judgeRequest_changes (body : List Byte) : Changes i sound s (judgeRequest p body s) := by
  unfold judgeRequest
  dsimp only
  split
  · exact .port s p rfl rfl
  · split
    · split
      · exact (reply_changes _ _ _ _).after (.port s p rfl rfl)
      · split
        · exact (grantJob_changes _).after (.port s p rfl rfl)
        · exact .port s p rfl rfl
    · exact .port s p rfl rfl

theorem dispatch_changes : Changes i sound s (dispatch p s) := by
  unfold dispatch
  dsimp only
  split
  · split
    · exact (judgeRequest_changes _ p _).after (.port s p rfl rfl)
    · exact .refl
  · exact .refl

theorem takeAudio_changes (m : Message) : Changes i sound s (takeAudio p c m s) := .port s p rfl rfl

theorem channelSends_changes (hi : i = .outgoingArbitration p) (m : Message) (hm : (s.channel c).message = some m) :
    Changes i sound s (channelSends p c m s) := by
  have h : Changes i sound (takeAudio p c m s)
      (finishCue c ((takeAudio p c m s).setChannel c (((takeAudio p c m s).channel c).messageSent m))) :=
    Changes.trans (.single (.sent _ c m ⟨p, hi⟩ hm)) (finishCue_changes _ c)
  unfold channelSends
  refine (takeAudio_changes s c p m).trans ?_
  dsimp only
  split
  · exact (h.trans (judge_changes _ c)).trans (settle_changes _ c)
  · exact h.trans (settle_changes _ c)

/-- The audio message that the outgoing arbiter takes is one that its channel holds (R162). -/
theorem audioChoice_message {p : PortId} {m : Message} (h : audioChoice p s = some (c, m)) : (s.channel c).message = some m := by
  obtain ⟨d, -, hd⟩ := List.exists_of_findSome?_eq_some h
  dsimp only at hd
  split at hd
  · obtain ⟨m', hm', e⟩ := Option.map_eq_some_iff.1 hd
    cases e
    exact hm'
  · cases hd

theorem arbitrate_changes (hi : i = .outgoingArbitration p) : Changes i sound s (arbitrate p s) := by
  unfold arbitrate
  dsimp only
  split
  · exact .refl
  · split
    · exact .port s p rfl rfl
    · next hn => exact .setPort s p (fun h => absurd rfl h) (by simp [Port.transmit, hn])
    · split
      · next h => exact channelSends_changes s _ p hi _ (audioChoice_message s _ h)
      · exact .refl

theorem sendPiece_changes : Changes i sound s (sendPiece p s) := by
  unfold sendPiece
  dsimp only
  split
  · exact .refl
  · exact .port s p rfl rfl

end Requests

/-! ### The jobs of ports at the engine -/

section Jobs
variable {i : Instr} {sound : Prop} (hw : writesCatalogue i = true) (s : State) (p : PortId)
include hw

theorem withItem_changes (key : Key) (words : List RecordWord) (faulted : State → List Field) (work : Slot → State → State)
    (h : ∀ x t, Changes i sound t (work x t)) : Changes i sound s (withItem p key words faulted work s) :=
  withItem_keeps (P := Changes i sound s) (fun n x r t ht => ht.trans ((writeRecord_changes t hw x r).trans (noteRepairs_changes _ n)))
    (fun who part x t ht => ht.trans (recordFault_changes t who part x)) (fun _ _ _ _ ht => ht.replied) p key words faulted work
    (fun x t ht => ht.trans (h x t)) s .refl

theorem lookup_changes (who : Requester) (key : Key) : Changes i sound s (lookup (recordFault who .key) key s).2 :=
  lookup_keeps (P := Changes i sound s) (fun n x r t ht => ht.trans ((writeRecord_changes t hw x r).trans (noteRepairs_changes _ n)))
    (recordFault who .key) (fun x t ht => ht.trans (recordFault_changes t who .key x)) key s .refl

/-- A record is written, and the engine's tables change. -/
theorem writeTables_changes (x : Slot) (r : Record) (e : Engine) : Changes i sound s ((s.writeRecord x r).setEngine e) :=
  (writeRecord_changes s hw x r).trans (.apart rfl rfl rfl)

theorem enterItemJob_changes (key : Key) (rate channels sampleBytes length : Nat) :
    Changes i sound s (enterItemJob p key rate channels sampleBytes length s) := by
  have hl := lookup_changes (i := i) (sound := sound) hw s (.port p) key
  unfold enterItemJob
  split
  · exact reply_changes s p _ _
  · split
    · next e => rw [e] at hl; exact hl.replied
    · next e => rw [e] at hl; exact hl.replied
    · next e =>
      rw [e] at hl
      split
      · exact hl.replied
      · exact (hl.trans (writeTables_changes hw _ _ _ _)).replied

theorem openPassOn_changes (x : Slot) : Changes i sound s (openPassOn p x s) := by
  unfold openPassOn
  dsimp only
  split
  · exact reply_changes s p _ _
  · split
    · exact reply_changes s p _ _
    · exact (writeRecord_changes s hw x _).replied

theorem addExtentOn_changes (j : Fin 4) (e : Extent) (x : Slot) : Changes i sound s (addExtentOn p j e x s) := by
  unfold addExtentOn
  dsimp only
  split_ifs
  · exact reply_changes s p _ _
  · exact reply_changes s p _ _
  · exact reply_changes s p _ _
  · exact reply_changes s p _ _
  · exact (writeRecord_changes s hw x _).replied

theorem addExtentJob_changes (key : Key) (pass start count : Nat) : Changes i sound s (addExtentJob p key pass start count s) := by
  unfold addExtentJob
  split_ifs
  · exact withItem_changes hw s p key _ _ _ fun x t => addExtentOn_changes hw t p _ _ x
  · exact reply_changes s p _ _
  · exact reply_changes s p _ _

theorem closePassOn_changes (j : Fin 4) (n : Nat) (x : Slot) : Changes i sound s (closePassOn p j n x s) := by
  unfold closePassOn
  dsimp only
  split_ifs
  · exact reply_changes s p _ _
  · exact reply_changes s p _ _
  · exact reply_changes s p _ _
  · exact (writeRecord_changes s hw x _).replied

theorem closePassJob_changes (key : Key) (pass length : Nat) : Changes i sound s (closePassJob p key pass length s) := by
  unfold closePassJob
  split_ifs
  · exact withItem_changes hw s p key _ _ _ fun x t => closePassOn_changes hw t p _ _ x
  · exact reply_changes s p _ _
  · exact reply_changes s p _ _

theorem withdrawPassOn_changes (role : Role) (j : Fin 4) (x : Slot) : Changes i sound s (withdrawPassOn p role j x s) := by
  unfold withdrawPassOn
  dsimp only
  split_ifs
  · exact reply_changes s p _ _
  · exact reply_changes s p _ _
  · exact reply_changes s p _ _
  · exact reply_changes s p _ _
  · exact (writeRecord_changes s hw x _).replied

theorem withdrawPassJob_changes (role : Role) (key : Key) (pass : Nat) : Changes i sound s (withdrawPassJob p role key pass s) := by
  unfold withdrawPassJob
  split_ifs
  · exact withItem_changes hw s p key _ _ _ fun x t => withdrawPassOn_changes hw t p role _ x
  · exact reply_changes s p _ _

theorem spliceOn_changes (a b : Nat) (source : Source) (x : Slot) : Changes i sound s (spliceOn p a b source x s) := by
  unfold spliceOn
  dsimp only
  split
  · exact reply_changes s p _ _
  · split_ifs
    · exact reply_changes s p _ _
    · exact (writeRecord_changes s hw x _).replied

theorem spliceJob_changes (key : Key) (a b kind pass offset : Nat) : Changes i sound s (spliceJob p key a b kind pass offset s) := by
  unfold spliceJob
  split
  · exact reply_changes s p _ _
  · exact withItem_changes hw s p key _ _ _ fun x t => spliceOn_changes hw t p a b _ x

theorem releaseItemOn_changes (x : Slot) : Changes i sound s (releaseItemOn p x s) := by
  unfold releaseItemOn
  dsimp only
  split_ifs
  · exact (writeRecord_changes s hw x _).replied
  · exact reply_changes s p _ _

theorem reopenItemOn_changes (x : Slot) : Changes i sound s (reopenItemOn p x s) := by
  unfold reopenItemOn
  dsimp only
  split_ifs
  · exact reply_changes s p _ _
  · exact reply_changes s p _ _
  · exact reply_changes s p _ _
  · exact (writeRecord_changes s hw x _).replied

theorem holdItemOn_changes (x : Slot) : Changes i sound s (holdItemOn p x s) := by
  unfold holdItemOn
  dsimp only
  split_ifs
  · exact reply_changes s p _ _
  · exact (writeHolds_changes s hw x _ _).replied

theorem liftItemOn_changes (x : Slot) : Changes i sound s (liftItemOn p x s) := by
  unfold liftItemOn
  dsimp only
  split_ifs
  · exact (writeHolds_changes s hw x _ _).replied
  · exact reply_changes s p _ _

theorem setGroupsOn_changes (set : Byte) (x : Slot) : Changes i sound s (setGroupsOn p set x s) := by
  unfold setGroupsOn
  exact (writeHolds_changes s hw x _ _).replied

theorem setGroupsJob_changes (key : Key) (set : Byte) : Changes i sound s (setGroupsJob p key set s) := by
  unfold setGroupsJob
  split_ifs
  · exact withItem_changes hw s p key _ _ _ fun x t => setGroupsOn_changes hw t p set x
  · exact reply_changes s p _ _

omit hw in
theorem pinItemOn_changes (role : Role) (seconds : Nat) (x : Slot) : Changes i sound s (pinItemOn p role seconds x s) := by
  unfold pinItemOn
  split
  · exact reply_changes s p _ _
  · split
    · exact reply_changes s p _ _
    · exact (setPins_changes s _).replied

theorem freeSlot_changes (x : Slot) (r : Record) : Changes i sound s (freeSlot x r s) := writeTables_changes hw s x r _

theorem retireItemOn_changes (x : Slot) : Changes i sound s (retireItemOn p x s) := by
  unfold retireItemOn
  dsimp only
  split
  · exact reply_changes s p _ _
  · split
    · exact reply_changes s p _ _
    · split
      · exact reply_changes s p _ _
      · split
        · exact (freeSlot_changes hw s x _).replied
        · exact (writeRecord_changes s hw x _).replied

omit hw in
theorem clearFaulted_changes (x : Slot) : Changes i sound s (clearFaulted x s) := .apart rfl rfl rfl

theorem restoreInto_changes (x : Slot) (r : Record) : Changes i sound s (restoreInto p x r s) := by
  unfold restoreInto
  exact ((writeTables_changes hw s x r _).trans (clearFaulted_changes _ x)).replied

theorem restoreItemJob_changes (x : Slot) (image : List Byte) : Changes i sound s (restoreItemJob p x image s) := by
  have hl := lookup_changes (i := i) (sound := sound) hw s (.port p) (parseImage image).key
  unfold restoreItemJob
  dsimp only
  split
  · exact reply_changes s p _ _
  · split_ifs
    · exact reply_changes s p _ _
    · exact reply_changes s p _ _
    · split
      · next e => rw [e] at hl; exact hl.replied
      · next e => rw [e] at hl; exact hl.trans (restoreInto_changes hw _ p x _)

theorem discardItemJob_changes (x : Slot) : Changes i sound s (discardItemJob p x s) := by
  unfold discardItemJob
  split_ifs
  · exact reply_changes s p _ _
  · exact reply_changes s p _ _
  · exact (((setPins_changes s _).trans (sendLapses_changes _ _ _)).trans
      ((freeSlot_changes hw _ x _).trans (clearFaulted_changes _ x))).replied

/-- Every catalogue job but a format. -/
theorem job_changes (r : Request) (role : Role) : Changes i sound s (r.job p role s) := by
  cases r with
  | enterItem key rate ch sb len => exact enterItemJob_changes hw s p key _ _ _ _
  | findItem key => exact withItem_changes hw s p key _ _ _ fun x t => reply_changes t p _ _
  | describeItem key => exact withItem_changes hw s p key _ _ _ fun x t => reply_changes t p _ _
  | releaseItem key => exact withItem_changes hw s p key _ _ _ fun x t => releaseItemOn_changes hw t p x
  | reopenItem key => exact withItem_changes hw s p key _ _ _ fun x t => reopenItemOn_changes hw t p x
  | splice key a b kind pass offset => exact spliceJob_changes hw s p key _ _ _ _ _
  | openPass key => exact withItem_changes hw s p key _ _ _ fun x t => openPassOn_changes hw t p x
  | addExtent key pass start count => exact addExtentJob_changes hw s p key _ _ _
  | closePass key pass length => exact closePassJob_changes hw s p key _ _
  | withdrawPass key pass => exact withdrawPassJob_changes hw s p role key _
  | holdItem key => exact withItem_changes hw s p key _ _ _ fun x t => holdItemOn_changes hw t p x
  | liftItem key => exact withItem_changes hw s p key _ _ _ fun x t => liftItemOn_changes hw t p x
  | setGroups key set => exact setGroupsJob_changes hw s p key set
  | retireItem key => exact withItem_changes hw s p key _ _ _ fun x t => retireItemOn_changes hw t p x
  | restoreItem slot image => exact restoreItemJob_changes hw s p _ image
  | discardItem slot => exact discardItemJob_changes hw s p _
  | pinItem key seconds => exact withItem_changes hw s p key _ _ _ fun x t => pinItemOn_changes t p role _ x
  | formatCatalogue | unpinItem | bindChannel | queueCue | stopChannel | haltChannel | resumeChannel | clearCut | flushChannel
  | setLanes | setCutoff | channelStatus | holdGroup | liftGroup | storeReset | ackAttention | setAttentionMask | attentionSummary
  | rearmAlarm | readFaultRecord | clearFaultRecord | assignRole | setTiming => exact .refl

end Jobs

/-! ### The walk and the format -/

section Walk
variable {i : Instr} {sound : Prop} (s : State) (p : PortId)

theorem walkDone_changes (cause : WalkCause) (offline : Bool) (counts : WalkCounts) :
    Changes i sound s (walkDone cause offline counts s) := by
  unfold walkDone
  have h : Changes i sound s { raiseCause .walkDone s with
      attention := { (raiseCause .walkDone s).attention with faultTime := 0, offline := offline } } :=
    (raiseCause_changes s .walkDone).trans (.apart rfl rfl rfl)
  dsimp only
  split
  · exact (h.trans (alarmEvent_changes _ _)).trans (notifyControl_changes _ rfl)
  · exact h.trans (notifyControl_changes _ rfl)

theorem answerStarting_changes : Changes i sound s (answerStarting p s) :=
  foldl_keeps (P := Changes i sound s) (fun t q => if q ≠ p && t.portWaits q then reply q .starting [] t else t) (fun t q h => by
    split
    · exact h.replied
    · exact h) _ s .refl

theorem formatBegins_changes (hw : writesCatalogue i = true) (hl : ChangesLatches i) : Changes i sound s (formatBegins p s) := by
  unfold formatBegins
  refine Changes.trans ?_ (answerStarting_changes _ p)
  exact .other rfl rfl rfl (may_write hw) (fun _ => hl) fun h => absurd rfl h

theorem formatEnds_changes (hw : writesCatalogue i = true) (hl : ChangesLatches i) : Changes i sound s (formatEnds p s) := by
  unfold formatEnds
  refine Changes.trans ?_ (grantJob_changes _)
  refine Changes.replied (Changes.trans ?_ (walkDone_changes _ _ _ _))
  exact .other rfl rfl rfl (may_write hw) (fun _ => hl) fun h => absurd rfl h

theorem walkEnds_changes (hl : ChangesLatches i) (offline : Bool) : Changes i sound s (walkEnds offline s) := by
  unfold walkEnds
  refine Changes.trans (Changes.trans ?_ (walkDone_changes _ _ _ _)) (grantJob_changes _)
  exact .other rfl rfl rfl (fun _ => rfl) (fun _ => hl) fun h => absurd rfl h

theorem completeFormat_changes (hw : writesCatalogue i = true) (hl : ChangesLatches i) : Changes i sound s (completeFormat s) := by
  unfold completeFormat
  split
  · exact formatEnds_changes s _ hw hl
  · exact .refl

theorem walkLast_changes (hl : ChangesLatches i) : Changes i sound s (walkLast s) := by
  unfold walkLast
  split
  · split
    · exact walkEnds_changes s hl _
    · exact .refl
  · exact .refl

theorem headerRead_changes (hw : writesCatalogue i = true) (hl : ChangesLatches i) : Changes i sound s (headerRead s) := by
  have hread : Changes i sound s (readHeaderWords s).2 := by
    unfold readHeaderWords
    refine Changes.trans ?_ (noteRepairs_changes _ _)
    exact .other rfl rfl rfl (may_write hw) (fun h => absurd rfl h) fun h => absurd rfl h
  unfold headerRead
  split
  · dsimp only
    split
    · exact hread.trans (.other rfl rfl rfl (fun _ => rfl) (fun _ => hl) fun h => absurd rfl h)
    · exact hread.trans (walkEnds_changes _ hl _)
  · exact .refl

theorem leaveUnlinked_changes (x : Slot) : Changes i sound s (leaveUnlinked x s) := .apart rfl rfl rfl

theorem placeSound_changes (hw : writesCatalogue i = true) (x : Slot) : Changes i sound s (placeSound x s) := by
  have hl : Changes i sound s (lookup walkLinkedFault (s.record x).key s).2 :=
    lookup_keeps (P := Changes i sound s) (fun n x r t ht => ht.trans ((writeRecord_changes t hw x r).trans (noteRepairs_changes _ n)))
      walkLinkedFault (fun x t ht => ht.trans (walkLinkedFault_changes t x)) _ s .refl
  unfold placeSound
  dsimp only
  split
  · next e => rw [e] at hl; exact hl.trans (.apart rfl rfl rfl)
  · next e => rw [e] at hl; exact hl.trans (.apart rfl rfl rfl)

theorem placeSlot_changes (hw : writesCatalogue i = true) (x : Slot) : Changes i sound s (placeSlot x s) := by
  have h1 := (readWord_sifts (fun _ => True) s x .state).changes (sound := sound) hw
  unfold placeSlot
  split
  · next e => rw [e] at h1; exact h1.trans (leaveUnlinked_changes _ x)
  · next t e =>
    rw [e] at h1
    split
    · exact h1.trans (.apart rfl rfl rfl)
    · exact h1.trans ((writeRecord_changes t hw x _).trans (.apart rfl rfl rfl))
    · exact h1.trans (leaveUnlinked_changes _ x)
    all_goals
      have h2 := (readWords_sifts (fun _ => True) t x wordsBesideState).changes (sound := sound) hw
      split
      · next e' => rw [e'] at h2; exact (h1.trans h2).trans (leaveUnlinked_changes _ x)
      · next e' =>
        rw [e'] at h2
        split
        · exact (h1.trans h2).trans (leaveUnlinked_changes _ x)
        · exact (h1.trans h2).trans (placeSound_changes _ hw x)

theorem walkOne_changes (hw : writesCatalogue i = true) : Changes i sound s (walkOne s) := by
  unfold walkOne
  split
  · split
    · exact (placeSlot_changes s hw _).trans (.apart rfl rfl rfl)
    · exact .refl
  · exact .refl

end Walk

/-! ### The jobs of channels at the engine -/

section ChannelJobs
variable {i : Instr} {sound : Prop} (s : State) (c : ChannelId)

theorem endJob_changes : Changes i sound s (endJob c s) := .set s c ⟨rfl, .inl rfl, .inr (.inr (.inl rfl))⟩ fun h => absurd rfl h

theorem skipCue_changes (cue : Cue) (reason : SkipReason) : Changes i sound s (skipCue c cue reason s) := by
  unfold skipCue
  exact (goOn_changes _ c).after ((notifyBound_changes _ c rfl).after (.tended s c rfl rfl rfl rfl))

theorem setEngagement_changes (e : Option Slot) : Changes i sound s (s.setEngagement c e) := .apart rfl rfl rfl

/-- What is known of a start resolution that is granted: the record is that of a linked slot, and gives no cause to refuse (R76). -/
theorem judgeStart_ok {cue : Cue} {role : Role} {ignore : Bool} {x : Slot} {r : Record} {t : State}
    (h : judgeStart c cue role ignore s = (.ok (x, r), t)) : r = t.record x ∧ startRefusal r cue role ignore t.hold.latches = none := by
  unfold judgeStart at h
  split at h
  · cases h
  · split at h
    · cases h
    · cases h
    · split at h
      · cases h
      · split at h
        · cases h
        · next hr => cases h; exact ⟨rfl, hr⟩

/-- A granted cue ends no earlier than it starts (R57, R58). -/
theorem startedCue_le {r : Record} {cue : Cue} (x : Slot) (h : frameAt cue.start.toNat r.rate < r.length) :
    (startedCue cue x r).f0 ≤ (startedCue cue x r).f1 := by
  have hmono : frameAt cue.start.toNat r.rate ≤ frameAt (cue.start.toNat + cue.duration.toNat) r.rate := by
    simp only [frameAt, Nat.add_mul]
    omega
  change frameAt cue.start.toNat r.rate ≤ (cueEnd cue.start.toNat cue.duration.toNat r.rate r.length).1
  unfold cueEnd
  dsimp only
  split_ifs
  · exact Nat.le_of_lt h
  · exact hmono
  · exact Nat.le_of_lt h

/-- A granted cue has delivered nothing, and has a frame due where its record's rate is legal (R59, R76). -/
theorem startedCue_starts {r : Record} {cue : Cue} {role : Role} {ignore : Bool} {latches : Groups} (x : Slot)
    (h : startRefusal r cue role ignore latches = none) (hr : sound → rateLegal r.rate = true) : (startedCue cue x r).Starts sound :=
  ⟨⟨rfl, startedCue_le x (startRefusal_inRange h), Nat.le_refl 0, fun _ h => by cases h⟩,
    fun hs => (framesOfAGrantedCue r cue role ignore latches x (hr hs) h).2.1⟩

/-- A grant empties the channel's place at the engine, fills its engagement, and makes the cue current, as one change. -/
theorem startCue_changes (hi : ∃ d, i = .startResolution d) (hj : (s.channel c).job.any ChannelJob.isStart = true) (cue : Cue) (x : Slot)
    (r : Record) (h : (startedCue cue x r).Starts sound) :
    Changes i sound s (startCue c cue x r (endJob c (s.setEngagement c (some x)))) := by
  refine (setEngagement_changes s c (some x)).trans ?_
  have hch : ∀ d, (s.setEngagement c (some x)).channel d = s.channel d := fun _ => rfl
  have hstart := Changes.single (Change.started (s.setEngagement c (some x)) c (startedCue cue x r) (s.channel c).queue.tail
    (resolveRun r (startedCue cue x r).f0 (startedCue cue x r).f1).toList hi hj h)
  simpa [startCue, endJob, setChannel_setChannel, hch] using hstart

theorem takeStart_changes (hi : ∃ d, i = .startResolution d) {cue : Cue} {role : Role} {ignore discard : Bool}
    (hj : (s.channel c).job = some (.start cue role ignore discard)) {answer : StartAnswer}
    (h : ∀ x r, answer = .ok (x, r) → (startedCue cue x r).Starts sound) : Changes i sound s (takeStart c cue discard answer s) := by
  unfold takeStart
  split
  · split
    · exact endJob_changes s c
    · exact (endJob_changes s c).trans (skipCue_changes _ c _ _)
  · next x r =>
    dsimp only
    split
    · exact ((setEngagement_changes s c _).trans (endJob_changes _ c)).trans (.tended _ c rfl rfl rfl rfl)
    · exact (startCue_changes s c hi (by simp [hj, ChannelJob.isStart]) cue x r (h x r rfl)).trans (judge_changes _ c)

theorem serveStart_changes (hw : writesCatalogue i = true) (hi : ∃ d, i = .startResolution d)
    (hs : sound → ArbiterLaw s ∧ RecordLaw s) : Changes i sound s (serveStart c s) := by
  unfold serveStart
  split
  · next cue role ignore discard hj =>
    split
    · next hg =>
      obtain ⟨answer, t, e, ht, hx⟩ := judgeStart_cases s c cue role ignore
      rw [e]
      refine (ht.changes hw).trans ((Changes.trans ?_ (settle_changes _ c)).trans (finishJob_changes _))
      refine takeStart_changes t c hi (by rw [ht.channel]; exact hj) fun x r ha => ?_
      subst ha
      obtain ⟨hr, hgrant⟩ := judgeStart_ok s c e
      refine startedCue_starts x hgrant fun hsound => ?_
      obtain ⟨harb, hrec⟩ := hs hsound
      have hform : s.inFormat = false := inFormat_of_not_starting (Bool.eq_false_iff.2 fun hst => by
        simp [channelGranted, State.isServing, harb.1 hst] at hg)
      have hlinked : x ∈ s.engine.linkedSlots := by rw [← ht.linkedSlots]; exact hx x r rfl
      have hrate : r.rate = (s.record x).rate := by rw [hr, (ht.record x).1]
      rw [hrate]
      have hformat := ((sound_iff _).1 (hrec hform x hlinked)).format
      simp only [formatLegal, Bool.and_eq_true] at hformat
      exact hformat.1
    · exact .refl
  · exact .refl

theorem takeSegment_changes {frame stop : Nat} {discard : Bool} (hj : (s.channel c).job = some (.segment frame stop discard))
    (answer : Option Run) : Changes i sound s (takeSegment c frame discard answer s) := by
  unfold takeSegment
  dsimp only
  split
  · exact endJob_changes s c
  · next hd =>
    split
    · exact (endJob_changes s c).trans (.tended _ c rfl rfl rfl rfl)
    · rw [Bool.not_eq_true] at hd
      subst hd
      simpa [endJob, setChannel_setChannel] using Changes.single (Change.crossed s c frame stop hj)

theorem serveSegment_changes (hw : writesCatalogue i = true) : Changes i sound s (serveSegment c s) := by
  unfold serveSegment
  split
  · next frame stop discard hj =>
    split
    · have hsift := judgeSegment_sifts s c frame stop
      cases e : judgeSegment c frame stop s with
      | mk answer t =>
        rw [e] at hsift
        exact (hsift.changes hw).trans <| (takeSegment_changes t c (by rw [hsift.channel]; exact hj) answer).trans <|
          (settle_changes _ c).trans (finishJob_changes _)
    · exact .refl
  · exact .refl

theorem drain_changes (hw : writesCatalogue i = true) (x : Slot) : Changes i sound s (drain c x s) := by
  have h1 := (readWords_sifts (fun _ => True) s x [.state]).changes (sound := sound) hw
  unfold drain
  split
  · exact .refl
  · split
    · next e => rw [e] at h1; exact h1.trans (recordFault_changes _ _ _ x)
    · next t e =>
      rw [e] at h1
      have h2 := (readWords_sifts (fun _ => True) t x (.key :: .retiring :: passWords)).changes (sound := sound) hw
      split
      · split
        · next e' => rw [e'] at h2; exact (h1.trans h2).trans (recordFault_changes _ _ _ x)
        · next u e' =>
          rw [e'] at h2
          have hfree := (h1.trans h2).trans (freeSlot_changes hw u x (u.record x).freeRetired)
          dsimp only
          split
          · exact hfree.trans (notify_changes _ _ rfl)
          · exact hfree
      · exact h1

theorem emptyEntry_changes (hw : writesCatalogue i = true) : Changes i sound s (emptyEntry c s) := by
  unfold emptyEntry
  split
  · exact .refl
  · dsimp only
    split
    · exact (setEngagement_changes s c none).trans (drain_changes _ c hw _)
    · exact setEngagement_changes s c none

theorem serveDisengage_changes (hw : writesCatalogue i = true) : Changes i sound s (serveDisengage c s) := by
  unfold serveDisengage
  split
  · split
    · exact (((emptyEntry_changes s c hw).trans (endJob_changes _ c)).trans (settle_changes _ c)).trans (finishJob_changes _)
    · exact .refl
  · exact .refl

end ChannelJobs

end Sys2Proof.Machine
end

-- ==== Proofs: the cues' counts, and what only some commands change ====
section
/-! Every command is made of changes; and what follows for the counts of the cues (R81 to R83), and for the blocks that only some commands
change. -/

namespace Sys2Proof.Machine

open Relation

/-! ### Every command -/

section Commands
variable {sound : Prop} {s : State} {p : PortId} {v : Service} {r : Request}

theorem writesCatalogue_of_presentsJob (p : PortId) (h : r.presentsJob = true) : writesCatalogue (r.command p) = true := by
  cases r with
  | enterItem | findItem | describeItem | releaseItem | reopenItem | splice | openPass | addExtent | closePass | withdrawPass | holdItem
  | liftItem | setGroups | retireItem | restoreItem | discardItem | formatCatalogue | pinItem => rfl
  | unpinItem | bindChannel | queueCue | stopChannel | haltChannel | resumeChannel | clearCut | flushChannel | setLanes | setCutoff
  | channelStatus | holdGroup | liftGroup | storeReset | ackAttention | setAttentionMask | attentionSummary | rearmAlarm
  | readFaultRecord | clearFaultRecord | assignRole | setTiming => cases h

/-- A request that names a channel is refused, or is the work on that channel (R72). -/
theorem onChannel_changes {i : Instr} (channel : Byte) (work : ChannelId → State) (h : ∀ c, Changes i sound s (work c)) :
    Changes i sound s (onChannel p channel work s) :=
  onChannel_keeps s p channel work (fun _ _ => reply_changes s p _ _) h

theorem onBound_changes {i : Instr} (channel : Byte) (work : ChannelId → State) (h : ∀ c, Changes i sound s (work c)) :
    Changes i sound s (onBound p channel work s) :=
  onBound_keeps s p channel work (fun _ _ => reply_changes s p _ _) fun c _ => h c

/-- A request that presents no job. -/
theorem exec_request_changes (h : Serves s p v r) (hj : r.presentsJob = false) :
    ∃ t, exec (r.command p) s = .next t ∧ Changes (r.command p) sound s t := by
  obtain ⟨hv, he⟩ := h
  obtain ⟨kind, tag, role, request⟩ := v
  dsimp only at he
  subst he
  cases request with
  | pinItem key seconds =>
    have hs : ¬ (1 ≤ seconds.toNat ∧ seconds.toNat ≤ 86400) := of_decide_eq_false hj
    simp only [Request.command, exec, execPinItem, servePinItem, hv, if_neg hs]
    exact ⟨_, rfl, reply_changes s p _ _⟩
  | unpinItem =>
    simp only [Request.command, exec, execUnpinItem, serveUnpinItem, hv]
    exact ⟨_, rfl, unpin_changes s p _ _ _⟩
  | bindChannel =>
    simp only [Request.command, exec, execBindChannel, serveBindChannel, hv]
    exact ⟨_, rfl, onChannel_changes _ _ fun c => bindChannel_changes s c p (.inr (.inr ⟨p, rfl⟩)) _⟩
  | queueCue =>
    simp only [Request.command, exec, execQueueCue, serveQueueCue, hv]
    exact ⟨_, rfl, onBound_changes _ _ fun c => queueCue_changes s c p _⟩
  | stopChannel =>
    simp only [Request.command, exec, execStopChannel, serveStopChannel, hv]
    exact ⟨_, rfl, onBound_changes _ _ fun c => stopChannel_changes s c p⟩
  | haltChannel =>
    simp only [Request.command, exec, execHaltChannel, serveHaltChannel, hv]
    exact ⟨_, rfl, onBound_changes _ _ fun c => haltChannel_changes s c p⟩
  | resumeChannel =>
    simp only [Request.command, exec, execResumeChannel, serveResumeChannel, hv]
    exact ⟨_, rfl, onBound_changes _ _ fun c => resumeChannel_changes s c p⟩
  | clearCut =>
    simp only [Request.command, exec, execClearCut, serveClearCut, hv]
    exact ⟨_, rfl, onBound_changes _ _ fun c => clearCut_changes s c p⟩
  | flushChannel =>
    simp only [Request.command, exec, execFlushChannel, serveFlushChannel, hv]
    exact ⟨_, rfl, onBound_changes _ _ fun c => flushChannel_changes s c p⟩
  | setLanes =>
    simp only [Request.command, exec, execSetLanes, serveSetLanes, hv]
    exact ⟨_, rfl, onBound_changes _ _ fun c => setLanes_changes s c p _ _ _⟩
  | setCutoff =>
    simp only [Request.command, exec, execSetCutoff, serveSetCutoff, hv]
    exact ⟨_, rfl, onBound_changes _ _ fun c => setCutoff_changes s c p _⟩
  | channelStatus =>
    simp only [Request.command, exec, execChannelStatus, serveChannelStatus, hv]
    exact ⟨_, rfl, onChannel_changes _ _ fun c => channelStatus_changes s c p _⟩
  | holdGroup =>
    simp only [Request.command, exec, execHoldGroup, serveHoldGroup, hv]
    exact ⟨_, rfl, groupRequest_changes s p _ _ fun g =>
      holdGroupOn_changes s p (.inr (.inr (.inr (.inr (.inr (.inl ⟨p, rfl⟩)))))) g⟩
  | liftGroup =>
    simp only [Request.command, exec, execLiftGroup, serveLiftGroup, hv]
    exact ⟨_, rfl, groupRequest_changes s p _ _ fun g =>
      liftGroupOn_changes s p (.inr (.inr (.inr (.inr (.inr (.inr (.inl ⟨p, rfl⟩))))))) g⟩
  | storeReset =>
    simp only [Request.command, exec, execStoreReset, serveStoreReset, hv]
    exact ⟨_, rfl, (resetStore_changes s).replied⟩
  | ackAttention =>
    simp only [Request.command, exec, execAckAttention, serveAckAttention, hv]
    exact ⟨_, rfl, acknowledge_changes s p _⟩
  | setAttentionMask =>
    simp only [Request.command, exec, execSetAttentionMask, serveSetAttentionMask, hv]
    exact ⟨_, rfl, (setAttention_changes s _).replied⟩
  | attentionSummary =>
    simp only [Request.command, exec, execAttentionSummary, serveAttentionSummary, hv]
    exact ⟨_, rfl, reply_changes s p _ _⟩
  | rearmAlarm =>
    simp only [Request.command, exec, execRearmAlarm, serveRearmAlarm, hv]
    exact ⟨_, rfl, (setAttention_changes s _).replied⟩
  | readFaultRecord =>
    simp only [Request.command, exec, execReadFaultRecord, serveReadFaultRecord, hv]
    exact ⟨_, rfl, reply_changes s p _ _⟩
  | clearFaultRecord =>
    simp only [Request.command, exec, execClearFaultRecord, serveClearFaultRecord, hv]
    exact ⟨_, rfl, (setAttention_changes s _).replied⟩
  | assignRole port role =>
    simp only [Request.command, exec, execAssignRole, serveAssignRole, hv]
    refine ⟨_, rfl, ?_⟩
    split
    · split
      · exact assignRole_changes s p (.inr ⟨p, rfl⟩) (.inr (.inl ⟨p, rfl⟩)) _ _
      · exact reply_changes s p _ _
    · exact reply_changes s p _ _
  | setTiming =>
    simp only [Request.command, exec, execSetTiming, serveSetTiming, hv]
    exact ⟨_, rfl, setTiming_changes s p (.inr ⟨p, rfl⟩) _ _ _⟩
  | enterItem | findItem | describeItem | releaseItem | reopenItem | splice | openPass | addExtent | closePass | withdrawPass | holdItem
  | liftItem | setGroups | retireItem | restoreItem | discardItem | formatCatalogue => cases hj

/-- FORMAT_CATALOGUE. -/
theorem exec_format_changes (h : Serves s p v .formatCatalogue) :
    ∃ t, exec (.formatCatalogue p) s = .next t ∧ Changes (.formatCatalogue p) sound s t := by
  refine ⟨_, exec_format h, ?_⟩
  split_ifs
  · exact .refl
  · exact reply_changes s p _ _
  · exact (reply_changes s p _ _).trans (finishJob_changes _)
  · exact formatBegins_changes s p rfl (.inr (.inr (.inr (.inl ⟨p, rfl⟩))))
  · exact reply_changes s p _ _
  · exact .refl

theorem requestCommand_changes (r : Request) (p : PortId) (s : State) :
    ∃ t, exec (r.command p) s = .next t ∧ Changes (r.command p) sound s t := by
  rcases service_cases r p s with ⟨v, q, h, eq⟩ | e
  · rw [eq]
    cases hj : q.presentsJob with
    | false => exact exec_request_changes h hj
    | true =>
      by_cases hq : q = .formatCatalogue
      · subst hq
        exact exec_format_changes h
      · have hw := writesCatalogue_of_presentsJob p hj
        refine ⟨_, exec_job h hj hq, ?_⟩
        exact catalogueJob_keeps (P := Changes _ sound s) (fun _ _ _ _ ht => ht.replied) (fun t ht => ht.trans (finishJob_changes t)) p _
          (fun t ht => ht.trans (job_changes hw t p q v.role)) s .refl
  · exact ⟨s, e, .refl⟩

/-- Every command answers a next state, and comes to it by changes of the kinds above. -/
theorem exec_changes (i : Instr) (s : State) : ∃ t, exec i s = .next t ∧ Changes i (ArbiterLaw s ∧ RecordLaw s) s t := by
  cases i with
  | reset lines => exact ⟨_, rfl, .single (.reset s lines rfl)⟩
  | walkHeaderRead => exact ⟨_, rfl, headerRead_changes s rfl (.inr (.inl rfl))⟩
  | walkSlot => exact ⟨_, rfl, walkOne_changes s rfl⟩
  | walkEnd => exact ⟨_, rfl, walkLast_changes s (.inr (.inr (.inl rfl)))⟩
  | formatComplete => exact ⟨_, rfl, completeFormat_changes s rfl (.inr (.inr (.inr (.inr (.inl rfl)))))⟩
  | messageDiscard p bytes =>
    refine ⟨_, rfl, ?_⟩
    split
    · exact linkFault_changes s p
    · exact .refl
  | requestArrival p body => exact ⟨_, rfl, takeIn_changes s p body⟩
  | requestDispatch p => exact ⟨_, rfl, dispatch_changes s p⟩
  | credit p c n => exact ⟨_, rfl, takeCredit_changes s p c n.toNat⟩
  | outgoingArbitration p => exact ⟨_, rfl, arbitrate_changes s p rfl⟩
  | audioPiece p => exact ⟨_, rfl, sendPiece_changes s p⟩
  | blockData tag data =>
    refine ⟨_, rfl, ?_⟩
    split
    · exact answerTag_changes s tag _ fun c b t => endData_changes t c b data
    · exact .refl
  | blockFail tag reason => exact ⟨_, rfl, answerTag_changes s tag _ fun c b t => failAttempt_changes t c b _⟩
  | readTimeout g => exact ⟨_, rfl, slotTimeout_changes s g⟩
  | storeMessageDiscard bytes => exact ⟨_, rfl, .refl⟩
  | collectionTimeout c => exact ⟨_, rfl, waitTimeout_changes s c⟩
  | holdLineRise g => exact ⟨_, rfl, lineRise_changes s (.inr (.inr (.inr (.inr (.inr (.inr (.inr ⟨g, rfl⟩))))))) g⟩
  | holdLineFall g => exact ⟨_, rfl, lineFall_changes s g⟩
  | millisecondTick => exact ⟨_, rfl, tick_changes s⟩
  | pinCountdown =>
    refine ⟨_, rfl, ?_⟩
    split
    · exact tick_changes s
    · exact .refl
  | startResolution c => exact ⟨_, rfl, serveStart_changes s c rfl ⟨c, rfl⟩ id⟩
  | segmentResolution c => exact ⟨_, rfl, serveSegment_changes s c rfl⟩
  | disengage c => exact ⟨_, rfl, serveDisengage_changes s c rfl⟩
  | mirrorWrite => exact ⟨_, rfl, serveMirrorWrite_changes s rfl⟩
  | enterItem p => exact requestCommand_changes (.enterItem ⟨0, 0⟩ 0 0 0 0) p s
  | findItem p => exact requestCommand_changes (.findItem ⟨0, 0⟩) p s
  | describeItem p => exact requestCommand_changes (.describeItem ⟨0, 0⟩) p s
  | releaseItem p => exact requestCommand_changes (.releaseItem ⟨0, 0⟩) p s
  | reopenItem p => exact requestCommand_changes (.reopenItem ⟨0, 0⟩) p s
  | splice p => exact requestCommand_changes (.splice ⟨0, 0⟩ 0 0 0 0 0) p s
  | openPass p => exact requestCommand_changes (.openPass ⟨0, 0⟩) p s
  | addExtent p => exact requestCommand_changes (.addExtent ⟨0, 0⟩ 0 0 0) p s
  | closePass p => exact requestCommand_changes (.closePass ⟨0, 0⟩ 0 0) p s
  | withdrawPass p => exact requestCommand_changes (.withdrawPass ⟨0, 0⟩ 0) p s
  | holdItem p => exact requestCommand_changes (.holdItem ⟨0, 0⟩) p s
  | liftItem p => exact requestCommand_changes (.liftItem ⟨0, 0⟩) p s
  | setGroups p => exact requestCommand_changes (.setGroups ⟨0, 0⟩ 0) p s
  | retireItem p => exact requestCommand_changes (.retireItem ⟨0, 0⟩) p s
  | restoreItem p => exact requestCommand_changes (.restoreItem 0 []) p s
  | discardItem p => exact requestCommand_changes (.discardItem 0) p s
  | formatCatalogue p => exact requestCommand_changes .formatCatalogue p s
  | pinItem p => exact requestCommand_changes (.pinItem ⟨0, 0⟩ 0) p s
  | unpinItem p => exact requestCommand_changes (.unpinItem 0 0) p s
  | bindChannel p => exact requestCommand_changes (.bindChannel 0 0) p s
  | queueCue p => exact requestCommand_changes (.queueCue 0 ⟨0, ⟨0, 0⟩, 0, 0⟩) p s
  | stopChannel p => exact requestCommand_changes (.stopChannel 0) p s
  | haltChannel p => exact requestCommand_changes (.haltChannel 0) p s
  | resumeChannel p => exact requestCommand_changes (.resumeChannel 0) p s
  | clearCut p => exact requestCommand_changes (.clearCut 0) p s
  | flushChannel p => exact requestCommand_changes (.flushChannel 0) p s
  | setLanes p => exact requestCommand_changes (.setLanes 0 0 0 []) p s
  | setCutoff p => exact requestCommand_changes (.setCutoff 0 0) p s
  | channelStatus p => exact requestCommand_changes (.channelStatus 0) p s
  | holdGroup p => exact requestCommand_changes (.holdGroup 0) p s
  | liftGroup p => exact requestCommand_changes (.liftGroup 0) p s
  | storeReset p => exact requestCommand_changes .storeReset p s
  | ackAttention p => exact requestCommand_changes (.ackAttention 0) p s
  | setAttentionMask p => exact requestCommand_changes (.setAttentionMask 0) p s
  | attentionSummary p => exact requestCommand_changes .attentionSummary p s
  | rearmAlarm p => exact requestCommand_changes .rearmAlarm p s
  | readFaultRecord p => exact requestCommand_changes .readFaultRecord p s
  | clearFaultRecord p => exact requestCommand_changes .clearFaultRecord p s
  | assignRole p => exact requestCommand_changes (.assignRole 0 0) p s
  | setTiming p => exact requestCommand_changes (.setTiming 0 0 0) p s

end Commands

/-! ### Counts agree with progress (O6) -/

section Counts
variable {i : Instr} {sound : Prop} {s t : State} {x y : Channel} {cur : CurrentCue} {m : Message}

theorem CurrentCue.CountsAs.counted {a b : CurrentCue} (h : a.CountsAs b) (ha : a.counted) : b.counted := by
  obtain ⟨h1, h2, h3, h4⟩ := ha
  unfold CurrentCue.counted
  rw [h.f0, h.f1, h.next, h.delivered, h.gap, h.concealed]
  refine ⟨h1, h2, h3, ?_⟩
  rcases h.crossing with e | e <;> rw [e]
  · exact h4
  · simp

theorem CurrentCue.CountsAs.message {a b : CurrentCue} (h : a.CountsAs b) (hm : m.counted a) : m.counted b := by
  unfold Message.counted at hm ⊢
  rw [h.next, h.tag, h.f1]
  exact hm

/-- A cue does not run past its last frame: F1, or the crossing (R78). -/
theorem CurrentCue.counted.limit_le (h : cur.counted) : cur.limit ≤ cur.f1 := by
  unfold CurrentCue.limit
  cases hc : cur.crossing with
  | none => exact Nat.le_refl _
  | some x => exact h.2.2.2 x hc

theorem Channel.Rests.counted (h : x.Rests y) (hx : x.counted) : y.counted := by
  obtain ⟨h1, h2, h3, h4⟩ := hx
  unfold Channel.counted
  rw [h.current]
  have discarded : ∀ j : Option ChannelJob, (j.map ChannelJob.discarded).any ChannelJob.isStart = j.any ChannelJob.isStart ∧
      ∀ frame stop, j.map ChannelJob.discarded ≠ some (.segment frame stop false) := by
    rintro (_ | (_ | _ | _)) <;> simp [ChannelJob.discarded, ChannelJob.isStart]
  refine ⟨h1, ?_, ?_, ?_⟩
  · rcases h.message with e | e <;> rw [e]
    · exact h2
    · simp
  · rcases h.job with e | e | e | e <;> rw [e]
    · exact h3
    · rw [(discarded _).1]; exact h3
    · simp
    · simp [ChannelJob.isStart]
  · rcases h.job with e | e | e | e <;> rw [e]
    · exact h4
    · exact fun frame stop he => absurd he ((discarded _).2 frame stop)
    · simp
    · simp

theorem kindsFrom_length_le (ch : Channel) (cur : CurrentCue) (frame n : Nat) : (kindsFrom ch cur frame n).length ≤ n := by
  induction n generalizing frame with
  | zero => simp [kindsFrom]
  | succ n ih =>
    unfold kindsFrom
    split
    · simpa using ih (frame + 1)
    · simp

/-- The frames of the message that is assembled next: one at least, and 256 or the cue's remaining ones at most (R81). -/
theorem nextMessage_frames {ch : Channel} {kinds : List FrameKind} (h : nextMessage ch cur = some kinds) :
    1 ≤ kinds.length ∧ kinds.length ≤ Config.messageFrames ∧ kinds.length ≤ cur.limit - cur.next := by
  have hlen := kindsFrom_length_le ch cur cur.next (min Config.messageFrames (cur.limit - cur.next))
  have done : kindsFrom ch cur cur.next (min Config.messageFrames (cur.limit - cur.next)) = kinds → kinds ≠ [] →
      1 ≤ kinds.length ∧ kinds.length ≤ Config.messageFrames ∧ kinds.length ≤ cur.limit - cur.next := by
    rintro rfl hne
    exact ⟨List.length_pos_iff.2 hne, hlen.trans (Nat.min_le_left ..), hlen.trans (Nat.min_le_right ..)⟩
  unfold nextMessage at h
  dsimp only at h
  split_ifs at h with hne _ _
  · exact done (Option.some_inj.1 h) (Option.some_inj.1 h ▸ hne)
  · exact done (Option.some_inj.1 h) (Option.some_inj.1 h ▸ hne)

/-- No frame is a gap and concealed. -/
theorem count_gap_add_concealed (kinds : List FrameKind) : kinds.count .gap + kinds.count .concealed ≤ kinds.length := by
  induction kinds with
  | nil => simp
  | cons k rest ih => cases k <;> simp <;> omega

theorem buildMessage_counted {ch : Channel} {kinds : List FrameKind} (hc : cur.counted) (h : nextMessage ch cur = some kinds) :
    (buildMessage ch cur kinds).counted cur := by
  obtain ⟨h1, h2, h3⟩ := nextMessage_frames h
  have hlimit := hc.limit_le
  exact ⟨rfl, rfl, h1, h2, by change cur.next + kinds.length ≤ cur.f1; omega, count_gap_add_concealed kinds⟩

/-- A message that is sent moves the counts on with the next frame (R82). -/
theorem CurrentCue.counted.sent (h : cur.counted) (hm : m.counted cur) : (cur.sentMessage m).counted := by
  obtain ⟨h1, h2, h3, h4⟩ := h
  obtain ⟨m1, -, m3, m4, m5, m6⟩ := hm
  refine ⟨?_, ?_, ?_, h4⟩ <;> simp only [CurrentCue.sentMessage] <;> omega

theorem Message.counted.closeAt (h : m.counted cur) (frame : Nat) : (m.closeAt frame).counted cur := by
  unfold Message.closeAt
  split
  · exact h
  · exact h

theorem counted_of_no_cue (hc : y.current = none) (hm : y.message = none)
    (hj : ∀ frame stop, y.job ≠ some (.segment frame stop false)) :
    y.counted := by
  refine ⟨?_, ?_, fun _ => hc, fun frame stop h => absurd h (hj frame stop)⟩
  · simp [hc]
  · simp [hm]

/-- Every channel keeps its counts in agreement where the one that changes does. -/
theorem DeliveryLaw.setChannel (h : DeliveryLaw s) {c : ChannelId} (hx : x.counted) : DeliveryLaw (s.setChannel c x) := by
  intro d
  rw [channel_setChannel]
  split
  · exact hx
  · exact h d

/-- Each kind of change keeps the counts in agreement with the progress. -/
theorem Change.deliveryLaw (h : Change i sound s t) (hs : DeliveryLaw s) : DeliveryLaw t := by
  cases h with
  | rests _ hc => exact fun c => (hc c).counted (hs c)
  | told p n => exact fun c => by rw [notify_channel]; exact hs c
  | marked c f hf =>
    obtain ⟨h1, h2, h3, h4⟩ := hs c
    refine hs.setChannel ⟨?_, fun m hm => ?_, fun hj => by simp [h3 hj], fun frame stop hj => ?_⟩
    · rintro _ hm
      obtain ⟨cur, hcur, rfl⟩ := Option.map_eq_some_iff.1 hm
      exact (hf cur).counted (h1 cur hcur)
    · obtain ⟨cur, hcur, hmc⟩ := h2 m hm
      exact ⟨f cur, by simp [hcur], (hf cur).message hmc⟩
    · obtain ⟨cur, hcur, hle⟩ := h4 frame stop hj
      exact ⟨f cur, by simp [hcur], by rw [(hf cur).f1]; exact hle⟩
  | assembled c cur kinds wait hc hk =>
    obtain ⟨h1, -, h3, h4⟩ := hs c
    refine hs.setChannel ⟨h1, fun m hm => ?_, h3, h4⟩
    cases hm
    exact ⟨cur, hc, buildMessage_counted (h1 cur hc) hk⟩
  | ended c cur status hc =>
    intro d
    rw [endCue_channel s c d status (by rw [hc]; rfl)]
    split
    · exact counted_of_no_cue rfl (cueOver_message _) fun frame stop hj => by
        have := map_discarded_unwanted _ hj
        simp [ChannelJob.discarded] at this
    · exact hs d
  | presented c j due hstart hseg =>
    obtain ⟨h1, h2, -, -⟩ := hs c
    refine hs.setChannel ⟨h1, h2, fun hj => hstart (by simpa using hj), fun frame stop hj => ?_⟩
    obtain ⟨cur, hcur, hle⟩ := hseg frame stop (Option.some_inj.1 hj)
    exact ⟨cur, hcur, hle.elim (fun e => e ▸ (h1 cur hcur).2.1) id⟩
  | started c cur queue runs _ hj hcur =>
    obtain ⟨-, h2, h3, -⟩ := hs c
    refine hs.setChannel ⟨?_, fun m hm => ?_, by simp, by simp⟩
    · rintro _ hc
      cases hc
      exact hcur.counted
    · obtain ⟨cur', hcur', -⟩ := h2 m hm
      rw [h3 hj] at hcur'
      cases hcur'
  | crossed c frame stop hj =>
    obtain ⟨h1, h2, -, h4⟩ := hs c
    obtain ⟨cur, hcur, hle⟩ := h4 frame stop hj
    obtain ⟨k1, k2, k3, -⟩ := h1 cur hcur
    refine hs.setChannel ⟨?_, fun m hm => ?_, by simp, by simp⟩
    · rintro _ hc
      simp only [hcur, Option.map_some, Option.some.injEq] at hc
      subst hc
      exact ⟨k1, k2, k3, fun x hx => by cases hx; exact hle⟩
    · obtain ⟨m', hm', rfl⟩ := Option.map_eq_some_iff.1 hm
      obtain ⟨cur', hcur', hmc⟩ := h2 m' hm'
      rw [hcur] at hcur'
      cases hcur'
      exact ⟨_, by simp [hcur], Message.counted.closeAt (cur := { cur with crossing := some frame }) hmc frame⟩
  | sent c m _ hm =>
    obtain ⟨h1, h2, h3, h4⟩ := hs c
    obtain ⟨cur, hcur, hmc⟩ := h2 m hm
    refine hs.setChannel ⟨?_, by simp, fun hj => ?_, fun frame stop hj => ?_⟩
    · rintro _ hc
      simp only [messageSent_current, hcur, Option.map_some, Option.some.injEq] at hc
      subst hc
      exact (h1 cur hcur).sent hmc
    · rw [messageSent_current, h3 (by simpa using hj)]; rfl
    · obtain ⟨cur', hcur', hle⟩ := h4 frame stop (by simpa using hj)
      exact ⟨cur'.sentMessage m, by rw [messageSent_current, hcur']; rfl, hle⟩
  | reset lines => exact fun c => by rw [afterReset_channel]; exact channelReset_counted

theorem Changes.deliveryLaw (h : Changes i sound s t) (hs : DeliveryLaw s) : DeliveryLaw t := by
  induction h with
  | refl => exact hs
  | tail _ hlast ih => exact hlast.deliveryLaw ih

/-- Settles O6: every command is made of changes, and each kind of change keeps the counts in agreement. -/
theorem deliveryLawKept : Obligations.DeliveryLawKept := by
  intro s t hs e
  unfold step at e
  split at e
  · cases e; exact hs
  · next i rest _ =>
    obtain ⟨u, hu, hch⟩ := exec_changes i (s.withPending rest)
    rw [hu] at e
    cases e
    exact hch.deliveryLaw hs

end Counts

/-! ### The law of delivered frames (O10) -/

/-- A cue of the part: one with the same tag and range is current in it. -/
def CurrentCue.IsOf (cur : CurrentCue) (s : State) : Prop :=
  ∃ c old, (s.channel c).current = some old ∧ cur.tag = old.tag ∧ cur.f0 = old.f0 ∧ cur.f1 = old.f1

/-- A notice of the end of a delivered cue tells of a cue of the part, and counts all its frames (R83). -/
def Notice.TellsOf (s : State) : Notice → Prop
  | .cueEnded tag status delivered _ _ => status.delivers = true →
      ∃ c cur, (s.channel c).current = some cur ∧ cur.tag = tag ∧ delivered = cur.f1 - cur.f0
  | _ => True

/-- What holds between the part before a command and the part amid its changes: the counts agree with the progress; every current cue is
one of the part before, or has been started by the command and has a frame due; and every notice sent tells the truth of an end. -/
structure Booked (i : Instr) (s t : State) : Prop where
  counts : DeliveryLaw t
  cues : ∀ c cur, (t.channel c).current = some cur → cur.IsOf s ∨ cur.next < cur.f1 ∧ ∃ d, i = .startResolution d
  notices : ∀ p n, n ∈ (t.port p).notices → n ∈ (s.port p).notices ∨ n.TellsOf s

section Booked
variable {i : Instr} {s t u : State}

theorem Booked.refl (h : DeliveryLaw s) : Booked i s s := ⟨h, fun c cur hc => .inl ⟨c, cur, hc, rfl, rfl, rfl⟩, fun _ _ => .inl⟩

theorem CurrentCue.IsOf.congr {a b : CurrentCue} (h : a.IsOf s) (ht : b.tag = a.tag) (h0 : b.f0 = a.f0) (h1 : b.f1 = a.f1) :
    b.IsOf s := by
  obtain ⟨c, old, hc, k1, k2, k3⟩ := h
  exact ⟨c, old, hc, ht.trans k1, h0.trans k2, h1.trans k3⟩

theorem tellsOf_of_not_endsCue {n : Notice} (h : n.endsCue = false) : n.TellsOf s := by
  unfold Notice.TellsOf
  split
  · cases h
  · trivial

/-- A notice sent joins its port's queue, or none does (R165). -/
theorem mem_notices_notify {q p : PortId} {n m : Notice} (h : m ∈ ((notify p n s).port q).notices) :
    m ∈ (s.port q).notices ∨ m = n := by
  unfold notify at h
  dsimp only at h
  split at h
  · rw [port_setPort] at h
    split at h
    · next e => subst e; simpa using h
    · exact .inl h
  · rw [port_raiseCause, port_setPort] at h
    split at h
    · next e => subst e; exact .inl h
    · exact .inl h

theorem mem_notices_notifyBound {q : PortId} {c : ChannelId} {n m : Notice} (h : m ∈ ((notifyBound c n s).port q).notices) :
    m ∈ (s.port q).notices ∨ m = n := by
  unfold notifyBound at h
  split at h
  · exact mem_notices_notify h
  · exact .inl h

/-- A cue none of whose frames is due, and which no FAULTED answer has shortened, has delivered them all (R83). -/
theorem delivered_eq {cur : CurrentCue} {status : CueStatus} (hc : cur.counted) (hs : cur.endStatus = status)
    (hd : status.delivers = true) (hn : cur.limit ≤ cur.next) : cur.f1 ≤ cur.next ∧ cur.delivered = cur.f1 - cur.f0 := by
  cases hx : cur.crossing with
  | some x =>
    have hf : cur.endStatus = .faulted := by simp [CurrentCue.endStatus, hx]
    rw [← hs, hf] at hd
    cases hd
  | none =>
    obtain ⟨h1, h2, -, -⟩ := hc
    have hl : cur.limit = cur.f1 := by simp [CurrentCue.limit, hx]
    omega

/-- The end of a cue tells of a cue of the part before the command. -/
theorem Booked.endNotice (h : Booked i s t) {c : ChannelId} {cur : CurrentCue} (hc : (t.channel c).current = some cur)
    {status : CueStatus} (hs : status.delivers = true → cur.endStatus = status ∧ cur.limit ≤ cur.next) :
    (Notice.cueEnded cur.tag status cur.delivered cur.gap cur.concealed).TellsOf s := by
  intro hd
  obtain ⟨hstatus, hn⟩ := hs hd
  obtain ⟨hpast, heq⟩ := delivered_eq ((h.counts c).1 cur hc) hstatus hd hn
  rcases h.cues c cur hc with ⟨d, old, hold, k1, k2, k3⟩ | ⟨hdue, -⟩
  · exact ⟨d, old, hold, k1.symm, by rw [heq, k2, k3]⟩
  · omega

/-- One channel changes, and its cue, if it has one then, is a cue of the part before, or newly started. -/
theorem Booked.setChannel (h : Booked i s t) {c : ChannelId} {x : Channel} (hd : DeliveryLaw (t.setChannel c x))
    (hx : ∀ cur, x.current = some cur → cur.IsOf s ∨ cur.next < cur.f1 ∧ ∃ d, i = .startResolution d) :
    Booked i s (t.setChannel c x) := by
  refine ⟨hd, fun d cur hc => ?_, h.notices⟩
  rw [channel_setChannel] at hc
  split at hc
  · exact hx cur hc
  · exact h.cues d cur hc

/-- A change of a cue that keeps its tag, its range and its next frame keeps what is booked of it. -/
theorem Booked.setCue (h : Booked i s t) {c : ChannelId} {x : Channel} (hd : DeliveryLaw (t.setChannel c x)) (f : CurrentCue → CurrentCue)
    (hx : x.current = (t.channel c).current.map f)
    (hf : ∀ cur, (f cur).tag = cur.tag ∧ (f cur).f0 = cur.f0 ∧ (f cur).f1 = cur.f1 ∧ (f cur).next = cur.next) :
    Booked i s (t.setChannel c x) := by
  refine h.setChannel hd fun cur hc => ?_
  rw [hx] at hc
  obtain ⟨old, hold, rfl⟩ := Option.map_eq_some_iff.1 hc
  obtain ⟨k1, k2, k3, k4⟩ := hf old
  refine (h.cues c old hold).imp (fun hi => hi.congr k1 k2 k3) fun hi => ?_
  rwa [k3, k4]

/-- Each kind of change keeps what is booked. -/
theorem Change.booked {sound : Prop} (hc : Change i sound t u) (hsound : sound) (h : Booked i s t) : Booked i s u := by
  have hd := hc.deliveryLaw h.counts
  cases hc with
  | rests hw hr hn =>
    refine ⟨hd, fun c cur hcur => ?_, fun p n hm => h.notices p n (hn p hm)⟩
    rw [(hr c).current] at hcur
    exact h.cues c cur hcur
  | told p n hn =>
    refine ⟨hd, fun c cur hcur => ?_, fun q m hm => ?_⟩
    · rw [notify_channel] at hcur
      exact h.cues c cur hcur
    · rcases mem_notices_notify hm with hm | rfl
      · exact h.notices q m hm
      · exact .inr (tellsOf_of_not_endsCue hn)
  | marked c f hf => exact h.setCue hd f rfl fun cur => ⟨(hf cur).tag, (hf cur).f0, (hf cur).f1, (hf cur).next⟩
  | assembled c cur kinds wait hcur => exact h.setChannel hd fun cur hc => h.cues c cur hc
  | ended c cur status hcur hs =>
    refine ⟨hd, fun d old hold => ?_, fun q m hm => ?_⟩
    · rw [endCue_channel t c d status (by rw [hcur]; rfl)] at hold
      split at hold
      · cases hold
      · exact h.cues d old hold
    · rw [State.port, endCue_ports t c status hcur, ← State.port] at hm
      rcases mem_notices_notifyBound hm with hm | rfl
      · exact h.notices q m hm
      · exact .inr (h.endNotice hcur hs)
  | presented c j due => exact h.setChannel hd fun cur hc => h.cues c cur hc
  | started c cur queue runs hi hj hcur =>
    refine h.setChannel hd fun cur' hc => ?_
    cases hc
    exact .inr ⟨hcur.due hsound, hi⟩
  | crossed c frame stop hj => exact h.setCue hd (fun cur => { cur with crossing := some frame }) rfl fun _ => ⟨rfl, rfl, rfl, rfl⟩
  | sent c m hi =>
    refine h.setChannel hd fun cur hc => ?_
    obtain ⟨old, hold, rfl⟩ := Option.map_eq_some_iff.1 hc
    rcases h.cues c old hold with ho | ⟨-, d, rfl⟩
    · exact .inl (ho.congr rfl rfl rfl)
    · obtain ⟨p, hp⟩ := hi
      cases hp
  | reset lines =>
    refine ⟨hd, fun c cur hcur => ?_, fun p n hm => ?_⟩
    · rw [afterReset_channel] at hcur
      cases hcur
    · rw [afterReset_port] at hm
      exact absurd hm List.not_mem_nil

theorem Changes.booked {sound : Prop} (h : Changes i sound s t) (hsound : sound) (hs : DeliveryLaw s) : Booked i s t := by
  induction h with
  | refl => exact .refl hs
  | tail _ hlast ih => exact hlast.booked hsound ih

/-- Settles O10: a command sends such a CUE_ENDED only of a cue that it has not started itself, and whose frames due have all been sent. -/
theorem lawOfDeliveredFrames : Obligations.LawOfDeliveredFrames := by
  intro i s t p tag status delivered gap concealed harb _ hrec hdel e hin hnew hstatus
  obtain ⟨u, hu, hch⟩ := exec_changes i s
  rw [hu] at e
  cases e
  refine ((hch.booked ⟨harb, hrec⟩ hdel).notices p _ hin).resolve_left hnew ?_
  rcases hstatus with rfl | rfl | rfl <;> rfl

end Booked

/-! ### Commands that are not due (O11) -/

section NotDue
variable {s : State}

/-- A request command whose port has no such request in service does nothing (log 1). -/
theorem exec_of_not_served {r : Request} {p : PortId} (h : ∀ v q, Serves s p v q → q.command p ≠ r.command p) :
    exec (r.command p) s = .next s := by
  rcases service_cases r p s with ⟨v, q, hq, e⟩ | e
  · exact absurd e.symm (h v q hq)
  · exact e

theorem walkOne_of_not_walking (h : ∀ n < 65536, s.engine.condition ≠ .walking n) : walkOne s = s := by
  unfold walkOne
  split
  · next n hc =>
    split
    · next hn => exact absurd hc (h n hn)
    · rfl
  · rfl

theorem walkLast_of_not_walked (h : ∀ n, 65536 ≤ n → s.engine.condition ≠ .walking n) : walkLast s = s := by
  unfold walkLast
  split
  · next n hc =>
    split
    · next hn => exact absurd hc (h n hn)
    · rfl
  · rfl

theorem completeFormat_of_not_formatting (h : ∀ p, s.engine.condition ≠ .formatting p) : completeFormat s = s := by
  unfold completeFormat
  split
  · next p hc => exact absurd hc (h p)
  · rfl

theorem channelGranted_iff {c : ChannelId} : channelGranted c s = true ↔ s.arbiter.serving = some (channelPosition c) := by
  simp [channelGranted, State.isServing]

theorem serveStart_of_not_due {c : ChannelId}
    (h : s.arbiter.serving ≠ some (channelPosition c) ∨ (s.channel c).job.any ChannelJob.isStart = false) : serveStart c s = s := by
  unfold serveStart
  split
  · next hj =>
    split
    · next hg => exact absurd h (by simp [channelGranted_iff.1 hg, hj, ChannelJob.isStart])
    · rfl
  · rfl

theorem serveSegment_of_not_due {c : ChannelId}
    (h : s.arbiter.serving ≠ some (channelPosition c) ∨
      ∀ frame stop discard, (s.channel c).job ≠ some (.segment frame stop discard)) :
    serveSegment c s = s := by
  unfold serveSegment
  split
  · next hj =>
    split
    · next hg => exact absurd h (by simp [channelGranted_iff.1 hg, hj])
    · rfl
  · rfl

theorem serveDisengage_of_not_due {c : ChannelId}
    (h : s.arbiter.serving ≠ some (channelPosition c) ∨ (s.channel c).job ≠ some .disengage) : serveDisengage c s = s := by
  unfold serveDisengage
  split
  · next hj =>
    split
    · next hg => exact absurd h (by simp [channelGranted_iff.1 hg, hj])
    · rfl
  · rfl

theorem slotTimeout_of_not_due {g : ReadTag} (h : ∀ c b block attempt, s.readSlot g ≠ .active c b block attempt 0) :
    slotTimeout g s = s := by
  unfold slotTimeout
  split
  · next he => exact absurd he (h _ _ _ _)
  · rfl

theorem waitTimeout_of_not_due {c : ChannelId}
    (h : (s.channel c).current = none ∨ (s.channel c).wait ≠ some 0 ∨ (s.channel c).state.playing = false) : waitTimeout c s = s := by
  unfold waitTimeout
  dsimp only
  split
  · next hc hw =>
    split
    · next hp => simp [hc, hw, hp] at h
    · rfl
  · rfl

/-- No channel's audio message can go out from a port (R162). -/
theorem audioChoice_eq_none {p : PortId}
    (h : ∀ c, ¬ ((s.channel c).port = some p ∧ 1 ≤ (s.port p).creditFor c ∧ (s.channel c).message.isSome = true)) :
    audioChoice p s = none := by
  unfold audioChoice
  rw [List.findSome?_eq_none_iff]
  intro c _
  dsimp only
  split
  · next hc =>
    rw [Option.map_eq_none_iff]
    by_contra hm
    exact h c ⟨hc.1, hc.2, Option.isSome_iff_ne_none.2 hm⟩
  · rfl

theorem arbitrate_of_not_due {p : PortId} (h : (s.port p).sending ≠ [] ∨ (s.port p).replies = [] ∧ (s.port p).notices = [] ∧
    ∀ c, ¬ ((s.channel c).port = some p ∧ 1 ≤ (s.port p).creditFor c ∧ (s.channel c).message.isSome = true)) :
    arbitrate p s = s := by
  unfold arbitrate
  dsimp only
  rcases h with h | ⟨hr, hn, hc⟩
  · rw [if_pos h]
  · simp only [hr, hn, audioChoice_eq_none hc, ite_self]

/-- A command that is not due leaves the part as it is (logs 1 and 20). -/
theorem exec_of_notDue {i : Instr} (h : NotDue i s) : exec i s = .next s := by
  rcases h with ⟨p, r, rfl, h⟩ | h
  · exact exec_of_not_served h
  · cases i with
    | walkHeaderRead => exact congrArg Host.Outcome.next (if_neg h)
    | walkSlot => exact congrArg Host.Outcome.next (walkOne_of_not_walking h)
    | walkEnd => exact congrArg Host.Outcome.next (walkLast_of_not_walked h)
    | formatComplete => exact congrArg Host.Outcome.next (completeFormat_of_not_formatting h)
    | startResolution c => exact congrArg Host.Outcome.next (serveStart_of_not_due h)
    | segmentResolution c => exact congrArg Host.Outcome.next (serveSegment_of_not_due h)
    | disengage c => exact congrArg Host.Outcome.next (serveDisengage_of_not_due h)
    | mirrorWrite =>
      refine congrArg Host.Outcome.next (if_neg fun hg => h ?_)
      simpa [State.isServing] using hg
    | readTimeout g => exact congrArg Host.Outcome.next (slotTimeout_of_not_due h)
    | collectionTimeout c => exact congrArg Host.Outcome.next (waitTimeout_of_not_due h)
    | pinCountdown => exact congrArg Host.Outcome.next (if_neg (Nat.ne_of_lt h))
    | holdLineRise g => exact congrArg Host.Outcome.next (if_pos h)
    | holdLineFall g => exact congrArg Host.Outcome.next (if_neg (Bool.eq_false_iff.1 h))
    | requestDispatch p => exact congrArg Host.Outcome.next (dispatch_idle h)
    | outgoingArbitration p => exact congrArg Host.Outcome.next (arbitrate_of_not_due h)
    | audioPiece p => exact congrArg Host.Outcome.next (by simp only [sendPiece, show (s.port p).sending = [] from h])
    | messageDiscard p bytes =>
      have hb : discardsUnit bytes = false := h
      exact congrArg Host.Outcome.next (if_neg (by simp [hb]))
    | blockData tag data => exact congrArg Host.Outcome.next (if_neg h)
    | _ => exact h.elim

/-- Settles O11: what the changes of a command leave alone, and what a command that is not due does. -/
theorem onlyTheirCommandsChangeThem : Obligations.OnlyTheirCommandsChangeThem := by
  intro i s
  obtain ⟨t, e, h⟩ := exec_changes i s
  obtain ⟨hpend, hmem, hlatch, hrole, hbind, htime⟩ := h.within
  refine ⟨t, e, hpend, fun hn => ?_, hmem, hlatch, hrole, hbind, htime⟩
  rw [exec_of_notDue hn] at e
  cases e
  rfl

end NotDue

end Sys2Proof.Machine
end

-- ==== Proofs: the channel requests' gates, HALT_CHANNEL, RESUME_CHANNEL and CLEAR_CUT ====
section
/-! How the channel requests reach their channel (R72), and what HALT_CHANNEL, RESUME_CHANNEL and CLEAR_CUT leave of it (R89 to R91). -/

namespace Sys2Proof.Machine

/-! ### The gates of a channel request -/

/-- What a channel request does once its channel is known (R72): its operation in the model. -/
def channelWork (p : PortId) (role : Role) (s : State) (c : ChannelId) : Request → State
  | .bindChannel _ port => bindChannel p port s c
  | .queueCue _ cue => queueCue p cue s c
  | .stopChannel _ => stopChannel p s c
  | .haltChannel _ => haltChannel p s c
  | .resumeChannel _ => resumeChannel p s c
  | .clearCut _ => clearCut p s c
  | .flushChannel _ => flushChannel p s c
  | .setLanes _ count word entries => setLanes p count.toNat word.toNat entries s c
  | .setCutoff _ behaviour => setCutoff p behaviour s c
  | .channelStatus _ => channelStatus p role s c
  | _ => s

section Gates
variable {s : State} {p : PortId} {v : Service} {r : Request} {field : Byte} {c : ChannelId}

/-- A channel request that any port may make meets the gate of the channel number, and one that only the bound port may make that of the
binding too (R72). -/
theorem exec_channelRequest {boundOnly : Bool} (h : Serves s p v r) (hr : r.channelField = some (field, boundOnly)) :
    exec (r.command p) s = .next (if boundOnly then onBound p field (fun c => channelWork p v.role s c r) s
      else onChannel p field (fun c => channelWork p v.role s c r) s) := by
  obtain ⟨hv, he⟩ := h
  obtain ⟨kind, tag, role, request⟩ := v
  dsimp only at he
  subst he
  cases request with
  | bindChannel => cases hr; simp only [Request.command, exec, execBindChannel, serveBindChannel, hv]; rfl
  | queueCue => cases hr; simp only [Request.command, exec, execQueueCue, serveQueueCue, hv]; rfl
  | stopChannel => cases hr; simp only [Request.command, exec, execStopChannel, serveStopChannel, hv]; rfl
  | haltChannel => cases hr; simp only [Request.command, exec, execHaltChannel, serveHaltChannel, hv]; rfl
  | resumeChannel => cases hr; simp only [Request.command, exec, execResumeChannel, serveResumeChannel, hv]; rfl
  | clearCut => cases hr; simp only [Request.command, exec, execClearCut, serveClearCut, hv]; rfl
  | flushChannel => cases hr; simp only [Request.command, exec, execFlushChannel, serveFlushChannel, hv]; rfl
  | setLanes => cases hr; simp only [Request.command, exec, execSetLanes, serveSetLanes, hv]; rfl
  | setCutoff => cases hr; simp only [Request.command, exec, execSetCutoff, serveSetCutoff, hv]; rfl
  | channelStatus => cases hr; simp only [Request.command, exec, execChannelStatus, serveChannelStatus, hv]; rfl
  | _ => cases hr

theorem onChannel_of_lt (hf : field.toNat = c.val) (work : ChannelId → State) : onChannel p field work s = work c := by
  have hlt : field.toNat < 8 := by omega
  have hc : (⟨field.toNat, hlt⟩ : ChannelId) = c := Fin.ext hf
  rw [onChannel, dif_pos hlt, hc]

theorem onChannel_of_le (hf : 8 ≤ field.toNat) (work : ChannelId → State) : onChannel p field work s = reply p .badField [] s :=
  dif_neg (Nat.not_lt.2 hf)

/-- A request of the bound port reaches its channel (R72). -/
theorem exec_boundRequest (h : Serves s p v r) (hr : r.channelField = some (field, true)) (hf : field.toNat = c.val)
    (hp : (s.channel c).port = some p) : exec (r.command p) s = .next (channelWork p v.role s c r) := by
  rw [exec_channelRequest h hr, if_pos rfl, onBound_of_bound hf hp]

/-- A request that any port may make reaches its channel (R72). -/
theorem exec_openRequest (h : Serves s p v r) (hr : r.channelField = some (field, false)) (hf : field.toNat = c.val) :
    exec (r.command p) s = .next (channelWork p v.role s c r) := by
  rw [exec_channelRequest h hr, if_neg Bool.false_ne_true, onChannel_of_lt hf]

/-- A request in service is answered on a part whose ports are as they were. -/
theorem reply_served (h : Serves s p v r) {u : State} (hu : u.ports = s.ports) (code : ReplyCode) (fields : List Field) :
    reply p code fields u = answered p v code fields u :=
  reply_of_service p v code fields u (by rw [State.port, hu]; exact h.1)

end Gates

/-- Settles O42: a channel number above 7 fails the first gate, and a port that the channel is not bound to the second. -/
theorem channelRequestGates : Obligations.ChannelRequestGates := by
  refine fun p v r s field boundOnly h hr => ⟨fun hf => ?_, fun c hf hb hp => ?_⟩
  · rw [exec_channelRequest h hr, onBound, onChannel_of_le hf, onChannel_of_le hf, ite_self, reply_served h rfl]
  · rw [exec_channelRequest h hr, if_pos hb, onBound, onChannel_of_lt hf, if_neg hp, reply_served h rfl]

/-! ### HALT_CHANNEL -/

section Halting
variable {s : State} {c : ChannelId}

/-- The channel of a part in which it has entered a state. -/
theorem enterState_channel_self (st : ChannelState) : (enterState c st s).channel c = { s.channel c with state := st } := by
  rw [enterState, channel_setChannel, if_pos rfl]

/-- A channel with no cue, outside RUNNING and STOPPING, keeps its state while it settles. -/
theorem settle_state_of_no_cue (hn : (s.channel c).current = none) (hs : (s.channel c).state ≠ .stopping) :
    ((settle c s).channel c).state = (s.channel c).state := (settle_idles s c hn).state hs

/-- What HALT_CHANNEL makes of a channel in RUNNING, before the channel settles (R89). -/
def halted (c : ChannelId) (s : State) : State :=
  if (s.channel c).current.isSome || (s.channel c).isStarting then enterState c .halting s
  else notifyBound c .channelHalted (enterState c .halted s)

theorem haltChannel_of_running (p : PortId) (h : (s.channel c).state = .running) :
    haltChannel p s c = reply p .ok [] (settle c (halted c s)) := by
  simp only [haltChannel, halted, h, if_true]
  split <;> rfl

theorem halted_local : Local c s (halted c s) := by
  unfold halted
  split
  · exact enterState_local s c _
  · exact (enterState_local s c _).trans (notifyBound_local _ c _)

/-- HALT_CHANNEL changes nothing of a channel but its state. -/
theorem halted_channel : (halted c s).channel c =
    { s.channel c with state := if (s.channel c).current.isSome || (s.channel c).isStarting then .halting else .halted } := by
  unfold halted
  split
  · exact enterState_channel_self _
  · rw [notifyBound_channel]; exact enterState_channel_self _

end Halting

/-! ### RESUME_CHANNEL and CLEAR_CUT -/

section Resuming
variable {s : State} {c : ChannelId}

/-- The state that RESUME_CHANNEL puts a channel in (R90). -/
def Channel.resumed (ch : Channel) : ChannelState := if ch.current.isSome || !ch.queue.isEmpty then .running else .idle

theorem resumeChannel_of_stopped (p : PortId) (h : (s.channel c).state = .stopped ∨ (s.channel c).state = .halted) :
    resumeChannel p s c = reply p .ok [] (settle c (s.setChannel c { s.channel c with state := (s.channel c).resumed })) :=
  if_pos (by simpa using h)

theorem resumeChannel_of_not_stopped (p : PortId) (h : ¬ ((s.channel c).state = .stopped ∨ (s.channel c).state = .halted)) :
    resumeChannel p s c = wrongState p c s := if_neg (by simpa using h)

/-- No frame of a cue that is not muted is on hand where its channel holds no run (R81). -/
theorem framePresence_of_no_runs {ch : Channel} {cur : CurrentCue} (hr : ch.runs = []) (hm : cur.muted = false) (frame : Nat) :
    framePresence ch cur frame = .absent := by
  have hrun : ch.runOf frame = none := by simp [Channel.runOf, Channel.deliveryRuns, hr]
  simp [framePresence, hm, hrun]

/-- A channel with a remainder, in RUNNING, presents the segment resolution for the remainder frame (R90). -/
theorem settle_set_resumes {x : Channel} {cur : CurrentCue} (hg : NoGrantDue s) (hc : x.current = some cur) (hs : x.state = .running)
    (hmu : cur.muted = false) (hcr : cur.crossing = none) (hdue : cur.next < cur.f1) (hr : x.runs = []) (hj : x.job = none)
    (hd : x.disengageDue = false) (hb : ∀ b, (x.buffer b).place = none) :
    settle c (s.setChannel c x) = grantJob (s.setChannel c { x with job := some (.segment cur.next cur.f1 false) }) := by
  have hx : (s.setChannel c x).channel c = x := by rw [channel_setChannel, if_pos rfl]
  have hlimit : cur.next < cur.limit := by simpa [CurrentCue.limit, hcr] using hdue
  have hjob : jobDue (s.setChannel c x) c = some (.segment cur.next cur.f1 false) := by
    simp [jobDue, hx, hd, hc, Channel.delivering, hs, segmentDue, hmu, hcr, hr]
  have hready : settleChannel c (s.setChannel c x) = presentJob c (s.setChannel c x) := by
    rw [settleChannel_of_holdsNothing (by rw [hx]; exact hc) hlimit (by rw [hx]; exact ⟨hr, hb⟩),
      assemble_of_absent (by rw [hx]; exact hc) (framePresence_of_no_runs (by rw [hx]; exact hr) hmu _),
      stoppingEnd_of_awaiting _ c (.inl (by rw [hx, hs]; decide))]
  rw [settle, hready, presentJob_of_due (by rw [hx]; exact hj) hjob, hx, setChannel_setChannel, ← hd]
  exact grantAll_of_noGrantDue (noGrantDue_of_store hg (by rw [grantJob_store, setChannel_store]))

/-- A channel in RUNNING with no cue, a cue queued and no job presents that cue's start resolution (R76). -/
theorem settle_starts {u : State} {cue : Cue} {rest : List Cue} (hn : (u.channel c).current = none) (hs : (u.channel c).state = .running)
    (hq : (u.channel c).queue = cue :: rest) (hj : (u.channel c).job = none) (hd : (u.channel c).disengageDue = false) :
    ((settle c u).channel c).state = .running ∧
      ((settle c u).channel c).job = some (.start cue (u.boundRole c) (decide ((u.channel c).cutoff = .ignore)) false) := by
  have hready : settleChannel c u = presentJob c u := by
    rw [settleChannel_of_no_cue u c hn, stoppingEnd_of_awaiting u c (.inl (by rw [hs]; decide))]
  rw [settle_channel, hready, presentJob_of_due hj (jobDue_start hd hn hq hs), grantJob_channel, channel_setChannel, if_pos rfl]
  exact ⟨hs, rfl⟩

end Resuming

/-- Settles O45: a channel halted with frames due or a start in flight keeps them as it settles, and one halted with neither has said so; a
resumed channel holds no run, so that it settles by presenting the job that is due. -/
theorem haltAndResumeChannel : Obligations.HaltAndResumeChannel := by
  refine ⟨fun p v s field c h hf hp => ?_, fun p v s field c h hf hp => ?_⟩
  · have he : exec (.haltChannel p) s = .next (haltChannel p s c) := exec_boundRequest h rfl hf hp
    refine ⟨fun hs => ?_, fun hs => ?_⟩
    · rw [he, haltChannel, if_neg hs, wrongState, reply_served h rfl]
    · rw [he, haltChannel_of_running p hs]
      have hlocal := halted_local (s := s) (c := c)
      have hch := halted_channel (s := s) (c := c)
      obtain ⟨hsvc, hrep⟩ := replied_after h (hlocal.alerted.trans (settle_alerted _ c)) .ok []
      have hsame : SameElsewhere s (reply p .ok [] (settle c (halted c s))) := by
        refine sameElsewhere_settle c _ _ ?_ ?_ ?_ ?_ ?_ ?_ <;> (unfold halted; split <;> simp [enterState])
      refine ⟨_, rfl, ?_, hsvc, hrep, hsame, fun d hd => ?_, fun cur hc hdue => ?_, fun cue role ignore discard hn hj => ?_,
        fun hn hj => ?_⟩
      · rw [reply_channel, (settle_sameBinding _ c).2, hch]
      · rw [reply_channel, settle_channel_ne _ c hd, hlocal.channel d hd]
      · rw [if_pos (by rw [hc]; rfl)] at hch
        have ht := settle_tended (halted c s) c (by rw [hch]; simp) fun k hk => by
          rw [hch, show Channel.current _ = some cur from hc] at hk
          cases hk
          exact hdue
        rw [reply_channel, ht.state, ht.current, hch]
        exact ⟨rfl, hc⟩
      · have hstart : (s.channel c).isStarting = true := by rw [Channel.isStarting, hj]
        rw [hstart, Bool.or_true] at hch
        have hi := settle_idles (halted c s) c (by rw [hch]; exact hn)
        rw [reply_channel, hi.state (by rw [hch]; simp), hi.job (by rw [hch]; simp [hj]), hch]
        exact ⟨rfl, rfl⟩
      · have hquiet : ¬ (((s.channel c).current.isSome || (s.channel c).isStarting) = true) := by
          rcases hj with e | e <;> simp [hn, Channel.isStarting, e]
        rw [if_neg hquiet] at hch
        have hsaid : Reached .channelHalted p (halted c s) := by
          rw [halted, if_neg hquiet]
          exact notifyBound_reached _ c _ p (by rw [enterState_channel_self]; exact hp)
        rw [reply_channel, settle_state_of_no_cue (by rw [hch]; exact hn) (by rw [hch]; simp), hch]
        exact ⟨rfl, reached_reply _ _ ((settle_alerted _ c).notified.reached hsaid)⟩
  · have he : exec (.resumeChannel p) s = .next (resumeChannel p s c) := exec_boundRequest h rfl hf hp
    refine ⟨fun hs => ?_, fun hs hm hj hd hr hg => ⟨fun cur hc hmu hcr hdue hb => ?_, fun cue rest hn hq => ?_, fun hn hq => ?_⟩⟩
    · rw [he, resumeChannel_of_not_stopped p hs, wrongState, reply_served h rfl]
    · rw [he, resumeChannel_of_stopped p hs, Channel.resumed, if_pos (by simp [hc]),
        settle_set_resumes (x := { s.channel c with state := .running }) hg hc rfl hmu hcr hdue hr hj hd hb]
      exact congrArg _ (reply_served h (by rw [grantJob_ports]; rfl) _ _)
    · rw [he, resumeChannel_of_stopped p hs, Channel.resumed, if_pos (by simp [hq]),
        settle_set_starts (x := { s.channel c with state := .running }) hg hp hn rfl hq hj hd]
      exact congrArg _ (reply_served h (by rw [grantJob_ports]; rfl) _ _)
    · rw [he, resumeChannel_of_stopped p hs, Channel.resumed, if_neg (by simp [hn, hq]),
        settle_set_quiet (x := { s.channel c with state := .idle }) hg hn (by simp) (by simp) hd]
      exact congrArg _ (reply_served h (u := s.setChannel c _) rfl _ _)

end Sys2Proof.Machine

namespace Sys2Proof.Settled

open Sys2Proof.Machine

/-- Settles O46: CLEAR_CUT writes the state alone, and the channel it leaves is one that RESUME_CHANNEL starts. -/
theorem clearCut : Obligations.ClearCut := by
  intro p v s field c h hf hp
  have he : exec (.clearCut p) s = .next (Machine.clearCut p s c) := exec_boundRequest h rfl hf hp
  refine ⟨fun hs => ?_, fun hs hn => ⟨answered p v .ok [] (enterState c .stopped s), ?_, rfl, ?_⟩⟩
  · rw [he, Machine.clearCut, if_neg hs, reply_served h rfl]
  · rw [he, Machine.clearCut, if_pos hs, reply_served h (u := enterState c .stopped s) rfl]
  · have hch : (answered p v .ok [] (enterState c .stopped s)).channel c = { s.channel c with state := .stopped } :=
      enterState_channel_self _
    refine ⟨by rw [hch]; exact hn, by rw [hch], fun q => ?_, fun u w cue rest hu hw hq hj hd => ?_⟩
    · rw [answered, port_setPort]
      split
      · next e => rw [e]; rfl
      · rfl
    · rw [hch] at hu
      have hw' : exec (.resumeChannel p) u = .next (resumeChannel p u c) := exec_boundRequest hw rfl hf (by rw [hu]; exact hp)
      rw [hw', resumeChannel_of_stopped p (.inl (by rw [hu])), hu, Channel.resumed, if_pos (by simp [hq])]
      obtain ⟨hstate, hjob⟩ := settle_starts (c := c) (cue := cue) (rest := rest)
        (u := u.setChannel c { s.channel c with state := .running }) (by rw [channel_setChannel, if_pos rfl]; exact hn)
        (by rw [channel_setChannel, if_pos rfl]) (by rw [channel_setChannel, if_pos rfl]; exact hq)
        (by rw [channel_setChannel, if_pos rfl]; exact hj) (by rw [channel_setChannel, if_pos rfl]; exact hd)
      rw [boundRole_of_port (p := p) (by rw [channel_setChannel, if_pos rfl]; exact hp)] at hjob
      simp only [channel_setChannel, if_true] at hjob
      exact ⟨_, rfl, by rw [reply_channel]; exact hstate, by rw [reply_channel]; exact hjob⟩

end Sys2Proof.Settled
end

-- ==== Proofs: the time base ====
section
/-! The time base (R94, R110, R135, R169): a tick advances the timers, and the thousandth counts the pins down. -/

namespace Sys2Proof.Machine

section Ticking
variable (s : State)

theorem raiseCause_faultTime (k : Cause) : (raiseCause k s).attention.faultTime = s.attention.faultTime := by
  unfold raiseCause
  split <;> rfl

theorem notify_faultTime (p : PortId) (n : Notice) : (notify p n s).attention.faultTime = s.attention.faultTime := by
  unfold notify
  dsimp only
  split
  · rfl
  · rw [raiseCause_faultTime]; rfl

theorem sendLapses_faultTime (x : LapseCause) (l : List Pin) : (sendLapses x l s).attention.faultTime = s.attention.faultTime :=
  foldl_keeps (P := fun t => t.attention.faultTime = s.attention.faultTime) _ (fun t _ h => (notify_faultTime t _ _).trans h) _ _ rfl

theorem sendLapses_alerted (x : LapseCause) (l : List Pin) : Alerted s (sendLapses x l s) :=
  foldl_keeps (P := Alerted s) _ (fun t _ h => h.trans (notify_alerted t _ _)) _ _ (.refl s)

/-- Each pin that lapses is reported to its port (R135). -/
theorem sendLapses_reached (x : LapseCause) {l : List Pin} {pin : Pin} (h : pin ∈ l) :
    Reached (.pinLapsed pin.slot x) pin.port (sendLapses x l s) := by
  induction l generalizing s with
  | nil => cases h
  | cons y rest ih =>
    rw [sendLapses, List.foldl_cons]
    rcases List.mem_cons.1 h with rfl | h
    · exact (sendLapses_alerted _ x rest).notified.reached (notify_reached s _ _)
    · exact ih _ h

/-- The pins that remain of a countdown, one second down (R135). -/
theorem countPins_pinTable : (countPins s).pinTable =
    { s.pinTable with pins := (s.pinTable.pins.filter fun x => 1 < x.remaining).map fun x => { x with remaining := x.remaining - 1 } } := by
  unfold countPins
  simp only [sendLapses_pinTable, freeOrder_pinTable]
  rfl

/-- Each pin that a countdown brings to 0 is reported (R135). -/
theorem countPins_reached {pin : Pin} (h : pin ∈ s.pinTable.pins) (hr : pin.remaining ≤ 1) :
    Reached (.pinLapsed pin.slot .expired) pin.port (countPins s) := by
  unfold countPins
  refine sendLapses_reached _ _ ((freeOrder_perm ..).mem_iff.2 ?_)
  exact List.mem_filter.2 ⟨h, decide_eq_true hr⟩

/-- A countdown of the pins leaves the rest of the part but the ports, the attention flags and the moments. -/
theorem countPins_keeps : (countPins s).store = s.store ∧ (countPins s).channels = s.channels ∧
    (countPins s).attention.faultTime = s.attention.faultTime ∧ (countPins s).memory = s.memory ∧
    (countPins s).engine = s.engine ∧ (countPins s).hold = s.hold := by
  unfold countPins
  refine ⟨?_, ?_, ?_, ?_, ?_, ?_⟩ <;> simp [sendLapses_faultTime]

/-- The timers of a part one millisecond on (R94, R110, R169). -/
def timersOn : State :=
  { s with
    attention := if s.inWalk then s.attention else
      { s.attention with faultTime := min (s.attention.faultTime + 1) 4294967295 }
    store := { s.store with slots := s.store.slots.map ReadSlot.tick }
    channels := s.channels.map Channel.tick }

theorem tickTimers_advanceFaultTime : tickTimers (advanceFaultTime s) = timersOn s := by
  unfold advanceFaultTime timersOn
  cases s.inWalk <;> rfl

/-- A tick that is not the thousandth (R135). -/
theorem tick_of_lt (h : s.pinTable.prescaler < 999) :
    tick s = { timersOn s with pinTable := { s.pinTable with prescaler := s.pinTable.prescaler + 1 } } := by
  rw [tick, tickTimers_advanceFaultTime, tickPins, if_neg (show ¬ 999 ≤ (timersOn s).pinTable.prescaler from Nat.not_le.2 h)]
  rfl

/-- The thousandth tick (R135). -/
theorem tick_of_eq (h : s.pinTable.prescaler = 999) :
    tick s = countPins { timersOn s with pinTable := { s.pinTable with prescaler := 0 } } := by
  rw [tick, tickTimers_advanceFaultTime, tickPins, if_pos (show 999 ≤ (timersOn s).pinTable.prescaler from h.ge)]
  rfl

end Ticking

/-- Settles O41: the timers run on every tick, and the countdown of the pins follows on the thousandth. -/
theorem ticksAndCountdown : Obligations.TicksAndCountdown := by
  intro s ticked
  have hslot : ReadSlot.tick = fun x => match x with
      | .active c b block attempt remaining => .active c b block attempt (remaining - 1)
      | y => y := funext fun x => by cases x <;> rfl
  have ht : ticked = timersOn s := by rw [timersOn, hslot]; rfl
  clear_value ticked
  subst ht
  refine ⟨fun h => ⟨congrArg _ (tick_of_lt s h), congrArg _ (if_neg h.ne)⟩, fun h i hi => ⟨tick s, ?_, ?_⟩⟩
  · rcases hi with rfl | rfl
    · rfl
    · exact congrArg _ (if_pos h)
  · rw [tick_of_eq s h, countPins_pinTable]
    exact ⟨rfl, rfl, fun x hx hr => countPins_reached _ hx hr, countPins_keeps _⟩

end Sys2Proof.Machine
end

-- ==== Proofs: BIND_CHANNEL and FLUSH_CHANNEL ====
section
/-! BIND_CHANNEL and FLUSH_CHANNEL (R73, R92): what they leave of the channel, and of the ports it is bound to. -/

namespace Sys2Proof.Machine

section Binding
variable (s : State) (c : ChannelId)

theorem playing_iff (x : ChannelState) : x.playing = true ↔ x = .running ∨ x = .stopping ∨ x = .halting := by
  simp [ChannelState.playing, or_assoc]

/-- A channel that holds no message drops none. -/
theorem dropMessage_of_none {ch : Channel} (h : ch.message = none) : ch.dropMessage = ch := by rw [Channel.dropMessage, h]

/-! ### What the steps of a binding make of the channel -/

/-- A cue that ends leaves the lane and cutoff settings of a channel that holds no message. -/
theorem endCue_settings (status : CueStatus) (h : (s.channel c).message = none) :
    ((endCue c status s).channel c).lanes = (s.channel c).lanes ∧ ((endCue c status s).channel c).cutoff = (s.channel c).cutoff ∧
      ((endCue c status s).channel c).message = none := by
  cases hc : (s.channel c).current with
  | none => rw [endCue_of_none s c status hc]; exact ⟨rfl, rfl, h⟩
  | some cur =>
    rw [endCue_channel s c c status (by rw [hc]; rfl), if_pos rfl]
    have hd : ((s.channel c).drained s.store.requests c).dropMessage = (s.channel c).drained s.store.requests c := dropMessage_of_none h
    rw [Channel.cueOver, Channel.dropped, hd]
    exact ⟨rfl, rfl, h⟩

/-- A released channel that held no message keeps its lane and cutoff settings (R73). -/
theorem releaseChannel_settings (h : (s.channel c).message = none) :
    ((releaseChannel c s).channel c).lanes = (s.channel c).lanes ∧ ((releaseChannel c s).channel c).cutoff = (s.channel c).cutoff := by
  have hx : (s.setChannel c { s.channel c with queue := [] }).channel c = { s.channel c with queue := [] } := by
    rw [channel_setChannel, if_pos rfl]
  obtain ⟨hl, hk, hm⟩ := endCue_settings (s.setChannel c { s.channel c with queue := [] }) c .flushed (by rw [hx]; exact h)
  rw [hx] at hl hk
  rw [releaseChannel, letGo_channel, if_pos rfl, Channel.dropped, dropMessage_of_none (ch := Channel.drained ..) hm]
  exact ⟨hl, hk⟩

/-- A released channel holds no block (R73). -/
theorem releaseChannel_place (b : BufferId) : (((releaseChannel c s).channel c).buffer b).place = none := by
  rw [releaseChannel, letGo_channel, if_pos rfl, Channel.buffer, dropped_buffers, ← Channel.buffer, drained_buffer]
  exact drainBuffer_place ..

theorem releaseChannel_local : Local c s (releaseChannel c s) :=
  (setChannel_local s c _).trans ((endCue_local _ c _).trans (letGo_local _ c))

theorem releaseChannel_role (q : PortId) : ((releaseChannel c s).port q).role = (s.port q).role := by
  have hend : ∀ u : State, ((endCue c .flushed u).port q).role = (u.port q).role := fun u => by
    cases hc : (u.channel c).current with
    | none => rw [endCue_of_none u c _ hc]
    | some cur => rw [State.port, endCue_ports u c .flushed hc, ← State.port, notifyBound_role]
  rw [releaseChannel, State.port, letGo_ports, ← State.port, hend]
  rfl

/-- A released channel has told its old port of the cue it held (R73). -/
theorem releaseChannel_reached {cur : CurrentCue} {p : PortId} (hp : (s.channel c).port = some p) (hc : (s.channel c).current = some cur) :
    Reached (.cueEnded cur.tag .flushed cur.delivered cur.gap cur.concealed) p (releaseChannel c s) := by
  refine (letGo_local _ c).alerted.notified.reached (endCue_reached ?_ ?_) <;> rw [channel_setChannel, if_pos rfl]
  · exact hc
  · exact hp

theorem clearCredit_role (q p : PortId) : ((clearCredit q c s).port p).role = (s.port p).role := by
  rw [clearCredit, port_setPort]
  split
  · next e => rw [e]; rfl
  · rfl

theorem dropOldCredit_role (p : PortId) : ((dropOldCredit c s).port p).role = (s.port p).role := by
  unfold dropOldCredit
  split
  · exact clearCredit_role ..
  · rfl

theorem bindTo_channel (q : PortId) : (bindTo c q s).channel c =
    { s.channel c with
      port := some q, state := .idle, cutoff := if (s.port q).role = .control then (s.channel c).cutoff else .stop } := by
  simp only [bindTo, channel_setChannel, if_true, clearCredit_channel, dropOldCredit_channel, clearCredit_role, dropOldCredit_role]

theorem clearCredit_local (q : PortId) : Local c s (clearCredit q c s) :=
  .of_eq ⟨clearCredit_notified s c q, fun _ => id⟩ rfl rfl

theorem bindTo_local (q : PortId) : Local c s (bindTo c q s) := by
  have hdrop : Local c s (dropOldCredit c s) := by
    unfold dropOldCredit
    split
    · exact clearCredit_local ..
    · exact .refl s c
  exact hdrop.trans ((clearCredit_local _ c q).trans (setChannel_local _ c _))

/-- The port that a channel is bound to holds no credit for it (R73, R161). -/
theorem bindTo_creditFor (q : PortId) : ((bindTo c q s).port q).creditFor c = 0 := by
  simp only [bindTo, setChannel_port, clearCredit, port_setPort, if_true, creditFor_withCredit]

/-! ### Settling without a cue -/

variable {s c}

/-- A channel with no cue, outside STOPPING, changes no port while it settles. -/
theorem settle_ports_of_no_cue (hn : (s.channel c).current = none) (hs : (s.channel c).state ≠ .stopping) :
    (settle c s).ports = s.ports := by
  rw [settle, grantAll_ports, settleChannel_of_no_cue s c hn, stoppingEnd_of_awaiting s c (.inl hs)]
  rcases presentJob_cases s c with ⟨e, -⟩ | ⟨j, -, -, e⟩ <;> rw [e]
  rw [grantJob_ports]
  rfl

/-- A channel with no cue, outside STOPPING, keeps its lane and cutoff settings while it settles. -/
theorem settle_settings_of_no_cue (hn : (s.channel c).current = none) (hs : (s.channel c).state ≠ .stopping) :
    ((settle c s).channel c).lanes = (s.channel c).lanes ∧ ((settle c s).channel c).cutoff = (s.channel c).cutoff := by
  have h := settle_tended s c hs fun cur hc => by rw [hn] at hc; cases hc
  exact ⟨by rw [h], h.cutoff⟩

/-- A reply leaves every port's credit. -/
theorem creditFor_reply (p q : PortId) (code : ReplyCode) (fields : List Field) (d : ChannelId) :
    ((reply p code fields s).port q).creditFor d = (s.port q).creditFor d := by
  cases hv : (s.port p).service with
  | none => rw [reply_of_none p code fields s hv]
  | some v =>
    rw [reply_of_service p v code fields s hv, answered, port_setPort]
    split
    · next e => rw [e]; rfl
    · rfl

/-! ### BIND_CHANNEL -/

/-- A channel that has been bound to a port, before it settles (R73). -/
def bound (c : ChannelId) (q : PortId) (s : State) : State := bindTo c q (releaseChannel c s)

theorem bound_local (q : PortId) : Local c s (bound c q s) := (releaseChannel_local s c).trans (bindTo_local _ c q)

theorem bindChannel_of_le {p : PortId} {port : Byte} (h : 16 ≤ port.toNat) : bindChannel p port s c = reply p .badField [] s :=
  dif_neg (Nat.not_lt.2 h)

theorem bindChannel_of_lt {p q : PortId} {port : Byte} (h : port.toNat = q.val) : bindChannel p port s c =
    if (s.channel c).state.playing then reply p .portBusy [] s
    else reply p .ok [.u8 (s.channel c).queue.length, Field.flag (s.channel c).current.isSome] (settle c (bound c q s)) := by
  have hlt : port.toNat < 16 := by omega
  have hq : (⟨port.toNat, hlt⟩ : PortId) = q := Fin.ext h
  rw [bindChannel, dif_pos hlt, hq]
  rfl

/-- What a binding makes of the channel, once it has settled (R73). -/
theorem settle_bound (q : PortId) :
    let t := settle c (bound c q s)
    (t.channel c).state = .idle ∧ (t.channel c).port = some q ∧ (t.channel c).queue = [] ∧ (t.channel c).current = none ∧
      (t.channel c).message = none ∧ (t.channel c).runs = [] ∧ (∀ b, ((t.channel c).buffer b).place = none) ∧
      (t.port q).creditFor c = 0 ∧
      ((s.channel c).message = none → (t.channel c).lanes = (s.channel c).lanes ∧
        (t.channel c).cutoff = if (s.port q).role = .control then (s.channel c).cutoff else .stop) := by
  obtain ⟨hcur, hqueue, hmsg, hruns, -⟩ := releaseChannel_empty s c
  have hch := bindTo_channel (releaseChannel c s) c q
  rw [releaseChannel_role] at hch
  have hplace := releaseChannel_place s c
  have hset := releaseChannel_settings s c
  have hcredit := bindTo_creditFor (releaseChannel c s) c q
  have hn : ((bound c q s).channel c).current = none := by rw [bound, hch]; exact hcur
  have hs : ((bound c q s).channel c).state ≠ .stopping := by rw [bound, hch]; simp
  have hi := settle_idles (bound c q s) c hn
  obtain ⟨hlanes, hcutoff⟩ := settle_settings_of_no_cue hn hs
  have hports := settle_ports_of_no_cue hn hs
  rw [bound, hch] at hi hlanes hcutoff
  refine ⟨hi.state (by simp), hi.port, hi.queue.trans hqueue, hi.current, hi.message.trans hmsg, hi.runs.trans hruns, fun b => ?_, ?_,
    fun hm => ⟨hlanes.trans (hset hm).1, hcutoff.trans ?_⟩⟩
  · rw [Channel.buffer, bound, hi.buffers]; exact hplace b
  · rw [State.port, hports]; exact hcredit
  · rw [(hset hm).2]

/-! ### FLUSH_CHANNEL -/

/-- A channel whose queue has been emptied and whose remainder, if any, has ended, before it settles (R92). -/
def flushed (c : ChannelId) (s : State) : State := endCue c .flushed (s.setChannel c { s.channel c with queue := [] })

theorem flushed_local : Local c s (flushed c s) := (setChannel_local s c _).trans (endCue_local _ c _)

theorem flushChannel_eq (p : PortId) : flushChannel p s c =
    if (s.channel c).state.playing then wrongState p c s
    else reply p .ok [.u8 (s.channel c).queue.length, Field.flag (s.channel c).current.isSome] (settle c (flushed c s)) := rfl

theorem flushed_channel : ((flushed c s).channel c).queue = [] ∧ ((flushed c s).channel c).current = none ∧
    ((flushed c s).channel c).state = (s.channel c).state ∧ ((flushed c s).channel c).port = (s.channel c).port := by
  have hx : (s.setChannel c { s.channel c with queue := [] }).channel c = { s.channel c with queue := [] } := by
    rw [channel_setChannel, if_pos rfl]
  refine ⟨by rw [flushed, endCue_queue, hx], endCue_current _ c _, ?_, ?_⟩
  · cases hc : (s.channel c).current with
    | none => rw [flushed, endCue_of_none _ c _ (by rw [hx]; exact hc), hx]
    | some cur => rw [flushed, endCue_channel _ c c _ (by rw [hx, hc]; rfl), if_pos rfl, hx]; simp
  · rw [flushed, (endCue_sameBinding _ c _).1, hx]

/-- A flushed remainder has been reported, and its engagement is to be ended (R92). -/
theorem flushed_cue {cur : CurrentCue} (hc : (s.channel c).current = some cur) :
    ((flushed c s).channel c).job = (s.channel c).job.map ChannelJob.discarded ∧ ((flushed c s).channel c).disengageDue = true ∧
      ∀ p, (s.channel c).port = some p →
        Reached (.cueEnded cur.tag .flushed cur.delivered cur.gap cur.concealed) p (flushed c s) := by
  have hx : (s.setChannel c { s.channel c with queue := [] }).channel c = { s.channel c with queue := [] } := by
    rw [channel_setChannel, if_pos rfl]
  have hend := endCue_channel (s.setChannel c { s.channel c with queue := [] }) c c .flushed (by rw [hx, hc]; rfl)
  rw [if_pos rfl, hx] at hend
  refine ⟨by rw [flushed, hend]; rfl, by rw [flushed, hend]; rfl, fun p hp => endCue_reached ?_ ?_⟩ <;> rw [hx]
  · exact hc
  · exact hp

end Binding

/-- Settles O43: a binding releases the channel and clears the credit before the channel settles, and a flush ends the remainder; neither
leaves a cue, so that settling does no more than present a disengage. -/
theorem bindAndFlushChannel : Obligations.BindAndFlushChannel := by
  refine ⟨fun p v s field port c h hf => ?_, fun p v s field c h hf hp => ?_⟩
  · have he : exec (.bindChannel p) s = .next (bindChannel p port s c) := exec_openRequest h rfl hf
    refine ⟨fun hport => ?_, fun q hq => ⟨fun hplay => ?_, fun hplay => ?_⟩⟩
    · rw [he, bindChannel_of_le hport, reply_served h rfl]
    · rw [he, bindChannel_of_lt hq, if_pos ((playing_iff _).2 hplay), reply_served h rfl]
    · rw [he, bindChannel_of_lt hq, if_neg (mt (playing_iff _).1 hplay)]
      have hlocal := bound_local (s := s) (c := c) q
      have halert := hlocal.alerted.trans (settle_alerted _ c)
      obtain ⟨hst, hpo, hqu, hcu, hms, hru, hbu, hcr, hse⟩ := settle_bound (s := s) (c := c) q
      obtain ⟨hsvc, hrep⟩ := replied_after h halert .ok [.u8 (s.channel c).queue.length, Field.flag (s.channel c).current.isSome]
      refine ⟨_, rfl, ?_⟩
      simp only [reply_channel, creditFor_reply]
      refine ⟨hst, hpo, hqu, hcu, hms, hru, hbu, hcr, hse, fun old cur ho hc => reached_reply _ _ ?_, hsvc, hrep, ?_, fun d hd => ?_⟩
      · exact (settle_alerted _ c).notified.reached ((bindTo_local _ c q).alerted.notified.reached (releaseChannel_reached s c ho hc))
      · refine sameElsewhere_settle c _ _ ?_ ?_ ?_ ?_ ?_ ?_ <;> unfold bound bindTo dropOldCredit <;> dsimp only <;> split <;> simp
      · rw [settle_channel_ne _ c hd, hlocal.channel d hd]
  · have he : exec (.flushChannel p) s = .next (flushChannel p s c) := exec_boundRequest h rfl hf hp
    refine ⟨fun hplay => ?_, fun hplay => ?_⟩
    · rw [he, flushChannel_eq, if_pos ((playing_iff _).2 hplay), wrongState, reply_served h rfl]
    · rw [he, flushChannel_eq, if_neg (mt (playing_iff _).1 hplay)]
      have hlocal := flushed_local (s := s) (c := c)
      have halert := hlocal.alerted.trans (settle_alerted _ c)
      obtain ⟨hqu, hcu, hst, hpo⟩ := flushed_channel (s := s) (c := c)
      have hi := settle_idles (flushed c s) c hcu
      obtain ⟨hsvc, hrep⟩ := replied_after h halert .ok [.u8 (s.channel c).queue.length, Field.flag (s.channel c).current.isSome]
      have hns : ((flushed c s).channel c).state ≠ .stopping := fun e => hplay (.inr (.inl (hst.symm.trans e)))
      refine ⟨_, rfl, ?_⟩
      simp only [reply_channel]
      refine ⟨hi.queue.trans hqu, hi.current, (hi.state hns).trans hst, hi.port.trans hpo, fun cur hc => ?_, hsvc, hrep, ?_,
        fun d hd => ?_⟩
      · obtain ⟨hjob, hdue, hreach⟩ := flushed_cue hc
        exact ⟨reached_reply _ _ ((settle_alerted _ c).notified.reached (hreach p hp)),
          fun hj => hi.disengages (by rw [hjob, hj]; rfl) hdue⟩
      · refine sameElsewhere_settle c _ _ ?_ ?_ ?_ ?_ ?_ ?_ <;> simp [flushed]
      · rw [settle_channel_ne _ c hd, hlocal.channel d hd]

end Sys2Proof.Machine
end

-- ==== Proofs: SET_LANES, SET_CUTOFF and CHANNEL_STATUS ====
section
/-! SET_LANES, SET_CUTOFF and CHANNEL_STATUS (R72, R93, R98, R99): the lane settings that a request builds, and the judgement of a channel
under a new behaviour (R126 to R129). -/

namespace Sys2Proof.Machine

/-! ### The lanes that a SET_LANES carries -/

section Lanes
variable {entries : List Byte} {count : Nat}

theorem faultyLane_eq_some {i : Nat} : faultyLane entries count = some i ↔
    carriedLane entries i = none ∧ i < count ∧ ∀ j, j < i → carriedLane entries j ≠ none := by
  simp [faultyLane, List.find?_range_eq_some, Option.isSome_iff_ne_none]

theorem faultyLane_eq_none : faultyLane entries count = none ↔ ∀ i, i < count → carriedLane entries i ≠ none := by
  simp [faultyLane]

theorem buildLanes_carried (present : LaneSetting) (word : Nat) (h : ∀ i, i < count → carriedLane entries i ≠ none) (i : Fin 8)
    (hi : i.val < count) : some (rowGet (buildLanes present count word entries).lanes i) = carriedLane entries i.val := by
  obtain ⟨lane, hl⟩ := Option.ne_none_iff_exists'.1 (h i.val hi)
  simp [buildLanes, hi, hl]

theorem buildLanes_kept (present : LaneSetting) (word : Nat) (i : Fin 8) (hi : count ≤ i.val) :
    rowGet (buildLanes present count word entries).lanes i = rowGet present.lanes i := by
  simp [buildLanes, Nat.not_lt.2 hi]

end Lanes

section SetLanes
variable (p : PortId) {count word : Nat} {entries : List Byte} (s : State) (c : ChannelId)

theorem setLanes_of_bad_count (h : ¬ (1 ≤ count ∧ count ≤ 8)) : setLanes p count word entries s c = reply p .badField [.u8 0x08] s :=
  if_pos (by rw [decide_eq_false h]; rfl)

/-- A SET_LANES whose count is in its range goes on to the word size (R98). -/
theorem setLanes_of_bad_word (hc : 1 ≤ count ∧ count ≤ 8) (h : ¬ (2 ≤ word ∧ word ≤ 4)) :
    setLanes p count word entries s c = reply p .badField [.u8 0x09] s := by
  rw [setLanes, if_neg (by rw [decide_eq_true hc]; decide), if_pos (by rw [decide_eq_false h]; rfl)]

section Entries
variable {p s c} (hc : 1 ≤ count ∧ count ≤ 8) (hw : 2 ≤ word ∧ word ≤ 4)
include hc hw

/-- A SET_LANES whose count and word size are in their ranges goes on to the length of its entries (R98). -/
theorem setLanes_of_bad_length (hl : entries.length ≠ 3 * count) : setLanes p count word entries s c = reply p .badRequest [] s := by
  rw [setLanes, if_neg (by rw [decide_eq_true hc]; decide), if_neg (by rw [decide_eq_true hw]; decide), if_pos hl]

/-- A SET_LANES whose entries are of the right length goes on to the lanes they carry (R98). -/
theorem setLanes_of_bad_lane (hl : entries.length = 3 * count) {i : Nat} (h : faultyLane entries count = some i) :
    setLanes p count word entries s c = reply p .badField [.u8 i] s := by
  rw [setLanes, if_neg (by rw [decide_eq_true hc]; decide), if_neg (by rw [decide_eq_true hw]; decide), if_neg (not_not.2 hl), h]

theorem setLanes_of_good (hl : entries.length = 3 * count) (h : faultyLane entries count = none) :
    setLanes p count word entries s c = reply p .ok [Field.flag (s.channel c).message.isNone]
      (s.setChannel c ((s.channel c).takeLanes (buildLanes (s.channel c).lanes count word entries))) := by
  rw [setLanes, if_neg (by rw [decide_eq_true hc]; decide), if_neg (by rw [decide_eq_true hw]; decide), if_neg (not_not.2 hl), h]

end Entries

end SetLanes

/-! ### The settings of a channel under settling -/

/-- A setting with nothing pending stays as it is, with nothing pending still. -/
structure Channel.SameSettings (x y : Channel) : Prop where
  cutoff : x.pendingCutoff = none → y.cutoff = x.cutoff ∧ y.pendingCutoff = none
  lanes : x.pendingLanes = none → y.lanes = x.lanes ∧ y.pendingLanes = none

theorem Channel.SameSettings.refl (x : Channel) : x.SameSettings x := ⟨fun h => ⟨rfl, h⟩, fun h => ⟨rfl, h⟩⟩

theorem Channel.SameSettings.trans {x y z : Channel} (h : x.SameSettings y) (g : y.SameSettings z) : x.SameSettings z :=
  ⟨fun hx => ⟨(g.cutoff (h.cutoff hx).2).1.trans (h.cutoff hx).1, (g.cutoff (h.cutoff hx).2).2⟩,
    fun hx => ⟨(g.lanes (h.lanes hx).2).1.trans (h.lanes hx).1, (g.lanes (h.lanes hx).2).2⟩⟩

theorem Channel.Tended.sameSettings {x y : Channel} (h : x.Tended y) : x.SameSettings y := by
  rw [h]
  exact ⟨fun hx => ⟨rfl, hx⟩, fun hx => ⟨rfl, hx⟩⟩

/-- A message that is dropped lets no setting take effect where none is pending (R93, R99). -/
theorem dropMessage_sameSettings (x : Channel) : x.SameSettings x.dropMessage := by
  unfold Channel.dropMessage
  split
  · exact .refl x
  · exact ⟨fun hx => by simp [Channel.boundary, hx], fun hx => by simp [Channel.boundary, hx]⟩

theorem dropped_sameSettings (x : Channel) : x.SameSettings x.dropped :=
  ⟨(dropMessage_sameSettings x).cutoff, (dropMessage_sameSettings x).lanes⟩

theorem drained_sameSettings (requests : List BlockRequest) (c : ChannelId) (x : Channel) : x.SameSettings (x.drained requests c) :=
  ⟨fun hx => ⟨rfl, hx⟩, fun hx => ⟨rfl, hx⟩⟩

/-- A channel that has let go of what it holds of its cue, whatever its state and its cue then are, keeps its settings. -/
theorem drained_dropped_sameSettings (requests : List BlockRequest) (c : ChannelId) (x : Channel) (st : ChannelState)
    (cue : Option CurrentCue) (due : Bool) :
    x.SameSettings { (x.drained requests c).dropped with state := st, current := cue, disengageDue := due } := by
  have h := (drained_sameSettings requests c x).trans (dropped_sameSettings _)
  exact ⟨h.cutoff, h.lanes⟩

section Settling
variable (s : State) (c : ChannelId)

theorem goOn_sameSettings : (s.channel c).SameSettings ((goOn c s).channel c) := by
  rw [goOn_channel, if_pos rfl]
  exact ⟨fun h => ⟨rfl, h⟩, fun h => ⟨rfl, h⟩⟩

theorem endCue_sameSettings (status : CueStatus) : (s.channel c).SameSettings ((endCue c status s).channel c) := by
  cases h : (s.channel c).current with
  | none => rw [endCue_of_none s c status h]; exact .refl _
  | some cur =>
    rw [endCue_channel s c c status (by rw [h]; rfl), if_pos rfl]
    exact drained_dropped_sameSettings ..

theorem finishCue_sameSettings : (s.channel c).SameSettings ((finishCue c s).channel c) := by
  unfold finishCue
  dsimp only
  split
  · split
    · exact .refl _
    · split
      · exact (endCue_sameSettings s c _).trans (goOn_sameSettings _ c)
      · split
        · exact endCue_sameSettings s c _
        · exact .refl _
  · exact .refl _

theorem stoppingEnd_sameSettings : (s.channel c).SameSettings ((stoppingEnd c s).channel c) := by
  unfold stoppingEnd
  dsimp only
  split
  · split
    · exact goOn_sameSettings s c
    · split
      · exact (endCue_sameSettings s c _).trans (goOn_sameSettings _ c)
      · rw [notifyBound_channel, keepRemainder_channel, if_pos rfl]
        exact drained_dropped_sameSettings ..
  · exact .refl _

theorem settleChannel_sameSettings : (s.channel c).SameSettings ((settleChannel c s).channel c) :=
  (releaseBuffers_tended s c).sameSettings.trans <| (finishCue_sameSettings _ c).trans <| (issueAll_tended _ c).sameSettings.trans <|
    (assemble_tended _ c).sameSettings.trans <| (stoppingEnd_sameSettings _ c).trans (presentJob_tended _ c).sameSettings

theorem settle_sameSettings : (s.channel c).SameSettings ((settle c s).channel c) := by
  rw [settle_channel]
  exact settleChannel_sameSettings s c

/-- A cutoff event keeps the settings of a channel with nothing pending (R93, R99, R126). -/
theorem judge_sameSettings : (s.channel c).SameSettings ((judge c s).channel c) := by
  unfold judge
  split
  · next hd =>
    obtain ⟨cur, hc, -⟩ := cutoffDue_iff.1 hd
    unfold cutoffEvent
    dsimp only
    split
    · exact .refl _
    · rw [stopCue_channel s c c (by rw [hc]; rfl), if_pos rfl]; exact drained_dropped_sameSettings ..
    · split
      · exact endCue_sameSettings s c _
      · exact (endCue_sameSettings s c _).trans (goOn_sameSettings _ c)
    · split
      · exact endCue_sameSettings s c _
      · rw [muteCue_channel, if_pos rfl]
        have h := drained_dropped_sameSettings s.store.requests c
          { s.channel c with current := (s.channel c).current.map fun cur => { cur with muted := true } }
        exact ⟨(h _ _ _).cutoff, (h _ _ _).lanes⟩
  · exact .refl _

end Settling

/-! ### SET_CUTOFF -/

section SetCutoff
variable {s : State} {p : PortId} {c : ChannelId} {behaviour : Byte} {b : Cutoff}

theorem cutoffOfCode_of_le (h : 4 ≤ behaviour.toNat) : cutoffOfCode behaviour = none := by
  unfold cutoffOfCode
  split
  case h_5 => rfl
  all_goals omega

theorem cutoffOfCode_of_code (h : b.code = behaviour.toNat) : cutoffOfCode behaviour = some b := by
  unfold cutoffOfCode
  rw [← h]
  cases b <;> rfl

/-- A channel that takes a behaviour at once (R93). -/
def Channel.withCutoff (ch : Channel) (b : Cutoff) : Channel := { ch with cutoff := b, pendingCutoff := none }

theorem setCutoff_of_unknown (h : 4 ≤ behaviour.toNat) : setCutoff p behaviour s c = reply p .badField [] s := by
  rw [setCutoff, cutoffOfCode_of_le h]

theorem setCutoff_of_ignore (h : behaviour.toNat = 3) (hp : (s.channel c).port = some p) (hr : (s.port p).role ≠ .control) :
    setCutoff p behaviour s c = reply p .badField [] s := by
  rw [setCutoff, cutoffOfCode_of_code (b := .ignore) h.symm]
  exact if_pos ⟨rfl, by rw [boundRole_of_port hp]; exact hr⟩

/-- A SET_CUTOFF that is taken: pending behind a message, and else at once, with a judgement (R93, R126). -/
theorem setCutoff_of_taken (h : b.code = behaviour.toNat) (hp : (s.channel c).port = some p)
    (hb : b ≠ .ignore ∨ (s.port p).role = .control) : setCutoff p behaviour s c =
      if (s.channel c).message.isNone then reply p .ok [] (settle c (judge c (s.setChannel c ((s.channel c).withCutoff b))))
      else reply p .ok [] (s.setChannel c { s.channel c with pendingCutoff := some b }) := by
  rw [setCutoff, cutoffOfCode_of_code h]
  refine if_neg fun ⟨hi, hr⟩ => ?_
  rw [boundRole_of_port hp] at hr
  exact hb.elim (fun h => h hi) hr

/-- A judgement that finds no cutoff event does nothing (R126). -/
theorem judge_of_not_due {u : State} (h : u.cutoffDue c = false) : judge c u = u := by
  rw [judge, h, if_neg Bool.false_ne_true]

/-- A judgement that finds a cutoff event, once the channel has settled (R126 to R129). -/
theorem judge_settle_effect {u : State} {cur : CurrentCue} (hc : (u.channel c).current = some cur) (hm : cur.muted = false)
    (hh : cur.held u.hold.latches = true) (hb : (u.channel c).cutoff ≠ .ignore) :
    CutEffect u.store.requests (u.channel c) cur u.hold.latches c (settle c (judge c u)) := by
  rw [judge, if_pos (cutoffDue_iff.2 ⟨cur, hc, hh, hb, hm⟩)]
  exact (cutoffEvent_effect hc hb).after (grantAll_channel _ c) (grantAll_alerted _).keepsReached

theorem cutoffDue_eq_false {u : State} {cur : CurrentCue} (hc : (u.channel c).current = some cur)
    (h : cur.muted = true ∨ cur.held u.hold.latches = false ∨ (u.channel c).cutoff = .ignore) : u.cutoffDue c = false := by
  rw [State.cutoffDue, hc]
  rcases h with h | h | h <;> simp [h]

end SetCutoff

/-! ### The three requests -/

section TheRequests
variable {p : PortId} {v : Service} {s : State} {field : Byte} {c : ChannelId}

theorem exec_setLanes {count word : Byte} {entries : List Byte} (h : Serves s p v (.setLanes field count word entries))
    (hf : field.toNat = c.val) (hp : (s.channel c).port = some p) :
    exec (.setLanes p) s = .next (setLanes p count.toNat word.toNat entries s c) := exec_boundRequest h rfl hf hp

theorem exec_setCutoff {behaviour : Byte} (h : Serves s p v (.setCutoff field behaviour)) (hf : field.toNat = c.val)
    (hp : (s.channel c).port = some p) : exec (.setCutoff p) s = .next (setCutoff p behaviour s c) := exec_boundRequest h rfl hf hp

theorem exec_channelStatus (h : Serves s p v (.channelStatus field)) (hf : field.toNat = c.val) :
    exec (.channelStatus p) s = .next (channelStatus p v.role s c) := exec_openRequest h rfl hf

end TheRequests

/-- Settles O47: the checks of each request in turn; a behaviour that takes effect at once is judged by the rules of a cutoff event. -/
theorem lanesCutoffAndStatus : Obligations.LanesCutoffAndStatus := by
  refine ⟨fun p v s field count word entries c h hf hp => ?_, fun p v s field c hf => ⟨fun behaviour h hp => ?_, fun h => ?_⟩⟩
  · have he := exec_setLanes h hf hp
    refine ⟨fun hc => ?_, fun hc1 hc8 => ⟨fun hw => ?_, fun hw2 hw4 => ?_⟩⟩
    · rw [he, setLanes_of_bad_count p s c hc, reply_served h rfl]
    · rw [he, setLanes_of_bad_word p s c ⟨hc1, hc8⟩ hw, reply_served h rfl]
    · refine ⟨fun hl => ?_, fun hl => ⟨fun i hi hbad hgood => ?_, fun hgood => ?_⟩⟩
      · rw [he, setLanes_of_bad_length ⟨hc1, hc8⟩ ⟨hw2, hw4⟩ hl, reply_served h rfl]
      · rw [he, setLanes_of_bad_lane ⟨hc1, hc8⟩ ⟨hw2, hw4⟩ hl (faultyLane_eq_some.2 ⟨hbad, hi, hgood⟩), reply_served h rfl]
      · refine ⟨buildLanes (s.channel c).lanes count.toNat word.toNat entries, rfl, rfl, buildLanes_carried _ _ hgood,
          buildLanes_kept _ _, ?_⟩
        rw [he, setLanes_of_good ⟨hc1, hc8⟩ ⟨hw2, hw4⟩ hl (faultyLane_eq_none.2 hgood)]
        exact congrArg _ (reply_served h (u := s.setChannel c _) rfl _ _)
  · have he := exec_setCutoff h hf hp
    refine ⟨fun hb => ?_, fun hb hr => ?_, fun b hb hi => ?_⟩
    · rw [he, setCutoff_of_unknown hb, reply_served h rfl]
    · rw [he, setCutoff_of_ignore hb hp hr, reply_served h rfl]
    · rw [setCutoff_of_taken hb hp hi] at he
      have hx : (s.setChannel c ((s.channel c).withCutoff b)).channel c = (s.channel c).withCutoff b := by
        rw [channel_setChannel, if_pos rfl]
      refine ⟨fun hm => ?_, fun hm hn hs hd hg => ?_, fun cur hm hc => ?_⟩
      · rw [he, if_neg (by rw [Option.isNone_eq_false_iff.2 hm]; decide)]
        exact congrArg _ (reply_served h (u := s.setChannel c _) rfl _ _)
      · have hquiet : (s.channel c).state ≠ .running ∧ (s.channel c).state ≠ .stopping := by
          rcases hs with e | e | e | e <;> rw [e] <;> decide
        have hcur : ((s.channel c).withCutoff b).current = none := hn
        rw [he, if_pos (by rw [hm]; rfl), judge_of_not_due (by rw [State.cutoffDue, hx, hcur]),
          settle_set_quiet (x := (s.channel c).withCutoff b) hg hn hquiet.1 hquiet.2 hd]
        exact congrArg _ (reply_served h (u := s.setChannel c _) rfl _ _)
      · rw [if_pos (by rw [hm]; rfl)] at he
        have hlocal := (setChannel_local s c ((s.channel c).withCutoff b)).trans (judge_local _ c)
        obtain ⟨hsvc, hrep⟩ := replied_after h (hlocal.alerted.trans (settle_alerted _ c)) .ok []
        refine ⟨_, he, hsvc, hrep, ?_, fun d hd => ?_, fun hmu hh hne => ?_, fun hquiet => ?_⟩
        · refine sameElsewhere_settle c _ _ ?_ ?_ ?_ ?_ ?_ ?_ <;> simp
        · rw [reply_channel, settle_channel_ne _ c hd, hlocal.channel d hd]
        · have heff := judge_settle_effect (u := s.setChannel c ((s.channel c).withCutoff b)) (c := c) (by rw [hx]; exact hc) hmu hh
            (by rw [hx]; exact hne)
          rw [hx] at heff
          exact heff.after (reply_channel ..) fun _ _ => reached_reply _ _
        · rw [judge_of_not_due (cutoffDue_eq_false (by rw [hx]; exact hc) (by rw [hx]; exact hquiet)), reply_channel]
          have hk := settle_sameSettings (s.setChannel c ((s.channel c).withCutoff b)) c
          have hq := (settle_sameBinding (s.setChannel c ((s.channel c).withCutoff b)) c).2
          rw [hx] at hk hq
          refine ⟨(hk.cutoff rfl).1, (hk.cutoff rfl).2, hq, fun hs hdue => ?_⟩
          have ht := settle_tended (s.setChannel c ((s.channel c).withCutoff b)) c (by rw [hx]; exact hs) fun k hk => by
            rw [hx, show ((s.channel c).withCutoff b).current = some cur from hc] at hk
            cases hk
            exact hdue
          rw [hx] at ht
          exact ⟨ht.state, ht.current.trans hc⟩
  · have he := exec_channelStatus h hf
    refine ⟨fun hp => ?_, fun hp hr => ?_⟩
    · rw [he, channelStatus, if_pos hp, reply_served h rfl, Channel.statusFields]
      cases (s.channel c).port <;> cases (s.channel c).current <;> rfl
    · rw [he, channelStatus, if_neg (not_or.2 ⟨hp, hr⟩), reply_served h rfl]

end Sys2Proof.Machine
end

-- ==== Proofs: COLLECTION_TIMEOUT ====
section
/-! COLLECTION_TIMEOUT (R93, R94, R127): the remainder that an expired wait leaves, and its judgement under a behaviour that was pending. -/

namespace Sys2Proof.Machine

/-! ### What a cutoff's effect depends on -/

section Effect
variable {requests requests' : List BlockRequest} {ch ch' : Channel} {cur : CurrentCue} {latches : Groups} {c : ChannelId} {t : State}

theorem CueCut.congr (h : CueCut ch' cur c t) (hp : ch'.port = ch.port) (hj : ch.job = none → ch'.job = none) : CueCut ch cur c t := by
  obtain ⟨h1, h2, h3, h4, h5⟩ := h
  exact ⟨h1, h2, h3, fun e => h4 (hj e), fun q hq => h5 q (hp.trans hq)⟩

theorem StoppedEmpty.congr (h : StoppedEmpty ch' c t) (hp : ch'.port = ch.port) : StoppedEmpty ch c t :=
  ⟨h.1, fun q hq => h.2 q (hp.trans hq)⟩

/-- A cutoff's effect is judged by the state, the port, the queue, the behaviour and what is awaited of the channel before it alone. -/
theorem CutEffect.congr (h : CutEffect requests' ch' cur latches c t) (hs : ch'.state = ch.state) (hp : ch'.port = ch.port)
    (hq : ch'.queue = ch.queue) (hk : ch'.cutoff = ch.cutoff) (hj : ch.job = none → ch'.job = none)
    (hw : ch.state = .stopping → (ch'.Awaits requests' c ↔ ch.Awaits requests c)) : CutEffect requests ch cur latches c t := by
  obtain ⟨hport, hqueue, hstop, hskip, hmute⟩ := cutEffect_iff.1 h
  rw [hp] at hport
  rw [hq] at hqueue hskip
  rw [hk] at hstop hskip hmute
  rw [hs] at hskip hmute
  refine cutEffect_iff.2 ⟨hport, hqueue, fun e => ?_, fun e => ?_, fun e => ?_⟩
  · obtain ⟨h1, h2, h3⟩ := hstop e
    exact ⟨h1.congr hp hj, h2, fun q hq => h3 q (hp.trans hq)⟩
  · obtain ⟨h1, h2, h3, h4, h5⟩ := hskip e
    exact ⟨h1.congr hp hj, h2, fun e => ⟨(h3 e).1, fun q hq => (h3 e).2 q (hp.trans hq)⟩, fun e => (h4 e).congr hp, h5⟩
  · obtain ⟨h1, h2, h3⟩ := hmute e
    refine ⟨h1, fun e hd => ⟨fun hn => ?_, fun hn => (h2 e hd).2 ((hw e).2 hn)⟩, fun e => ⟨(h3 e).1.congr hp hj, (h3 e).2⟩⟩
    obtain ⟨h4, h5⟩ := (h2 e hd).1 (mt (hw e).1 hn)
    exact ⟨h4.congr hp hj, h5.congr hp⟩

/-- The crossing of a remainder's cue has no part in a cutoff's effect on it. -/
theorem CutEffect.of_crossing {crossing : Option Nat} (h : CutEffect requests ch { cur with crossing := crossing } latches c t)
    (hs : ch.state = .stopped) : CutEffect requests ch cur latches c t := by
  obtain ⟨hport, hqueue, hstop, hskip, hmute⟩ := cutEffect_iff.1 h
  refine cutEffect_iff.2 ⟨hport, hqueue, hstop, hskip, fun e => ⟨fun hp => ?_, fun hp => ?_, (hmute e).2.2⟩⟩
  all_goals rw [hs] at hp; simp at hp

/-- A cutoff event of a remainder leaves no message and no run, whatever the behaviour (R127, R128, R129). -/
theorem CutEffect.stopped_holds (h : CutEffect requests ch cur latches c t) (hs : ch.state = .stopped) (hk : ch.cutoff ≠ .ignore) :
    (t.channel c).message = none ∧ (t.channel c).runs = [] := by
  obtain ⟨-, -, hstop, hskip, hmute⟩ := cutEffect_iff.1 h
  have hcut : CueCut ch cur c t := by
    cases e : ch.cutoff with
    | ignore => exact absurd e hk
    | stop => exact (hstop e).1
    | skip => exact (hskip e).1
    | mute => exact ((hmute e).2.2 hs).1
  obtain ⟨-, hm, ⟨hr, -⟩, -, -⟩ := hcut
  exact ⟨hm, hr⟩

end Effect

/-! ### A stopped channel that settles -/

section Settling
variable {s : State} {c : ChannelId}

/-- A channel in STOPPED assembles no message (R81). -/
theorem assemble_of_stopped (hs : (s.channel c).state = .stopped) : assemble c s = s := by
  unfold assemble
  dsimp only
  split
  · next cur _ _ =>
    have hnext : nextMessage (s.channel c) cur = none := by simp [nextMessage, Channel.delivering, hs]
    rw [hnext]
  · rfl

/-- A channel in STOPPED ends no cue (R83). -/
theorem finishCue_of_stopped (hs : (s.channel c).state = .stopped) : finishCue c s = s := by
  unfold finishCue
  dsimp only
  split
  · simp [Channel.delivering, hs]
  · rfl

/-- A channel in STOPPED settles by releasing buffers and presenting a job. -/
theorem settle_of_stopped (hs : (s.channel c).state = .stopped) : (s.channel c).Tended ((settle c s).channel c) ∧
    ((settle c s).channel c).runs = (s.channel c).runs ∧ ((settle c s).channel c).message = (s.channel c).message ∧
    ((∀ b, ((s.channel c).buffer b).place = none) → ∀ b, (((settle c s).channel c).buffer b).place = none) := by
  have hr := releaseBuffers_tended s c
  have hstate : ((releaseBuffers c s).channel c).state = .stopped := hr.state.trans hs
  have e : settleChannel c s = presentJob c (releaseBuffers c s) := by
    rw [settleChannel, finishCue_of_stopped hstate, issueAll_of_not_delivering (by simp [Channel.delivering, hstate]),
      assemble_of_stopped hstate, stoppingEnd_of_awaiting _ c (.inl (by rw [hstate]; decide))]
  obtain ⟨hb, hru, hm⟩ := presentJob_keeps (releaseBuffers c s) c
  rw [settle_channel, e]
  refine ⟨hr.trans (presentJob_tended _ c), hru.trans releaseBuffers_keeps.1, hm.trans releaseBuffers_message, fun hn b => ?_⟩
  rw [Channel.buffer, hb, ← Channel.buffer, releaseBuffers_of_no_place hn]
  exact hn b

/-! ### The remainder of an expired wait -/

/-- What an expired wait leaves of a channel, beside its current cue, before it is judged (R94, R127). -/
structure Channel.Expires (ch : Channel) (cur : CurrentCue) (x : Channel) : Prop where
  state : x.state = .stopped
  current : x.current = if cur.muted then none else some { cur with crossing := none }
  message : x.message = none
  runs : x.runs = []
  queue : x.queue = ch.queue
  port : x.port = ch.port
  place : ∀ b, (x.buffer b).place = none
  cutoff : x.cutoff = ch.dropMessage.cutoff
  pendingCutoff : x.pendingCutoff = ch.dropMessage.pendingCutoff

/-- The part with a remainder kept and reported, or ended CUT where it is muted (R94, R127). -/
def expired (c : ChannelId) (cur : CurrentCue) (s : State) : State :=
  let t := notifyBound c (.collectionTimeout cur.tag cur.next) (keepRemainder c s)
  if cur.muted then endCue c .cut t else t

theorem expireWait_eq (cur : CurrentCue) : expireWait c cur s =
    settle c (if (s.channel c).pendingCutoff.isSome then judge c (expired c cur s) else expired c cur s) := rfl

theorem expired_local (cur : CurrentCue) : Local c s (expired c cur s) := by
  have h := (keepRemainder_local s c).trans (notifyBound_local _ c (.collectionTimeout cur.tag cur.next))
  unfold expired
  dsimp only
  split
  · exact h.trans (endCue_local _ c _)
  · exact h

/-- The channel of a remainder that has been kept and reported. -/
theorem remainder_channel {cur : CurrentCue} (hc : (s.channel c).current = some cur) :
    (notifyBound c (.collectionTimeout cur.tag cur.next) (keepRemainder c s)).channel c =
      { ((s.channel c).drained s.store.requests c).dropped with state := .stopped, current := some { cur with crossing := none } } := by
  rw [notifyBound_channel, keepRemainder_channel, if_pos rfl, hc]
  rfl

theorem expired_expires {cur : CurrentCue} (hc : (s.channel c).current = some cur) :
    (s.channel c).Expires cur ((expired c cur s).channel c) := by
  have hplace : ∀ b, (((s.channel c).drained s.store.requests c).buffer b).place = none := fun b => by
    rw [drained_buffer]
    exact drainBuffer_place ..
  have hdrop : ((s.channel c).drained s.store.requests c).dropMessage.cutoff = (s.channel c).dropMessage.cutoff ∧
      ((s.channel c).drained s.store.requests c).dropMessage.pendingCutoff = (s.channel c).dropMessage.pendingCutoff := by
    unfold Channel.dropMessage
    rw [drained_message]
    cases (s.channel c).message <;> exact ⟨rfl, rfl⟩
  have hx := remainder_channel hc
  unfold expired
  dsimp only
  cases hm : cur.muted with
  | false =>
    rw [if_neg Bool.false_ne_true, hx]
    refine ⟨rfl, by rw [hm]; rfl, by simp, rfl, by simp, by simp, fun b => ?_, hdrop.1, hdrop.2⟩
    rw [Channel.buffer, show Channel.buffers _ = ((s.channel c).drained s.store.requests c).buffers from dropped_buffers _]
    exact hplace b
  | true =>
    rw [if_pos rfl, endCue_channel _ c c .cut (by rw [hx]; rfl), if_pos rfl, hx]
    generalize (notifyBound c (.collectionTimeout cur.tag cur.next) (keepRemainder c s)).store.requests = requests
    refine ⟨by simp, by rw [hm]; rfl, by simp, by simp, by simp, by simp, fun b => ?_, ?_, ?_⟩
    · rw [Channel.buffer, cueOver_buffers, ← Channel.buffer, drained_buffer]
      exact drainBuffer_place ..
    · rw [Channel.cueOver, Channel.dropped, dropMessage_of_none (by simp)]
      exact hdrop.1
    · rw [Channel.cueOver, Channel.dropped, dropMessage_of_none (by simp)]
      exact hdrop.2

/-- A remainder presents no job as it is kept. -/
theorem expired_job {cur : CurrentCue} (hc : (s.channel c).current = some cur) (hj : (s.channel c).job = none) :
    ((expired c cur s).channel c).job = none := by
  have hx := remainder_channel hc
  unfold expired
  dsimp only
  split
  · rw [endCue_channel _ c c .cut (by rw [hx]; rfl), if_pos rfl, hx]
    simp [Channel.drained, hj]
  · rw [hx]
    simp [hj]

/-- An expired wait has been reported, and so has the end of a muted cue (R94, R127). -/
theorem expired_reached {cur : CurrentCue} (hc : (s.channel c).current = some cur) {p : PortId} (hp : (s.channel c).port = some p) :
    Reached (.collectionTimeout cur.tag cur.next) p (expired c cur s) ∧
      (cur.muted = true → Reached (.cueEnded cur.tag .cut cur.delivered cur.gap cur.concealed) p (expired c cur s)) := by
  have hx := remainder_channel hc
  have hsaid := notifyBound_reached (keepRemainder c s) c (.collectionTimeout cur.tag cur.next) p (by
    rw [keepRemainder_channel, if_pos rfl]
    simpa using hp)
  unfold expired
  dsimp only
  cases hm : cur.muted with
  | false => exact ⟨hsaid, fun h => by cases h⟩
  | true =>
    rw [if_pos rfl]
    refine ⟨(endCue_local _ c _).alerted.notified.reached hsaid, fun _ => ?_⟩
    exact endCue_reached (cur := { cur with crossing := none }) (by rw [hx]) (by rw [hx]; simpa using hp)

theorem expireWait_same (cur : CurrentCue) : SameElsewhere s (expireWait c cur s) := by
  refine ⟨?_, ?_, ?_, ?_, ?_, ?_⟩ <;> simp only [expireWait] <;> split <;> split <;> simp

theorem expireWait_alerted (cur : CurrentCue) : Alerted (expired c cur s) (expireWait c cur s) := by
  rw [expireWait_eq]
  split
  · exact (judge_local _ c).alerted.trans (settle_alerted _ c)
  · exact settle_alerted _ c

theorem expireWait_channel_ne (cur : CurrentCue) {d : ChannelId} (h : d ≠ c) : (expireWait c cur s).channel d = s.channel d := by
  rw [expireWait_eq, settle_channel_ne _ c h]
  split
  · rw [(judge_local _ c).channel d h, (expired_local cur).channel d h]
  · exact (expired_local cur).channel d h

/-- A wait that has run out on a playing channel expires (R94). -/
theorem exec_collectionTimeout {cur : CurrentCue} (hc : (s.channel c).current = some cur) (hw : (s.channel c).wait = some 0)
    (hp : (s.channel c).state = .running ∨ (s.channel c).state = .stopping ∨ (s.channel c).state = .halting) :
    exec (.collectionTimeout c) s = .next (expireWait c cur s) := by
  show Host.Outcome.next (waitTimeout c s) = _
  simp only [waitTimeout, hc, hw, (playing_iff _).2 hp, if_true]

theorem exec_collectionTimeout_of_running (hw : (s.channel c).wait ≠ some 0) : exec (.collectionTimeout c) s = .next s :=
  congrArg Host.Outcome.next (waitTimeout_of_not_due (.inr (.inl hw)))

theorem Channel.Tended.pendingCutoff {x y : Channel} (h : x.Tended y) : y.pendingCutoff = x.pendingCutoff := by rw [h]

/-- A remainder that meets no cutoff event settles as it was kept (R94). -/
theorem Channel.Expires.settled {ch : Channel} {cur : CurrentCue} {u : State} (h : ch.Expires cur (u.channel c)) :
    ch.Expires cur ((settle c u).channel c) := by
  obtain ⟨ht, hr, hm, hb⟩ := settle_of_stopped h.state
  exact ⟨ht.state.trans h.state, ht.current.trans h.current, hm.trans h.message, hr.trans h.runs, ht.queue.trans h.queue,
    ht.port.trans h.port, hb h.place, ht.cutoff.trans h.cutoff, ht.pendingCutoff.trans h.pendingCutoff⟩

/-- The judgement of a remainder whose behaviour has just taken effect (R93, R126, R129). -/
theorem Channel.Expires.judged {ch : Channel} {cur : CurrentCue} {b : Cutoff} {u : State} (h : ch.Expires cur (u.channel c))
    (hj : ch.job = none → (u.channel c).job = none)
    (hk : (u.channel c).cutoff = b) (hm : cur.muted = false) (hb : b ≠ .ignore) (hh : cur.held u.hold.latches = true)
    (requests : List BlockRequest) :
    CutEffect requests { ch with state := .stopped, cutoff := b } cur u.hold.latches c (settle c (judge c u)) := by
  have hcur : (u.channel c).current = some { cur with crossing := none } := by rw [h.current, hm]; rfl
  have heff := judge_settle_effect hcur hm hh (by rw [hk]; exact hb)
  have hstop : (u.channel c).state = .stopped := h.state
  exact (heff.of_crossing hstop).congr hstop h.port h.queue hk hj fun e => by cases e

end Settling

/-- Settles O55: the channel is STOPPED with its remainder or none, and a stopped channel settles by presenting a job; a behaviour that took
effect as the message was dropped has the remainder judged. -/
theorem collectionTimeout : Obligations.CollectionTimeout := by
  intro s c cur hc
  have hexp := expired_expires hc
  have hothers : ∀ d, d ≠ c → (expireWait c cur s).channel d = s.channel d := fun d hd => expireWait_channel_ne cur hd
  have hreach := fun n p => (expireWait_alerted (s := s) (c := c) cur).notified.reached (n := n) (p := p)
  refine ⟨fun n hw => exec_collectionTimeout_of_running (by rw [hw]; simp),
    fun hw => exec_collectionTimeout_of_running (by rw [hw]; simp),
    fun hw hp hn => ⟨_, exec_collectionTimeout hc hw hp, ?_⟩, fun b m hw hp hb hm => ⟨_, exec_collectionTimeout hc hw hp, ?_⟩⟩
  · have he : expireWait c cur s = settle c (expired c cur s) := by rw [expireWait_eq, hn]; rfl
    have hs := hexp.settled
    rw [← he] at hs
    refine ⟨hs.state, hs.message, hs.runs, hs.queue, hs.port, hs.place, fun hmu => hs.current.trans (by rw [hmu]; rfl),
      fun hmu => hs.current.trans (by rw [hmu]; rfl), fun p hpo => ?_, expireWait_same cur, hothers⟩
    obtain ⟨h1, h2⟩ := expired_reached hc hpo
    exact ⟨hreach _ p h1, fun hmu => hreach _ p (h2 hmu)⟩
  · have he : expireWait c cur s = settle c (judge c (expired c cur s)) := by rw [expireWait_eq, hb]; rfl
    have hdrop : (s.channel c).dropMessage = ({ s.channel c with message := none, wait := none } : Channel).boundary := by
      rw [Channel.dropMessage, hm]
    have hk : ((expired c cur s).channel c).cutoff = b := by rw [hexp.cutoff, hdrop, Channel.boundary, hb]; rfl
    have hpend : ((expired c cur s).channel c).pendingCutoff = none := by rw [hexp.pendingCutoff, hdrop]; rfl
    have hset := ((judge_sameSettings (expired c cur s) c).trans (settle_sameSettings _ c)).cutoff hpend
    have hhold : (expired c cur s).hold = s.hold := by
      unfold expired
      dsimp only
      split <;> simp
    have hquiet : (expired c cur s).cutoffDue c = false → (s.channel c).Expires cur
        ((expireWait c cur s).channel c) := fun hd => by
      rw [he, judge_of_not_due hd]
      exact hexp.settled
    have hmuted : cur.muted = true → (expired c cur s).cutoffDue c = false := fun hmu => by
      rw [State.cutoffDue, hexp.current, hmu]; rfl
    have hspared : cur.muted = false → b = .ignore ∨ cur.held s.hold.latches = false → (expired c cur s).cutoffDue c = false :=
      fun hmu hsp => cutoffDue_eq_false (cur := { cur with crossing := none }) (by rw [hexp.current, hmu]; rfl)
        (.inr (hsp.symm.imp (fun h => by rw [hhold]; exact h) fun h => hk.trans h))
    have heff : cur.muted = false → b ≠ .ignore → cur.held s.hold.latches = true →
        CutEffect s.store.requests { s.channel c with state := .stopped, cutoff := b } cur s.hold.latches c (expireWait c cur s) :=
      fun hmu hne hh => by
        have h := hexp.judged (expired_job hc) hk hmu hne (by rw [hhold]; exact hh) s.store.requests
        rwa [hhold, ← he] at h
    have hdropped : ((expireWait c cur s).channel c).message = none ∧ ((expireWait c cur s).channel c).runs = [] := by
      cases hd : (expired c cur s).cutoffDue c with
      | false => exact ⟨(hquiet hd).message, (hquiet hd).runs⟩
      | true =>
        have hmu : cur.muted = false := Bool.eq_false_iff.2 fun e => by rw [hmuted e] at hd; cases hd
        have hsp := mt (hspared hmu) (by rw [hd]; decide)
        obtain ⟨hne, hh⟩ := not_or.1 hsp
        exact (heff hmu hne (by simpa using hh)).stopped_holds rfl hne
    rw [← he] at hset
    refine ⟨hdropped.1, hdropped.2, hset.1.trans hk, hset.2, fun p hpo => hreach _ p (expired_reached hc hpo).1, fun hmu => ?_,
      fun hmu hsp => ?_, heff, expireWait_same cur, hothers⟩
    · have h := hquiet (hmuted hmu)
      exact ⟨h.state, h.current.trans (by rw [hmu]; rfl)⟩
    · have h := hquiet (hspared hmu hsp)
      exact ⟨h.state, h.current.trans (by rw [hmu]; rfl)⟩

end Sys2Proof.Machine
end

-- ==== Proofs: sample conversion and the assembled message ====
section
/-! Sample conversion (R101 to R104), the frames on hand (R81, R86, R88, R127), and the message that a channel assembles of them (R81, R97,
R105). -/

namespace Sys2Proof.Machine

/-! ### Sample conversion -/

/-- A value lies in the range of two's complement of `bits + 1` bits. -/
def InRange (bits : Nat) (v : Int) : Prop := -(2 ^ bits) ≤ v ∧ v ≤ 2 ^ bits - 1

/-- Polarity reversal stays in the range of its width (R102). -/
theorem invertSample_inRange {bits : Nat} {v : Int} (h : InRange (bits - 1) v) : InRange (bits - 1) (invertSample bits v) := by
  have hp : (0 : Int) < 2 ^ (bits - 1) := by positivity
  obtain ⟨h1, h2⟩ := h
  unfold invertSample
  split
  · exact ⟨by omega, by omega⟩
  · exact ⟨by omega, by omega⟩

/-- Widening multiplies the bounds of the range by the same power as the value (R103). -/
theorem inRange_mul {a e : Nat} {v : Int} (h : InRange a v) : InRange (a + e) (v * 2 ^ e) := by
  have hp : (0 : Int) < 2 ^ e := by positivity
  obtain ⟨h1, h2⟩ := h
  rw [InRange, pow_add]
  constructor <;> nlinarith

/-- Narrowing divides the bounds of the range by the same power as the value (R104). -/
theorem inRange_div {a e : Nat} {v : Int} (h : InRange (a + e) v) : InRange a (v / 2 ^ e) := by
  have hp : (0 : Int) < 2 ^ e := by positivity
  obtain ⟨h1, h2⟩ := h
  rw [pow_add] at h1 h2
  refine ⟨(Int.le_ediv_iff_mul_le hp).2 (by linarith), Int.le_sub_one_of_lt ((Int.ediv_lt_iff_lt_mul hp).2 (by linarith))⟩

/-- A change of width takes the range of the one width to that of the other (R103, R104). -/
theorem resizeSample_inRange {s w : Nat} {v : Int} (hs : 1 ≤ s) (hw : 1 ≤ w) (h : InRange (8 * s - 1) v) :
    InRange (8 * w - 1) (resizeSample s w v) := by
  unfold resizeSample
  split
  · have e : 8 * w - 1 = 8 * s - 1 + 8 * (w - s) := by omega
    rw [e]
    exact inRange_mul h
  · split
    · have e : 8 * s - 1 = 8 * w - 1 + 8 * (s - w) := by omega
      rw [e] at h
      exact inRange_div h
    · have e : w = s := by omega
      rwa [e]

theorem convertSample_inRange {s w : Nat} {v : Int} (hs : 1 ≤ s) (hw : 1 ≤ w) (h : InRange (8 * s - 1) v) (invert : Bool) :
    InRange (8 * w - 1) (convertSample s w invert v) := by
  unfold convertSample
  refine resizeSample_inRange hs hw ?_
  split
  · exact invertSample_inRange h
  · exact h

/-! ### The frames of a message -/

section Kinds
variable {ch : Channel} {cur : CurrentCue}

/-- The frames on hand from a frame on, at most `n`: those up to the first that is not on hand (R81). -/
theorem kindsFrom_eq_iff {frame n : Nat} {kinds : List FrameKind} : kindsFrom ch cur frame n = kinds ↔
    kinds.length ≤ n ∧ (∀ i k, kinds[i]? = some k → framePresence ch cur (frame + i) = .onHand k) ∧
      (kinds.length < n → ∀ k, framePresence ch cur (frame + kinds.length) ≠ .onHand k) := by
  induction n generalizing frame kinds with
  | zero =>
    rw [kindsFrom]
    constructor
    · rintro rfl
      exact ⟨le_rfl, fun i k h => by simp at h, fun h => absurd h (Nat.lt_irrefl 0)⟩
    · rintro ⟨h, -, -⟩
      exact (List.length_eq_zero_iff.1 (Nat.le_zero.1 h)).symm
  | succ n ih =>
    cases hp : framePresence ch cur frame with
    | onHand k =>
      simp only [kindsFrom, hp]
      cases kinds with
      | nil => simp [hp]
      | cons k' rest =>
        have hshift : ∀ i, frame + (i + 1) = frame + 1 + i := fun i => by omega
        rw [List.cons.injEq, ih]
        simp only [List.length_cons, Nat.add_le_add_iff_right, Nat.add_lt_add_iff_right]
        rw [hshift rest.length]
        constructor
        · rintro ⟨rfl, h1, h2, h3⟩
          refine ⟨h1, fun i x hx => ?_, h3⟩
          cases i with
          | zero => rw [Nat.add_zero, hp, Option.some.inj hx]
          | succ i => rw [hshift]; exact h2 i x hx
        · rintro ⟨h1, h2, h3⟩
          have h0 := h2 0 k' rfl
          rw [Nat.add_zero, hp] at h0
          exact ⟨Presence.onHand.inj h0, h1, fun i x hx => by rw [← hshift]; exact h2 (i + 1) x hx, h3⟩
    | awaited | absent =>
      simp only [kindsFrom, hp]
      cases kinds with
      | nil => simp [hp]
      | cons k' rest =>
        constructor
        · rintro ⟨⟩
        · rintro ⟨-, h, -⟩
          have h0 := h 0 k' rfl
          rw [Nat.add_zero, hp] at h0
          cases h0

/-- The message that a channel assembles: whole where it delivers, and in STOPPING also the last, short one (R81, R86). -/
theorem nextMessage_eq_some {kinds : List FrameKind} : nextMessage ch cur = some kinds ↔
    kinds ≠ [] ∧ kindsFrom ch cur cur.next (min 256 (cur.limit - cur.next)) = kinds ∧
      ((ch.state = .running ∨ ch.state = .halting) ∧ kinds.length = min 256 (cur.limit - cur.next) ∨
        ch.state = .stopping ∧ (kinds.length = min 256 (cur.limit - cur.next) ∨
          framePresence ch cur (cur.next + kinds.length) = .absent)) := by
  have e : nextMessage ch cur =
      let n := min 256 (cur.limit - cur.next)
      let kinds := kindsFrom ch cur cur.next n
      if kinds = [] then none
      else if (ch.delivering || ch.state = .stopping) && decide (kinds.length = n) then some kinds
      else if ch.state = .stopping && decide (framePresence ch cur (cur.next + kinds.length) = .absent) then some kinds
      else none := rfl
  rw [e]
  generalize min 256 (cur.limit - cur.next) = n
  dsimp only
  generalize kindsFrom ch cur cur.next n = l
  have hd := delivering_iff (ch := ch)
  by_cases hne : l = []
  · rw [if_pos hne]
    constructor
    · rintro ⟨⟩
    · rintro ⟨h, rfl, -⟩
      exact absurd hne h
  · rw [if_neg hne]
    simp only [Bool.and_eq_true, Bool.or_eq_true, decide_eq_true_eq, hd]
    split
    · next h =>
      rw [Option.some.injEq]
      refine ⟨?_, fun h => h.2.1⟩
      rintro rfl
      refine ⟨hne, rfl, ?_⟩
      obtain ⟨h | h, hl⟩ := h
      · exact .inl ⟨h, hl⟩
      · exact .inr ⟨h, .inl hl⟩
    · next hw =>
      split
      · next h =>
        rw [Option.some.injEq]
        refine ⟨?_, fun h => h.2.1⟩
        rintro rfl
        exact ⟨hne, rfl, .inr ⟨h.1, .inr h.2⟩⟩
      · next hs =>
        constructor
        · rintro ⟨⟩
        · rintro ⟨-, rfl, ⟨h, hl⟩ | ⟨h, hl | ha⟩⟩
          · exact absurd ⟨.inl h, hl⟩ hw
          · exact absurd ⟨.inr h, hl⟩ hw
          · exact absurd ⟨h, ha⟩ hs

end Kinds

/-! ### The samples of a message -/

section Samples
variable (ch : Channel) (cur : CurrentCue)

/-- The lanes of one frame of a message (R97). -/
def frameSamples (frame : Nat) (k : FrameKind) : List Int :=
  (ch.lanes.lanes.toList.take ch.lanes.count).map (laneSample ch cur frame k)

theorem frameSamples_length (h : ch.lanes.count ≤ 8) (frame : Nat) (k : FrameKind) :
    (frameSamples ch cur frame k).length = ch.lanes.count := by
  simp [frameSamples, h]

theorem frameSamples_getElem? (frame : Nat) (k : FrameKind) (j : Fin 8) (hj : j.val < ch.lanes.count) :
    (frameSamples ch cur frame k)[j.val]? = some (laneSample ch cur frame k (rowGet ch.lanes.lanes j)) := by
  rw [frameSamples, List.getElem?_map, List.getElem?_take_of_lt hj]
  simp [rowGet]

theorem messageSamples_cons (frame : Nat) (k : FrameKind) (rest : List FrameKind) : messageSamples ch cur frame (k :: rest) =
    frameSamples ch cur frame k ++ messageSamples ch cur (frame + 1) rest := rfl

theorem messageSamples_length (h : ch.lanes.count ≤ 8) (frame : Nat) (kinds : List FrameKind) :
    (messageSamples ch cur frame kinds).length = kinds.length * ch.lanes.count := by
  induction kinds generalizing frame with
  | nil => simp [messageSamples]
  | cons k rest ih =>
    rw [messageSamples_cons, List.length_append, frameSamples_length ch cur h, ih, List.length_cons, Nat.succ_mul, Nat.add_comm]

/-- The samples stand frame by frame, lane 0 first (R97). -/
theorem messageSamples_getElem? (h : ch.lanes.count ≤ 8) (frame : Nat) {kinds : List FrameKind} {i : Nat} {k : FrameKind}
    (hk : kinds[i]? = some k) (j : Fin 8) (hj : j.val < ch.lanes.count) :
    (messageSamples ch cur frame kinds)[i * ch.lanes.count + j.val]? =
      some (laneSample ch cur (frame + i) k (rowGet ch.lanes.lanes j)) := by
  induction kinds generalizing frame i with
  | nil => simp at hk
  | cons k' rest ih =>
    have hlen := frameSamples_length ch cur h frame k'
    rw [messageSamples_cons]
    cases i with
    | zero =>
      cases hk
      rw [Nat.zero_mul, Nat.zero_add, List.getElem?_append_left (by omega)]
      exact frameSamples_getElem? ch cur frame k j hj
    | succ i =>
      have e : (i + 1) * ch.lanes.count + j.val = ch.lanes.count + (i * ch.lanes.count + j.val) := by rw [Nat.succ_mul]; omega
      have hf : frame + (i + 1) = frame + 1 + i := by omega
      rw [e, List.getElem?_append_right (by omega), hlen, Nat.add_sub_cancel_left, hf]
      exact ih (frame + 1) hk

end Samples

/-! ### The presence of a frame -/

section Presence
variable {ch : Channel} {cur : CurrentCue} {frame : Nat}

theorem not_delivering_iff (ch : Channel) : ch.delivering = false ↔ ¬ (ch.state = .running ∨ ch.state = .halting) := by
  rw [← delivering_iff, Bool.not_eq_true]

theorem framePresence_of_muted (h : cur.muted = true) :
    framePresence ch cur frame = if ch.delivering then .onHand .cutoff else .absent := if_pos h

theorem framePresence_of_no_run (hm : cur.muted = false) (h : ch.runOf frame = none) : framePresence ch cur frame = .absent := by
  rw [framePresence, hm, if_neg Bool.false_ne_true, h]

/-- No frame past the end of the delivery run is on hand in STOPPING (R88). -/
theorem framePresence_past_run {run : Run} {rest : List Run} (hs : ch.state = .stopping) (hr : ch.runs = run :: rest)
    (hf : ¬ (run.start ≤ frame ∧ frame < run.stop)) : framePresence ch cur frame = .absent := by
  cases hm : cur.muted with
  | true => rw [framePresence_of_muted hm, not_delivering_of_stopping hs]; rfl
  | false =>
    refine framePresence_of_no_run hm ?_
    simp [Channel.runOf, Channel.deliveryRuns, hs, hr, hf]

theorem framePresence_of_gap {run : Run} (hm : cur.muted = false) (hr : ch.runOf frame = some run) (hg : run.source = .gap) :
    framePresence ch cur frame = if ch.delivering then .onHand .gap else .absent := by
  rw [framePresence, hm, if_neg Bool.false_ne_true, hr]
  dsimp only
  rw [hg]

/-- A frame of a pass is on hand by the two blocks that its bytes touch (R66, R81). -/
theorem framePresence_of_pass {run : Run} {i p : Nat} {extents : List Extent} (hm : cur.muted = false) (hr : ch.runOf frame = some run)
    (hp : run.source = .pass i p extents) : framePresence ch cur frame =
      blockPresence (ch.bufferFor run.start ((p + (frame - run.start)) * cur.frameBytes / 65536))
        (ch.bufferFor run.start (((p + (frame - run.start) + 1) * cur.frameBytes - 1) / 65536)) := by
  rw [framePresence, hm, if_neg Bool.false_ne_true, hr]
  dsimp only
  rw [hp]
  rfl

theorem blockPresence_filled (x y : BlockPlace) (d e : List Byte) :
    blockPresence (some (.filled x d)) (some (.filled y e)) = .onHand .audio := rfl

theorem blockPresence_concealed (x : BlockPlace) {a b : Option Buffer} (h : a = some (.concealed x) ∨ b = some (.concealed x)) :
    blockPresence a b = .onHand .concealed := by
  rcases h with rfl | rfl
  · rfl
  · cases a with
    | none => rfl
    | some y => cases y <;> rfl

/-- The input sample of a frame of a pass, from the bytes of the blocks that hold it (R62, R65). -/
theorem inputSample_of_pass {run : Run} {i p : Nat} {extents : List Extent} (hr : ch.runOf frame = some run)
    (hp : run.source = .pass i p extents) (source : Nat) : inputSample ch cur frame source =
      signedValue (8 * cur.sampleBytes) (leNat ((List.range cur.sampleBytes).map fun k =>
        ch.passByte run.start ((p + (frame - run.start)) * cur.frameBytes + source * cur.sampleBytes + k))) := by
  obtain ⟨start, stop, src, issued⟩ := run
  dsimp only at hp
  subst hp
  rw [inputSample, hr]

end Presence

/-- Settles O22: the ranges by the powers of two of the widths, the frames of a message by the frames on hand, its samples by induction on
its frames, and the presence of a frame by its run. -/
theorem sampleConversion : Obligations.SampleConversion := by
  refine ⟨fun s w v hs2 hs4 hw2 hw4 hl hu => ?_, fun ch cur kinds => ⟨?_, ?_⟩, fun ch cur frame => ?_, fun s c cur hc hm => ?_⟩
  · have hp : (0 : Int) < 2 ^ (8 * (s - w)) := by positivity
    refine ⟨fun invert => convertSample_inRange (by omega) (by omega) ⟨hl, hu⟩ invert, rfl, fun h => ?_, fun h => ?_, fun h => ?_,
      rfl⟩
    · exact if_pos h
    · have e : convertSample s w false v = v / 2 ^ (8 * (s - w)) := (if_neg (Nat.lt_asymm h)).trans (if_pos h)
      rw [e]
      exact ⟨Int.ediv_mul_le v hp.ne', Int.lt_ediv_add_one_mul_self v hp⟩
    · subst h
      exact (if_neg (Nat.lt_irrefl s)).trans (if_neg (Nat.lt_irrefl s))
  · rw [nextMessage_eq_some, kindsFrom_eq_iff]
    constructor
    · rintro ⟨hne, ⟨hle, hon, -⟩, hw⟩
      refine ⟨hne, hon, hw.imp_right (And.imp_right fun h => ?_)⟩
      exact (Nat.lt_or_eq_of_le hle).elim (fun hlt => h.imp_right fun ha => ⟨hlt, ha⟩) .inl
    · rintro ⟨hne, hon, hw⟩
      have hend : kinds.length = min 256 (cur.limit - cur.next) ∨ kinds.length < min 256 (cur.limit - cur.next) ∧
          framePresence ch cur (cur.next + kinds.length) = .absent := hw.elim (fun h => .inl h.2) fun h => h.2
      refine ⟨hne, ⟨hend.elim (fun h => h.le) fun h => h.1.le, hon, fun hlt k => ?_⟩,
        hw.imp_right (And.imp_right (Or.imp_right fun h => h.2))⟩
      rcases hend with h | ⟨-, h⟩
      · exact absurd h hlt.ne
      · rw [h]; simp
  · refine ⟨rfl, rfl, rfl, rfl, rfl, by simp [buildMessage], by simp [buildMessage], by simp [buildMessage], by simp [buildMessage],
      rfl, rfl,
      fun h8 => ⟨messageSamples_length ch cur h8 cur.next kinds, fun i k j hk hj => ?_⟩⟩
    have h := messageSamples_getElem? ch cur h8 cur.next hk j hj
    refine h.trans (congrArg some ?_)
    unfold laneSample
    simp only [Bool.and_eq_true, decide_eq_true_eq, and_assoc]
  · refine ⟨fun hm => ⟨fun hd => ?_, fun hd => ?_⟩, framePresence_of_no_run, fun run rest => framePresence_past_run,
      fun run hm hr => ⟨fun hg => ⟨fun hd => ?_, fun hd => ?_⟩, fun i p extents hp => ?_⟩⟩
    · rw [framePresence_of_muted hm, delivering_iff.2 hd]; rfl
    · rw [framePresence_of_muted hm, (not_delivering_iff ch).2 hd]; rfl
    · rw [framePresence_of_gap hm hr hg, delivering_iff.2 hd]; rfl
    · rw [framePresence_of_gap hm hr hg, (not_delivering_iff ch).2 hd]; rfl
    · dsimp only
      rw [framePresence_of_pass hm hr hp]
      refine ⟨?_, ?_, fun h1 h2 => by rw [h1, h2]; rfl, fun source => inputSample_of_pass hr hp source⟩
      · rintro ⟨x, d, y, e, h1, h2⟩
        rw [h1, h2, blockPresence_filled]
      · rintro ⟨x, h⟩
        exact blockPresence_concealed x h
  · refine ⟨fun h => ?_, fun kinds h => ?_⟩ <;> simp only [assemble, hc, hm, h]
    rfl

end Sys2Proof.Machine
end

-- ==== Proofs: the pieces of an audio message ====
section
/-! What an audio message is cut into (R97, R162, R170), and the notice queue of a port (R165). -/

namespace Sys2Proof.Machine

/-! ### The pieces of an audio message -/

section Pieces
variable {count size lanes : Nat}

/-- The pieces end no earlier than the message. -/
theorem le_pieces_mul (h : 1 ≤ size) : count ≤ (count + size - 1) / size * size := by
  have hlt : count + size - 1 < ((count + size - 1) / size + 1) * size :=
    (Nat.div_lt_iff_lt_mul (by omega)).1 (Nat.lt_succ_self _)
  rw [Nat.succ_mul] at hlt
  omega

/-- Every piece begins within the message. -/
theorem piece_mul_lt (h : 1 ≤ size) {i : Nat} (hi : i < (count + size - 1) / size) : i * size < count := by
  have hle : (i + 1) * size ≤ count + size - 1 := (Nat.le_div_iff_mul_le (by omega)).1 hi
  rw [Nat.succ_mul] at hle
  omega

/-- The samples of the pieces before piece `n`, one after another, are those of the message up to it (R162). -/
theorem flatMap_pieces (samples : List Int) (h : 1 ≤ size) {n : Nat} (hn : n ≤ (count + size - 1) / size) :
    ((List.range n).flatMap fun i => (samples.drop (i * size * lanes)).take (min size (count - i * size) * lanes)) =
      samples.take (min (n * size) count * lanes) := by
  induction n with
  | zero => simp
  | succ n ih =>
    have hlt := piece_mul_lt h hn
    have hstart : min (n * size) count = n * size := Nat.min_eq_left hlt.le
    have hend : min ((n + 1) * size) count * lanes = n * size * lanes + min size (count - n * size) * lanes := by
      rw [← Nat.add_mul, Nat.succ_mul]
      congr 1
      omega
    rw [List.range_succ, List.flatMap_append, ih (Nat.le_of_succ_le hn), hstart, List.flatMap_singleton, hend, List.take_add]

/-- A piece of a message with lanes and words in their ranges holds a frame at least (R162). -/
theorem one_le_pieceFrames {word : Nat} (hl : 1 ≤ lanes) (hl8 : lanes ≤ 8) (hw : 2 ≤ word) (hw4 : word ≤ 4) :
    1 ≤ pieceFrames lanes word := by
  have hle : lanes * word ≤ 8 * 4 := Nat.mul_le_mul hl8 hw4
  have hpos : 0 < lanes * word := Nat.mul_pos hl (by omega)
  exact (Nat.le_div_iff_mul_le hpos).2 (by omega)

theorem flags_bits : ∀ a b c d e : Bool,
    let flags : Nat := (if a then 1 else 0) + (if b then 2 else 0) + (if c then 4 else 0) + (if d then 8 else 0) + (if e then 16 else 0)
    flags < 32 ∧ flags.testBit 0 = a ∧ flags.testBit 1 = b ∧ flags.testBit 2 = c ∧ flags.testBit 3 = d ∧ flags.testBit 4 = e := by
  decide

theorem pieces_getElem? (m : Message) (c : ChannelId) {i : Nat} (h : i < m.pieceCount) : (m.pieces c)[i]? = some (m.piece c i) := by
  simp [Message.pieces, h]

end Pieces

/-! ### The notice queue of a port -/

section Notices
variable {s : State} {p : PortId}

theorem notify_of_room (n : Notice) (h : (s.port p).notices.length < 16) :
    notify p n s = s.setPort p { s.port p with notices := (s.port p).notices ++ [n] } := if_pos h

theorem notify_of_full (n : Notice) (h : 16 ≤ (s.port p).notices.length) :
    notify p n s = raiseCause .noticeOverflow (s.setPort p { s.port p with noticesLost := true }) := if_neg (Nat.not_lt.2 h)

end Notices

end Sys2Proof.Machine
end

-- ==== Proofs: the outgoing link ====
section
/-! OUTGOING_ARBITRATION and AUDIO_PIECE (R82 to R88, R93, R99, R162): what a port sends, and what becomes of the channel whose audio
message goes out. -/

namespace Sys2Proof.Machine

/-! ### The outgoing link under a channel's operations -/

/-- A port of which only the notices may have changed. -/
def Port.Noticed (q q' : Port) : Prop := q' = { q with notices := q'.notices, noticesLost := q'.noticesLost }

namespace Port.Noticed
variable {q q' : Port} (h : q.Noticed q')
include h
theorem creditFor (c : ChannelId) : q'.creditFor c = q.creditFor c := by rw [h]; rfl
theorem audioPointer : q'.audioPointer = q.audioPointer := by rw [h]
theorem sent : q'.sent = q.sent := by rw [h]
theorem sending : q'.sending = q.sending := by rw [h]
end Port.Noticed

/-- Only the notices of ports may have changed. -/
def OnlyNotices (s t : State) : Prop := ∀ q, (s.port q).Noticed (t.port q)

section OnlyNotices
variable {s t u : State}

theorem OnlyNotices.refl (s : State) : OnlyNotices s s := fun _ => rfl

theorem OnlyNotices.trans (h : OnlyNotices s t) (g : OnlyNotices t u) : OnlyNotices s u := fun q => by
  have e := g q
  rw [Port.Noticed] at *
  rw [e, h q]

theorem OnlyNotices.of_eq (h : t.ports = s.ports) : OnlyNotices s t := fun q => by
  rw [show t.port q = s.port q by rw [State.port, h, State.port]]
  rfl

variable (s) (c : ChannelId)

theorem notify_onlyNotices (p : PortId) (n : Notice) : OnlyNotices s (notify p n s) := fun q => by
  unfold notify
  dsimp only
  split
  · rw [port_setPort]
    split
    · next e => rw [e]; rfl
    · rfl
  · rw [port_raiseCause, port_setPort]
    split
    · next e => rw [e]; rfl
    · rfl

theorem notifyBound_onlyNotices (n : Notice) : OnlyNotices s (notifyBound c n s) := by
  unfold notifyBound
  split
  · exact notify_onlyNotices s _ n
  · exact .refl s

theorem endCue_onlyNotices (status : CueStatus) : OnlyNotices s (endCue c status s) := by
  cases h : (s.channel c).current with
  | none => rw [endCue_of_none s c status h]; exact .refl s
  | some cur => exact (notifyBound_onlyNotices s c _).trans (.of_eq (endCue_ports s c status h))

theorem goOn_onlyNotices : OnlyNotices s (goOn c s) := by
  unfold goOn
  split
  · split
    · exact .of_eq rfl
    · exact .refl s
  · exact OnlyNotices.trans (t := enterState c .halted s) (.of_eq rfl) (notifyBound_onlyNotices _ c _)
  · exact OnlyNotices.trans (t := enterState c .stopped s) (.of_eq rfl) (notifyBound_onlyNotices _ c _)
  · exact .refl s

theorem finishCue_onlyNotices : OnlyNotices s (finishCue c s) := by
  unfold finishCue
  dsimp only
  split
  · split
    · exact .refl s
    · split
      · exact (endCue_onlyNotices s c _).trans (goOn_onlyNotices _ c)
      · split
        · exact endCue_onlyNotices s c _
        · exact .refl s
  · exact .refl s

theorem stoppingEnd_onlyNotices : OnlyNotices s (stoppingEnd c s) := by
  unfold stoppingEnd
  dsimp only
  split
  · split
    · exact goOn_onlyNotices s c
    · split
      · exact (endCue_onlyNotices s c _).trans (goOn_onlyNotices _ c)
      · exact OnlyNotices.trans (t := keepRemainder c s) (.of_eq (keepRemainder_ports s c)) (notifyBound_onlyNotices _ c _)
  · exact .refl s

theorem settle_onlyNotices : OnlyNotices s (settle c s) := by
  have h := fun u : State => (OnlyNotices.of_eq (releaseBuffers_ports u c)).trans (finishCue_onlyNotices (releaseBuffers c u) c)
  have g := fun u : State => (OnlyNotices.of_eq (issueAll_ports u c)).trans (OnlyNotices.of_eq (assemble_ports (issueAll c u) c))
  rw [settle, settleChannel]
  exact (h s).trans <| (g _).trans <| (stoppingEnd_onlyNotices _ c).trans <| (OnlyNotices.of_eq (presentJob_ports _ c)).trans <|
    .of_eq (grantAll_ports _)

theorem judge_onlyNotices : OnlyNotices s (judge c s) := by
  unfold judge
  split
  · unfold cutoffEvent
    dsimp only
    split
    · exact .refl s
    · unfold stopCue
      split
      · exact .refl s
      · exact (endCue_onlyNotices s c _).trans <| OnlyNotices.trans (t := enterState c .cut (endCue c .cut s)) (.of_eq rfl) <|
          notifyBound_onlyNotices _ c _
    · split
      · exact endCue_onlyNotices s c _
      · exact (endCue_onlyNotices s c _).trans (goOn_onlyNotices _ c)
    · split
      · exact endCue_onlyNotices s c _
      · exact .of_eq (muteCue_ports s c)
  · exact .refl s

end OnlyNotices

/-! ### The choice of the outgoing arbiter -/

section Choice
variable {s : State} {p : PortId}

/-- The first of the places of a cycle at which a function finds something. -/
theorem findSome?_finRange {α : Type} {n : Nat} {f : Fin n → Option α} {k : Fin n} {x : α} (hk : f k = some x)
    (hj : ∀ j, j < k → f j = none) : (List.finRange n).findSome? f = some x := by
  refine List.findSome?_eq_some_iff.2 ⟨(List.finRange n).take k.val, k, (List.finRange n).drop (k.val + 1), ?_, hk, fun j hm => hj j ?_⟩
  · have hlt : k.val < (List.finRange n).length := by simp
    have e : (List.finRange n).drop k.val = k :: (List.finRange n).drop (k.val + 1) := by
      rw [List.drop_eq_getElem_cons hlt, List.getElem_finRange]
      rfl
    rw [← e, List.take_append_drop]
  · obtain ⟨i, hi, rfl⟩ := List.mem_take_iff_getElem.1 hm
    have hlt : i < k.val := lt_of_lt_of_le hi (Nat.min_le_left ..)
    simpa [Fin.lt_def] using hlt

/-- The arbiter takes the message of the first channel after the audio pointer whose message can go out (R162). -/
theorem audioChoice_of_first (k : Fin 8) {m : Message}
    (hj : ∀ j : Fin 8, j < k → ¬ ((s.channel ((s.port p).audioPointer + 1 + j)).port = some p ∧
      1 ≤ (s.port p).creditFor ((s.port p).audioPointer + 1 + j) ∧
      (s.channel ((s.port p).audioPointer + 1 + j)).message.isSome = true))
    (hp : (s.channel ((s.port p).audioPointer + 1 + k)).port = some p)
    (hc : 1 ≤ (s.port p).creditFor ((s.port p).audioPointer + 1 + k))
    (hm : (s.channel ((s.port p).audioPointer + 1 + k)).message = some m) :
    audioChoice p s = some ((s.port p).audioPointer + 1 + k, m) := by
  rw [audioChoice, channelCycle, List.findSome?_map]
  refine findSome?_finRange (k := k) ?_ fun j hlt => ?_
  · simp only [Function.comp_apply, hp, hc, hm, and_self, if_true, Option.map_some]
  · have h := hj j hlt
    simp only [Function.comp_apply]
    split
    · next he =>
      rw [Option.map_eq_none_iff]
      by_contra hne
      exact h ⟨he.1, he.2, Option.isSome_iff_ne_none.2 hne⟩
    · rfl

/-! ### The order of the outgoing side -/

theorem exec_outgoing : exec (.outgoingArbitration p) s = .next (arbitrate p s) := rfl

theorem arbitrate_of_reply {r : Reply} {rest : List Reply} (hs : (s.port p).sending = []) (hr : (s.port p).replies = r :: rest) :
    arbitrate p s = s.setPort p { s.port p with replies := rest, sent := (s.port p).sent ++ [r.message] } := by
  unfold arbitrate
  dsimp only
  rw [if_neg (not_not.2 hs), hr]
  rfl

theorem arbitrate_of_notice {n : Notice} {rest : List Notice} (hs : (s.port p).sending = []) (hr : (s.port p).replies = [])
    (hn : (s.port p).notices = n :: rest) : arbitrate p s = s.setPort p
      { s.port p with notices := rest, noticesLost := false, sent := (s.port p).sent ++ [n.message (s.port p).noticesLost] } := by
  unfold arbitrate
  dsimp only
  rw [if_neg (not_not.2 hs), hr, hn]
  rfl

theorem arbitrate_of_audio {c : ChannelId} {m : Message} (hs : (s.port p).sending = []) (hr : (s.port p).replies = [])
    (hn : (s.port p).notices = []) (h : audioChoice p s = some (c, m)) : arbitrate p s = channelSends p c m s := by
  simp only [arbitrate, hs, hr, hn, h, ne_eq, not_true_eq_false, if_false]

end Choice

/-! ### The channel whose message goes out -/

section Sending
variable {s : State} {p : PortId} {c : ChannelId} {m : Message} {cur : CurrentCue}

/-- The part with a channel's message taken by the port, before the channel goes on (R82, R162). -/
def messageTaken (p : PortId) (c : ChannelId) (m : Message) (s : State) : State :=
  (takeAudio p c m s).setChannel c ((s.channel c).messageSent m)

theorem channelSends_eq : channelSends p c m s = settle c (if (s.channel c).pendingCutoff.isSome
    then judge c (finishCue c (messageTaken p c m s)) else finishCue c (messageTaken p c m s)) := rfl

theorem messageTaken_channel : (messageTaken p c m s).channel c = (s.channel c).messageSent m := by
  rw [messageTaken, channel_setChannel, if_pos rfl]

theorem messageTaken_channel_ne {d : ChannelId} (h : d ≠ c) : (messageTaken p c m s).channel d = s.channel d := by
  rw [messageTaken, channel_setChannel, if_neg h]
  rfl

/-- What a port has done once it has taken a message (R162). -/
theorem messageTaken_port : (messageTaken p c m s).port p =
    { ((s.port p).withCredit c ((s.port p).creditFor c - 1)) with
      audioPointer := c, sent := (s.port p).sent ++ (m.pieces c).take 1, sending := (m.pieces c).drop 1 } := by
  rw [messageTaken, setChannel_port, takeAudio, port_setPort, if_pos rfl]

/-- Whatever the channel then does changes no more of the ports than their notices. -/
theorem channelSends_onlyNotices : OnlyNotices (messageTaken p c m s) (channelSends p c m s) := by
  rw [channelSends_eq]
  split
  · exact (finishCue_onlyNotices _ c).trans ((judge_onlyNotices _ c).trans (settle_onlyNotices _ c))
  · exact (finishCue_onlyNotices _ c).trans (settle_onlyNotices _ c)

theorem channelSends_link : ((channelSends p c m s).port p).creditFor c = (s.port p).creditFor c - 1 ∧
    ((channelSends p c m s).port p).audioPointer = c ∧
    ((channelSends p c m s).port p).sent = (s.port p).sent ++ (m.pieces c).take 1 ∧
    ((channelSends p c m s).port p).sending = (m.pieces c).drop 1 := by
  have h := channelSends_onlyNotices (s := s) (p := p) (c := c) (m := m) p
  have hport := messageTaken_port (s := s) (p := p) (c := c) (m := m)
  refine ⟨(h.creditFor c).trans ?_, h.audioPointer.trans ?_, h.sent.trans ?_, h.sending.trans ?_⟩ <;> rw [hport]
  exact (creditFor_withCredit ..).trans (if_pos rfl)

theorem channelSends_same : SameElsewhere s (channelSends p c m s) := by
  rw [channelSends_eq]
  refine ⟨?_, ?_, ?_, ?_, ?_, ?_⟩ <;> split <;> simp [messageTaken, takeAudio]

theorem channelSends_channel_ne {d : ChannelId} (h : d ≠ c) : (channelSends p c m s).channel d = s.channel d := by
  rw [channelSends_eq, settle_channel_ne _ c h]
  split
  · rw [(judge_local _ c).channel d h, (finishCue_local _ c).channel d h, messageTaken_channel_ne h]
  · rw [(finishCue_local _ c).channel d h, messageTaken_channel_ne h]

/-- The settings that waited for the message boundary have taken effect, and stay (R93, R99). -/
theorem channelSends_settings : ((channelSends p c m s).channel c).lanes = (s.channel c).pendingLanes.getD (s.channel c).lanes ∧
    ((channelSends p c m s).channel c).pendingLanes = none ∧
    ((channelSends p c m s).channel c).cutoff = (s.channel c).pendingCutoff.getD (s.channel c).cutoff ∧
    ((channelSends p c m s).channel c).pendingCutoff = none := by
  have h : ((messageTaken p c m s).channel c).SameSettings ((channelSends p c m s).channel c) := by
    rw [channelSends_eq]
    split
    · exact (finishCue_sameSettings _ c).trans ((judge_sameSettings _ c).trans (settle_sameSettings _ c))
    · exact (finishCue_sameSettings _ c).trans (settle_sameSettings _ c)
  rw [messageTaken_channel] at h
  obtain ⟨hl, hpl⟩ := h.lanes rfl
  obtain ⟨hk, hpk⟩ := h.cutoff rfl
  exact ⟨hl, hpl, hk, hpk⟩

/-- The behaviour in effect after the message boundary leaves the cue be (R126): none waited, or no cutoff event is found under it. -/
def Spared (s : State) (c : ChannelId) (cur : CurrentCue) : Prop := (s.channel c).pendingCutoff = none ∨ cur.muted = true ∨
  (s.channel c).pendingCutoff.getD (s.channel c).cutoff = .ignore ∨ cur.held s.hold.latches = false

section Cue
variable (hc : (s.channel c).current = some cur)
include hc

theorem messageTaken_current : ((messageTaken p c m s).channel c).current = some (cur.sentMessage m) := by
  rw [messageTaken_channel, messageSent_current, hc]
  rfl

/-- The judgement of a spared cue after its message does nothing (R126). -/
theorem judge_messageTaken (h : Spared s c cur) :
    (if (s.channel c).pendingCutoff.isSome then judge c (messageTaken p c m s) else messageTaken p c m s) = messageTaken p c m s := by
  split
  · next hs =>
    refine judge_of_not_due (cutoffDue_eq_false (messageTaken_current hc) ?_)
    rw [messageTaken_channel]
    rcases h with h | h | h | h
    · rw [h] at hs; cases hs
    · exact .inl h
    · exact .inr (.inr h)
    · exact .inr (.inl h)
  · rfl

/-- A cue with frames still due goes on unended (R83). -/
theorem channelSends_of_due (hdue : cur.next + m.count < cur.limit) : channelSends p c m s =
    settle c (if (s.channel c).pendingCutoff.isSome then judge c (messageTaken p c m s) else messageTaken p c m s) := by
  have hf : finishCue c (messageTaken p c m s) = messageTaken p c m s := finishCue_of_due _ c (.inr fun k hk => by
    rw [messageTaken_current hc] at hk
    cases hk
    exact hdue)
  rw [channelSends_eq, hf]

/-- A playing cue with nothing more due ends, and the channel goes on (R83, R84). -/
theorem channelSends_of_complete (hd : (s.channel c).delivering = true) (hend : cur.next + m.count = cur.limit) :
    channelSends p c m s = settle c (goOn c (endCue c cur.endStatus (messageTaken p c m s))) := by
  have hch := messageTaken_channel (s := s) (p := p) (c := c) (m := m)
  have hf : finishCue c (messageTaken p c m s) = goOn c (endCue c cur.endStatus (messageTaken p c m s)) := by
    have hmsg : ((messageTaken p c m s).channel c).message = none := by rw [hch]; rfl
    have hdel : ((messageTaken p c m s).channel c).delivering = true := by rw [hch]; exact hd
    have hnot : ¬ (cur.sentMessage m).next < (cur.sentMessage m).limit := Nat.not_lt.2 hend.ge
    simp only [finishCue, messageTaken_current hc, hmsg, hdel, hnot, if_false, if_true]
    rfl
  have hnone : ((goOn c (endCue c cur.endStatus (messageTaken p c m s))).channel c).current = none := by
    rw [goOn_channel, if_pos rfl]
    exact endCue_current _ c _
  rw [channelSends_eq, hf]
  split
  · rw [judge_of_not_due (by rw [State.cutoffDue, hnone])]
  · rfl

end Cue

/-- What a completed cue leaves of its channel (R83, R84): `x` is the channel before. -/
structure CueDone (x : Channel) (cur : CurrentCue) (status : CueStatus) (c : ChannelId) (t : State) : Prop where
  current : (t.channel c).current = none
  state : (t.channel c).state = x.nextState
  reached : ∀ q, x.port = some q → Reached (.cueEnded cur.tag status cur.delivered cur.gap cur.concealed) q t
  halted : x.state = .halting → ∀ q, x.port = some q → Reached .channelHalted q t

/-- A cue that ends on a playing channel, once the channel has gone on and settled (R83, R84). -/
theorem cueDone_settle {status : CueStatus} (hc : (s.channel c).current = some cur) (hd : (s.channel c).delivering = true) :
    CueDone (s.channel c) cur status c (settle c (goOn c (endCue c status s))) := by
  have hend := endCue_channel s c c status (by rw [hc]; rfl)
  rw [if_pos rfl] at hend
  have hstate : ((endCue c status s).channel c).state = (s.channel c).state := by rw [hend]; simp
  have hqueue : ((endCue c status s).channel c).queue = (s.channel c).queue := endCue_queue s c status
  have hport : ((endCue c status s).channel c).port = (s.channel c).port := (endCue_sameBinding s c status).1
  have hgo : ((goOn c (endCue c status s)).channel c).state = (s.channel c).nextState := by
    rw [goOn_channel, if_pos rfl, Channel.wentOn, Channel.nextState, hstate, hqueue]
    rfl
  have hnone : ((goOn c (endCue c status s)).channel c).current = none := by
    rw [goOn_channel, if_pos rfl]
    exact endCue_current s c status
  have hne : (s.channel c).nextState ≠ .stopping := by
    rcases delivering_iff.1 hd with e | e <;> simp only [Channel.nextState, e]
    · split <;> decide
    · decide
  have hi := settle_idles (goOn c (endCue c status s)) c hnone
  have hset := (settle_alerted (goOn c (endCue c status s)) c).notified
  refine ⟨hi.current, (hi.state (by rw [hgo]; exact hne)).trans hgo, fun q hq => ?_, fun hh q hq => ?_⟩
  · exact hset.reached ((goOn_local _ c).alerted.notified.reached (endCue_reached hc hq))
  · exact hset.reached (goOn_reached_halted (hstate.trans hh) (hport.trans hq))

/-- A channel in STOPPING with a read in flight and frames of its cue still due stays so (R86). -/
theorem settle_tended_of_inFlight (hs : (s.channel c).state = .stopping)
    (hdue : ∀ k, (s.channel c).current = some k → k.next < k.limit) (hb : ∃ b, ((s.channel c).buffer b).isInFlight = true) :
    (s.channel c).Tended ((settle c s).channel c) := by
  obtain ⟨b, hb⟩ := hb
  have hr := releaseBuffers_tended s c
  have ha := hr.trans (assemble_tended (releaseBuffers c s) c)
  have hkeep : ((releaseBuffers c s).channel c).buffer b = (s.channel c).buffer b := by
    unfold releaseBuffers
    dsimp only
    split
    · rfl
    · rw [channel_setChannel, if_pos rfl, Channel.buffer, rowGet_map]
      split
      · next e => rw [Channel.buffer, e] at hb; cases hb
      · next e => rw [Channel.buffer, e] at hb; cases hb
      · rfl
  have hany : ((assemble c (releaseBuffers c s)).channel c).buffers.toList.any Buffer.isInFlight = true := by
    rw [assemble_keeps.2]
    exact List.any_eq_true.2 ⟨_, (mem_toList_iff _ _).2 ⟨b, rfl⟩, by rw [← Channel.buffer, hkeep]; exact hb⟩
  have e : settleChannel c s = presentJob c (assemble c (releaseBuffers c s)) := by
    rw [settleChannel, finishCue_of_due _ c (.inr fun k hk => hdue k (hr.current.symm.trans hk)),
      issueAll_of_not_delivering (not_delivering_of_stopping (hr.state.trans hs)), stoppingEnd_of_awaiting _ c (.inr (.inr (.inr hany)))]
  rw [settle_channel, e]
  exact ha.trans (presentJob_tended _ c)

/-- A channel in STOPPING whose delivery run does not hold the next frame, with nothing in flight or awaited, is at its end once its message
has gone out (R86, R88). -/
theorem messageTaken_stoppedWith (hc : (s.channel c).current = some cur) (hs : (s.channel c).state = .stopping)
    (hdue : cur.next + m.count < cur.limit) (hb : ∀ b, ((s.channel c).buffer b).isInFlight = false)
    (hj : (s.channel c).job.any ChannelJob.isResolution = false)
    (hrun : ∀ r, (s.channel c).runs.head? = some r → r.stop ≤ cur.next + m.count ∨ cur.next + m.count < r.start) :
    StoppedWith ((messageTaken p c m s).channel c) (cur.sentMessage m) c (settle c (messageTaken p c m s)) := by
  have hch := messageTaken_channel (s := s) (p := p) (c := c) (m := m)
  refine settle_atEnd_with_cue ⟨?_, ?_, ?_, ?_⟩ (messageTaken_current hc) hdue (.inr (.inl ?_)) <;> rw [hch]
  · exact hs
  · rfl
  · cases e : (s.channel c).job with
    | none => exact .inl e
    | some j =>
      rw [e] at hj
      cases j with
      | disengage => exact .inr e
      | start | segment => cases hj
  · exact hb
  · have hruns : ((s.channel c).messageSent m).runs = (s.channel c).runs := if_pos hs
    rw [Channel.runOf, Channel.deliveryRuns, messageSent_state, if_pos hs, hruns]
    cases hl : (s.channel c).runs with
    | nil => rfl
    | cons r rest =>
      have hout := hrun r (by rw [hl]; rfl)
      have hno : ¬ (r.start ≤ (cur.sentMessage m).next ∧ (cur.sentMessage m).next < r.stop) := fun ⟨h1, h2⟩ =>
        hout.elim (fun h => absurd h2 (Nat.not_lt.2 h)) fun h => absurd h1 (Nat.not_le.2 h)
      simp [hno]

/-- A channel that meets a cutoff event at the boundary of its message (R93, R126 to R129). -/
theorem messageTaken_cut (hc : (s.channel c).current = some cur) (hdue : cur.next + m.count < cur.limit)
    (hp : (s.channel c).pendingCutoff ≠ none) (hm : cur.muted = false)
    (hk : (s.channel c).pendingCutoff.getD (s.channel c).cutoff ≠ .ignore) (hh : cur.held s.hold.latches = true) :
    CutEffect s.store.requests { s.channel c with cutoff := (s.channel c).pendingCutoff.getD (s.channel c).cutoff } (cur.sentMessage m)
      s.hold.latches c (channelSends p c m s) := by
  have hch := messageTaken_channel (s := s) (p := p) (c := c) (m := m)
  have heff := judge_settle_effect (u := messageTaken p c m s) (messageTaken_current hc) hm hh (by rw [hch]; exact hk)
  rw [hch] at heff
  rw [channelSends_of_due hc hdue, if_pos (Option.isSome_iff_ne_none.2 hp)]
  exact heff.congr rfl rfl rfl rfl id fun _ => Iff.rfl

/-- A spared cue with frames still due settles as its message leaves it. -/
theorem channelSends_of_spared (hc : (s.channel c).current = some cur) (hdue : cur.next + m.count < cur.limit) (h : Spared s c cur) :
    channelSends p c m s = settle c (messageTaken p c m s) := by
  rw [channelSends_of_due hc hdue, judge_messageTaken hc h]

/-- A spared cue goes on, on a channel that delivers (R82). -/
theorem channelSends_goes_on (hc : (s.channel c).current = some cur) (hdue : cur.next + m.count < cur.limit) (h : Spared s c cur)
    (hd : (s.channel c).delivering = true) : ((channelSends p c m s).channel c).current = some (cur.sentMessage m) ∧
      ((channelSends p c m s).channel c).state = (s.channel c).state := by
  have hch := messageTaken_channel (s := s) (p := p) (c := c) (m := m)
  have hcur := messageTaken_current (p := p) (m := m) hc
  have hne : ((messageTaken p c m s).channel c).state ≠ .stopping := by
    rw [hch]
    rcases delivering_iff.1 hd with e | e <;> simp [e]
  have ht := settle_tended (messageTaken p c m s) c hne fun k hk => by
    rw [hcur] at hk
    cases hk
    exact hdue
  rw [channelSends_of_spared hc hdue h]
  exact ⟨ht.current.trans hcur, by rw [ht.state, hch]; rfl⟩

/-- A complete cue ends, on a channel that delivers (R83, R84). -/
theorem channelSends_ends (hc : (s.channel c).current = some cur) (hend : cur.next + m.count = cur.limit)
    (hd : (s.channel c).delivering = true) :
    CueDone ((messageTaken p c m s).channel c) (cur.sentMessage m) cur.endStatus c (channelSends p c m s) := by
  rw [channelSends_of_complete hc hd hend]
  exact cueDone_settle (messageTaken_current hc) (by rw [messageTaken_channel]; exact hd)

/-- A spared cue in STOPPING waits for the reads in flight (R86). -/
theorem channelSends_waits (hc : (s.channel c).current = some cur) (hdue : cur.next + m.count < cur.limit) (h : Spared s c cur)
    (hs : (s.channel c).state = .stopping) (hb : ∃ b, ((s.channel c).buffer b).isInFlight = true) :
    ((channelSends p c m s).channel c).state = .stopping ∧
      ((channelSends p c m s).channel c).current = some (cur.sentMessage m) := by
  have hch := messageTaken_channel (s := s) (p := p) (c := c) (m := m)
  have hcur := messageTaken_current (p := p) (m := m) hc
  have ht := settle_tended_of_inFlight (s := messageTaken p c m s) (c := c) (by rw [hch]; exact hs) (fun k hk => by
    rw [hcur] at hk
    cases hk
    exact hdue) (by rw [hch]; exact hb)
  rw [channelSends_of_spared hc hdue h]
  exact ⟨by rw [ht.state, hch]; exact hs, ht.current.trans hcur⟩

end Sending

/-- Settles O58: the outgoing arbiter by its order of replies, notices and audio; the channel whose message has gone out by whether its cue
is complete, spared by the behaviour that takes effect, or cut by it; and the pieces by their samples. -/
theorem outgoingLink : Obligations.OutgoingLink := by
  refine ⟨fun s p => ⟨fun hs => ?_, fun hs => ⟨fun r rest hr => ?_, fun n rest hr hn => ?_, fun hr hn => ⟨fun hno => ?_,
    fun k hfirst m cur hp hcr hm hc => ?_⟩⟩⟩, fun s p => ⟨fun hs => ?_, fun piece rest hs => ?_⟩,
    fun s p n => ⟨fun h => notify_of_room n h, fun h => ?_⟩, fun m c hl hl8 hw hw4 hlen => ?_⟩
  · exact congrArg Host.Outcome.next (arbitrate_of_not_due (.inl hs))
  · rw [exec_outgoing, arbitrate_of_reply hs hr]
  · rw [exec_outgoing, arbitrate_of_notice hs hr hn]
  · exact congrArg Host.Outcome.next (arbitrate_of_not_due (.inr ⟨hr, hn, hno⟩))
  · have he : exec (.outgoingArbitration p) s = .next (channelSends p ((s.port p).audioPointer + 1 + k) m s) :=
      congrArg Host.Outcome.next (arbitrate_of_audio hs hr hn (audioChoice_of_first k hfirst hp hcr hm))
    clear hfirst hs hr hn
    dsimp only at hp hcr hm hc ⊢
    generalize (s.port p).audioPointer + 1 + k = c at *
    obtain ⟨hcredit, hpointer, hsent, hsending⟩ := channelSends_link (s := s) (p := p) (c := c) (m := m)
    obtain ⟨hl, hpl, hk, hpk⟩ := channelSends_settings (s := s) (p := p) (c := c) (m := m)
    have hch := messageTaken_channel (s := s) (p := p) (c := c) (m := m)
    have hport : ((messageTaken p c m s).channel c).port = some p := by rw [hch]; exact hp
    refine ⟨_, he, hcredit, hpointer, hsent, hsending, channelSends_same, fun d hd => channelSends_channel_ne hd, hl, hpl, hk, hpk,
      fun hd => ⟨fun hdue hsp => channelSends_goes_on hc hdue hsp hd, fun hend => ?_⟩,
      fun hs hdue hsp => ⟨fun hb => channelSends_waits hc hdue hsp hs hb, fun hb hj hmu hrun => ?_⟩, fun hns hdue => ?_⟩
    · have hdone := channelSends_ends (p := p) hc hend hd
      refine ⟨hdone.current, hdone.reached p hport, fun hr => ?_, fun hh => ⟨?_, hdone.halted (by rw [hch]; exact hh) p hport⟩⟩
      · rw [hdone.state, hch, Channel.nextState, messageSent_state, hr, messageSent_queue]
      · rw [hdone.state, hch, Channel.nextState, messageSent_state, hh]
    · have hw := messageTaken_stoppedWith (p := p) hc hs hdue hb hj hrun
      obtain ⟨hcur, hreach⟩ := hw.remainder hmu
      rw [channelSends_of_spared hc hdue hsp]
      exact ⟨hw.state, hcur, hw.message, hw.runs, hw.buffers, hreach p hport⟩
    · obtain ⟨hn, hmu, hig, hheld⟩ : (s.channel c).pendingCutoff ≠ none ∧ ¬ cur.muted = true ∧
          (s.channel c).pendingCutoff.getD (s.channel c).cutoff ≠ .ignore ∧ ¬ cur.held s.hold.latches = false := by
        simpa only [not_or] using hns
      exact messageTaken_cut hc hdue hn (by simpa using hmu) hig (by simpa using hheld)
  · exact congrArg Host.Outcome.next (by simp only [sendPiece, hs])
  · exact congrArg Host.Outcome.next (by simp only [sendPiece, hs, Port.transmit])
  · rw [notify_of_full n h]
    refine ⟨by rw [port_raiseCause, port_setPort, if_pos rfl], fun q hq => by rw [port_raiseCause, port_setPort, if_neg hq],
      fun hw => (hasCause_raiseCause _ _ _).2 (.inr ⟨hw, rfl⟩), raiseCause_channels ..⟩
  · have hsize : 1 ≤ 1024 / (m.lanes * m.word) := one_le_pieceFrames hl hl8 hw hw4
    refine ⟨by rw [Message.pieces, List.length_map, List.length_range]; rfl, ?_, fun last => flags_bits _ _ _ _ _,
      fun i hi => ⟨?_, pieces_getElem? m c hi⟩⟩
    · have h := flatMap_pieces (count := m.count) (lanes := m.lanes) m.samples hsize le_rfl
      rw [Nat.min_eq_right (le_pieces_mul hsize), ← hlen, List.take_length] at h
      exact h
    · exact le_min hsize (Nat.sub_pos_of_lt (piece_mul_lt hsize hi))

end Sys2Proof.Machine
end

-- ==== Proofs: the answers of the store reader ====
section
/-! What the store reader makes of the answers to its reads (R106, R111 to R117): BLOCK_DATA, BLOCK_FAIL and READ_TIMEOUT; and what the
operations of a channel leave as it was of the read slots and of the attention unit. -/

namespace Sys2Proof.Machine

/-! ### What stays on the store link and at the attention unit -/

/-- The read slots and the messages sent on the store link are as they were, and all of the attention unit but its cause flags and the
line that follows them. -/
structure Steady (s t : State) : Prop where
  slots : t.store.slots = s.store.slots
  sent : t.store.sent = s.store.sent
  unit : t.attention = { s.attention with flags := t.attention.flags, attention := t.attention.attention }

section Steady
variable {s t u : State}

theorem Steady.refl (s : State) : Steady s s := ⟨rfl, rfl, rfl⟩

theorem Steady.trans (h : Steady s t) (g : Steady t u) : Steady s u := by
  refine ⟨g.slots.trans h.slots, g.sent.trans h.sent, ?_⟩
  have e := g.unit
  rw [h.unit] at e
  exact e

/-- An operation on other blocks. -/
theorem Steady.of_eq (hs : t.store = s.store := by simp) (ha : t.attention = s.attention := by simp) : Steady s t :=
  ⟨by rw [hs], by rw [hs], by rw [ha]⟩

theorem Steady.readSlot (h : Steady s t) (g : ReadTag) : t.readSlot g = s.readSlot g := by rw [State.readSlot, h.slots, State.readSlot]
theorem Steady.stalled (h : Steady s t) : t.attention.stalled = s.attention.stalled := by rw [h.unit]
theorem Steady.alarm (h : Steady s t) : t.attention.alarm = s.attention.alarm := by rw [h.unit]
theorem Steady.suppress (h : Steady s t) : t.attention.suppress = s.attention.suppress := by rw [h.unit]
theorem Steady.record (h : Steady s t) : t.attention.record = s.attention.record := by rw [h.unit]
theorem Steady.further (h : Steady s t) : t.attention.further = s.attention.further := by rw [h.unit]
theorem Steady.faultTime (h : Steady s t) : t.attention.faultTime = s.attention.faultTime := by rw [h.unit]

variable (s) (c : ChannelId) (b : BufferId)

theorem raiseCause_steady (k : Cause) : Steady s (raiseCause k s) := by
  unfold raiseCause
  split
  · exact .refl s
  · exact ⟨rfl, rfl, rfl⟩

theorem notify_steady (p : PortId) (n : Notice) : Steady s (notify p n s) := by
  unfold notify
  dsimp only
  split
  · exact .of_eq rfl rfl
  · exact Steady.trans (t := s.setPort p { s.port p with noticesLost := true }) (.of_eq rfl rfl) (raiseCause_steady _ _)

theorem notifyBound_steady (n : Notice) : Steady s (notifyBound c n s) := by
  unfold notifyBound
  split
  · exact notify_steady s _ n
  · exact .refl s

theorem letGo_steady : Steady s (letGo c s) := ⟨rfl, rfl, rfl⟩

theorem endCue_steady (status : CueStatus) : Steady s (endCue c status s) := by
  unfold endCue
  split
  · exact .refl s
  · exact (notifyBound_steady s c _).trans ((letGo_steady _ c).trans (.of_eq rfl rfl))

theorem goOn_steady : Steady s (goOn c s) := by
  unfold goOn
  split
  · split
    · exact .of_eq rfl rfl
    · exact .refl s
  · exact Steady.trans (t := enterState c .halted s) (.of_eq rfl rfl) (notifyBound_steady _ c _)
  · exact Steady.trans (t := enterState c .stopped s) (.of_eq rfl rfl) (notifyBound_steady _ c _)
  · exact .refl s

theorem finishCue_steady : Steady s (finishCue c s) := by
  unfold finishCue
  dsimp only
  split
  · split
    · exact .refl s
    · split
      · exact (endCue_steady s c _).trans (goOn_steady _ c)
      · split
        · exact endCue_steady s c _
        · exact .refl s
  · exact .refl s

theorem stoppingEnd_steady : Steady s (stoppingEnd c s) := by
  unfold stoppingEnd
  dsimp only
  split
  · split
    · exact goOn_steady s c
    · split
      · exact (endCue_steady s c _).trans (goOn_steady _ c)
      · exact Steady.trans (t := keepRemainder c s) ⟨rfl, rfl, rfl⟩ (notifyBound_steady _ c _)
  · exact .refl s

theorem issueOne_steady : Steady s (issueOne c s) := by
  unfold issueOne
  dsimp only
  (repeat' split) <;> exact ⟨rfl, rfl, rfl⟩

theorem issueAll_steady : Steady s (issueAll c s) :=
  (issueOne_steady s c).trans ((issueOne_steady _ c).trans ((issueOne_steady _ c).trans (issueOne_steady _ c)))

theorem settleChannel_steady : Steady s (settleChannel c s) := by
  have released : Steady s (releaseBuffers c s) := .of_eq
  have assembled : ∀ t, Steady t (assemble c t) := fun t => .of_eq
  have presented : ∀ t, Steady t (presentJob c t) := fun t => .of_eq
  exact released.trans <| (finishCue_steady _ c).trans <| (issueAll_steady _ c).trans <| (assembled _).trans <|
    (stoppingEnd_steady _ c).trans (presented _)

theorem endConcealed_steady (block : Nat) (f : Failure) : Steady s (endConcealed c b block f s) := by
  unfold endConcealed
  dsimp only
  split
  · split
    · split
      · exact ⟨rfl, rfl, rfl⟩
      · refine Steady.trans ?_ (notifyBound_steady _ c _)
        exact ⟨rfl, rfl, rfl⟩
    · exact ⟨rfl, rfl, rfl⟩
  · exact ⟨rfl, rfl, rfl⟩

theorem failAttempt_steady (f : Failure) : Steady s (failAttempt c b f s) := by
  unfold failAttempt
  split
  · exact .refl s
  · split
    · exact ⟨rfl, rfl, rfl⟩
    · split
      · exact ⟨rfl, rfl, rfl⟩
      · exact endConcealed_steady s c b _ f

end Steady

/-! ### The end of an attempt -/

section Attempts
variable {s : State} {c : ChannelId} {b : BufferId} {g : ReadTag} {tag : Byte} {r : BlockRequest} {f : Failure} {place : BlockPlace}
  {cur : CurrentCue} {data : List Byte}

/-- Every slot is stale, slot by slot (R117). -/
theorem allStale_iff : s.allStale = true ↔ ∀ g, ∃ k, s.readSlot g = .stale k := by
  simp only [State.allStale, List.all_eq_true, mem_toList_iff, forall_exists_index, forall_apply_eq_imp_iff, State.readSlot]
  refine forall_congr' fun g => ?_
  cases rowGet s.store.slots g <;> simp

theorem not_allStale (h : ∀ k, s.readSlot g ≠ .stale k) : ¬ s.allStale = true := fun ha =>
  let ⟨k, hk⟩ := allStale_iff.1 ha g
  h k hk

/-- Where a slot is not stale there is no stall (R117). -/
theorem stallEnds_of_not_stale (h : ∀ k, s.readSlot g ≠ .stale k) : stallEnds s = setStalled false s := if_neg (not_allStale h)

/-- No stall begins while a slot is not stale (R117). -/
theorem stallBegins_of_not_stale (block : Nat) (h : ∀ k, s.readSlot g ≠ .stale k) : stallBegins block s = s :=
  if_neg fun ha => not_allStale h (Bool.and_eq_true_iff.1 ha).1

/-- A tag of a read slot answers that slot. -/
theorem answerTag_of_slot (h : tag.toNat = g.val) (attempt : ChannelId → BufferId → State → State) :
    answerTag tag attempt s = answerSlot g attempt s := by
  have hlt : tag.toNat < 8 := by omega
  have hg : (⟨tag.toNat, hlt⟩ : ReadTag) = g := Fin.ext h
  rw [answerTag, dif_pos hlt, hg]

theorem answerTag_of_le (h : 8 ≤ tag.toNat) (attempt : ChannelId → BufferId → State → State) : answerTag tag attempt s = s :=
  dif_neg (Nat.not_lt.2 h)

/-- An answer to an active slot ends its attempt (R111, R112). -/
theorem answerSlot_of_active {block attempt remaining : Nat} (h : s.readSlot g = .active c b block attempt remaining)
    (ends : ChannelId → BufferId → State → State) :
    answerSlot g ends s = afterAnswer c (ends c b (s.setReadSlot g .free)) := by rw [answerSlot, h]

/-- A block comes for the tag of a slot (R106). -/
theorem exec_blockData (hlen : data.length = 65536) (h : tag.toNat = g.val) :
    exec (.blockData tag data) s = .next (answerSlot g (fun c b => endData c b data) s) := by
  rw [← answerTag_of_slot h]
  exact congrArg Host.Outcome.next (if_pos hlen)

/-- Data that a channel still wants fill its buffer (R111). -/
theorem endData_of_inFlight (h : (s.channel c).buffer b = .inFlight place) :
    endData c b data s = (forgetRequest c b s).setChannel c ((s.channel c).withBuffer b (.filled place data)) := by
  simp only [endData, h, forgetRequest_channel]

/-- Data that a channel has discarded release its buffer (R111). -/
theorem endData_of_draining (h : (s.channel c).buffer b = .draining) :
    endData c b data s = (forgetRequest c b s).setChannel c ((s.channel c).withBuffer b .free) := by
  simp only [endData, h, endMissing, forgetRequest_channel]

/-! ### What a failed attempt makes of its request -/

section Failed
variable (hr : s.requestOf c b = some r)
include hr

/-- An abandoned request ends missing, and so does one of a channel in STOPPING (R112, R116). -/
theorem failAttempt_of_unwanted (h : r.abandoned = true ∨ (s.channel c).state = .stopping) :
    failAttempt c b f s = endMissing c b s := by
  simp only [failAttempt, hr, Bool.or_eq_true, decide_eq_true_eq, if_pos h]

section Wanted
variable (ha : r.abandoned = false) (hs : (s.channel c).state ≠ .stopping)
include ha hs

/-- The request waits again while the retry limit allows (R112). -/
theorem failAttempt_of_retry (ht : r.failed + 1 ≤ s.timing.retry) :
    failAttempt c b f s =
      changeRequest c b (fun x => { x with failed := x.failed + 1, lastFailure := some f, active := false }) s := by
  simp only [failAttempt, hr, ha, hs, decide_false, Bool.or_self, Bool.false_eq_true, if_false, if_pos ht]

variable (ht : s.timing.retry < r.failed + 1)
include ht

theorem failAttempt_of_exhausted : failAttempt c b f s = endConcealed c b r.block f s := by
  simp only [failAttempt, hr, ha, hs, decide_false, Bool.or_self, Bool.false_eq_true, if_false, if_neg (Nat.not_le.2 ht)]

variable (hp : (s.channel c).buffer b = .inFlight place) (hc : (s.channel c).current = some cur)
include hp hc

/-- Once the cue's CONCEALED notice has been sent, a request ends concealed without another (R115). -/
theorem failAttempt_of_noticed (hn : cur.concealNoticed = true) :
    failAttempt c b f s = (forgetRequest c b s).setChannel c ((s.channel c).withBuffer b (.concealed place)) := by
  have hcur : ((s.channel c).withBuffer b (.concealed place)).current = some cur := hc
  rw [failAttempt_of_exhausted hr ha hs ht]
  simp only [endConcealed, hp, forgetRequest_channel, channel_setChannel_self, hcur, hn, if_true]

/-- The first request of a cue to end concealed sends CONCEALED to the bound port (R115). -/
theorem failAttempt_of_first (hn : cur.concealNoticed = false) {p : PortId} (hport : (s.channel c).port = some p) :
    failAttempt c b f s = notify p (.concealed c cur.tag r.block f) ((forgetRequest c b s).setChannel c
      { (s.channel c).withBuffer b (.concealed place) with current := some { cur with concealNoticed := true } }) := by
  have hcur : ((s.channel c).withBuffer b (.concealed place)).current = some cur := hc
  have hbound : ((s.channel c).withBuffer b (.concealed place)).port = some p := hport
  rw [failAttempt_of_exhausted hr ha hs ht]
  simp only [endConcealed, hp, forgetRequest_channel, channel_setChannel_self, hcur, hn, Bool.false_eq_true, if_false, notifyBound,
    setChannel_setChannel, Channel.noteConcealed, Option.map_some, hbound]

end Wanted
end Failed

/-- A slot whose timer has run out goes stale, and its attempt fails (R112, R113, R117). -/
theorem exec_readTimeout_of_due {block attempt : Nat} (h : s.readSlot g = .active c b block attempt 0) :
    exec (.readTimeout g) s =
      .next (afterAnswer c (stallBegins block (failAttempt c b .timeout (s.setReadSlot g (.stale block))))) := by
  show Host.Outcome.next (slotTimeout g s) = _
  simp only [slotTimeout, h]

/-- A slot whose timer still runs does not time out (R113). -/
theorem exec_readTimeout_of_running {block attempt remaining : Nat} (h : s.readSlot g = .active c b block attempt remaining)
    (hr : remaining ≠ 0) : exec (.readTimeout g) s = .next s := by
  refine congrArg Host.Outcome.next (slotTimeout_of_not_due fun c' b' block' attempt' e => hr ?_)
  rw [h] at e
  injection e

theorem exec_blockFail {block attempt remaining : Nat} (ht : tag.toNat = g.val)
    (h : s.readSlot g = .active c b block attempt remaining) (reason : FailReason) :
    exec (.blockFail tag reason) s = .next (afterAnswer c (failAttempt c b (failureOf reason) (s.setReadSlot g .free))) := by
  rw [← answerSlot_of_active h (fun c b => failAttempt c b (failureOf reason)), ← answerTag_of_slot ht]
  rfl

end Attempts


/-! ### BLOCK_DATA -/

/-- Settles O51: by the slot that the tag names, and for an active slot by what its channel has made of the buffer. -/
theorem blockData : Obligations.BlockData := by
  refine fun s tag data => ⟨fun hstray => ?_, fun hlen g hg => ⟨fun hfree => ?_, fun block hstale => ?_,
    fun c b block attempt remaining hactive => ⟨fun place hbuf => ?_, fun hbuf => ?_⟩⟩⟩
  · refine congrArg Host.Outcome.next ?_
    split
    · next hlen => exact answerTag_of_le (hstray.resolve_left fun h => h hlen) _
    · rfl
  · rw [exec_blockData hlen hg, answerSlot, hfree]
  · have hnow : (s.setReadSlot g .free).readSlot g = .free := by rw [readSlot_setReadSlot, if_pos rfl]
    refine ⟨lateAnswer g s, by rw [exec_blockData hlen hg, answerSlot, hstale], ?_, by simp [lateAnswer], by simp [lateAnswer]⟩
    rw [lateAnswer, stallEnds_of_not_stale (g := g) (by simp [hnow])]
    rfl
  · rw [exec_blockData hlen hg, answerSlot_of_active hactive, endData_of_inFlight (s := s.setReadSlot g .free) hbuf]
    rfl
  · rw [exec_blockData hlen hg, answerSlot_of_active hactive, endData_of_draining (s := s.setReadSlot g .free) hbuf]
    rfl

/-! ### BLOCK_FAIL and READ_TIMEOUT -/

/-- The answers that fail an attempt: what each leaves of the slot, as which failure it counts, and whether a stall then begins (R112, R113,
R117). -/
theorem exec_of_failed {s : State} {tag : Byte} {g : ReadTag} {c : ChannelId} {b : BufferId} {block attempt remaining : Nat}
    (htag : tag.toNat = g.val) (h : s.readSlot g = .active c b block attempt remaining) {i : Instr} {left : ReadSlot}
    {failure : Failure} {stall : State → State}
    (hi : (∃ reason, i = .blockFail tag reason ∧ left = .free ∧ failure = failureOf reason ∧ stall = id) ∨
      (i = .readTimeout g ∧ remaining = 0 ∧ left = .stale block ∧ failure = .timeout ∧
        ((∃ h, h ≠ g ∧ ∀ k, s.readSlot h ≠ .stale k) ∧ stall = id ∨
          (∀ h, h ≠ g → ∃ k, s.readSlot h = .stale k) ∧ stall = stallBegins block))) :
    exec i s = .next (settle c (grantAll (stall (failAttempt c b failure (s.setReadSlot g left))))) := by
  obtain ⟨reason, rfl, rfl, rfl, rfl⟩ | ⟨rfl, rfl, rfl, rfl, ⟨⟨y, hy, hns⟩, rfl⟩ | ⟨-, rfl⟩⟩ := hi
  · exact exec_blockFail htag h reason
  · have hslot : (failAttempt c b .timeout (s.setReadSlot g (.stale block))).readSlot y = s.readSlot y := by
      rw [(failAttempt_steady _ c b _).readSlot, readSlot_setReadSlot, if_neg hy]
    rw [exec_readTimeout_of_due h, stallBegins_of_not_stale (g := y) block (by rw [hslot]; exact hns)]
    rfl
  · exact exec_readTimeout_of_due h

/-- Settles O52: by the three ends of a failed attempt, whichever answer fails it. -/
theorem failedAttempts : Obligations.FailedAttempts := by
  intro s tag g c b block attempt remaining r htag hslot hr
  refine ⟨exec_readTimeout_of_running hslot, fun i left failure stall hi => ?_⟩
  have hexec := exec_of_failed htag hslot hi
  have hu : (s.setReadSlot g left).requestOf c b = some r := hr
  refine ⟨fun hunwanted => ?_, fun ha hs hretry => ?_, fun ha hs hlimit place cur hbuf hcur => ⟨fun hn => ?_, fun hn p hp => ?_⟩⟩
  · rw [hexec, failAttempt_of_unwanted hu hunwanted]
  · rw [hexec, failAttempt_of_retry hu ha hs hretry]
  · rw [hexec, failAttempt_of_noticed hu ha hs hlimit hbuf hcur hn]
    rfl
  · rw [hexec, failAttempt_of_first hu ha hs hlimit hbuf hcur hn hp]
    rfl

end Sys2Proof.Machine
end

-- ==== Proofs: the stall and STORE_RESET ====
section
/-! The stall that the eighth stale slot begins (R117), and STORE_RESET: its cancellations one by one, the counts of its reply, and what it
leaves alone (R112, R119). -/

namespace Sys2Proof.Machine

/-! ### The beginning of the stall -/

section Stall
variable {s : State} {c : ChannelId} {b : BufferId} {g : ReadTag}

/-- What an alarm-class event leaves of the attention unit: its conditions, the ALARM line with its latch, and the first-fault record
(R168, R169). -/
structure AlarmTaken (d : FaultDetail) (a a' : Attention) : Prop where
  stalled : a'.stalled = a.stalled
  first : a.suppress = false → a'.alarm = true ∧ a'.suppress = true
  again : a.suppress = true → a'.alarm = a.alarm
  record : a.record = none → a'.record = some { time := a.faultTime, detail := d }
  further : ∀ f, a.record = some f → a'.record = some f ∧ hasCause a'.further d.cause = true

/-- The first-fault record takes note of an event, and neither the conditions nor the ALARM line do (R169). -/
theorem recorded_line (d : FaultDetail) (a : Attention) :
    (a.recorded d).stalled = a.stalled ∧ (a.recorded d).alarm = a.alarm ∧ (a.recorded d).suppress = a.suppress := by
  unfold Attention.recorded
  split <;> exact ⟨rfl, rfl, rfl⟩

/-- The ALARM line takes note of an event, and neither the conditions nor the first-fault record do (R168). -/
theorem alarmed_rest (a : Attention) :
    a.alarmed.stalled = a.stalled ∧ a.alarmed.record = a.record ∧ a.alarmed.faultTime = a.faultTime := by
  unfold Attention.alarmed
  split <;> exact ⟨rfl, rfl, rfl⟩

theorem hasCause_or_bit (set : CauseSet) (c : Cause) : hasCause (set ||| c.bit) c = true := by
  have hown : hasCause c.bit c = true := by cases c <;> rfl
  exact BitVec.getLsbD_or.trans (Bool.or_eq_true_iff.2 (.inr hown))

theorem alarmed_recorded_taken (d : FaultDetail) (a : Attention) : AlarmTaken d a (a.alarmed.recorded d) := by
  obtain ⟨hstalled, hline, hlatch⟩ := recorded_line d a.alarmed
  obtain ⟨hcond, hrecord, htime⟩ := alarmed_rest a
  refine ⟨hstalled.trans hcond, fun hs => ?_, fun hs => ?_, fun hr => ?_, fun f hf => ?_⟩
  · rw [hline, hlatch]
    simp [Attention.alarmed, hs]
  · rw [hline]
    simp [Attention.alarmed, hs]
  · simp [Attention.recorded, hrecord, hr, htime]
  · simp [Attention.recorded, hrecord, hf, hasCause_or_bit]

/-- An alarm-class event once the walk has ended (R166, R168, R169). -/
theorem alarmEvent_taken (hw : s.inWalk = false) (d : FaultDetail) : AlarmTaken d s.attention (alarmEvent d s).attention := by
  have h := alarmed_recorded_taken d (raiseCause d.cause s).attention
  have hr := raiseCause_steady s d.cause
  have e : (alarmEvent d s).attention = (raiseCause d.cause s).attention.alarmed.recorded d := by
    rw [alarmEvent, if_neg (by simp [hw])]
  rw [e]
  exact ⟨h.stalled.trans hr.stalled, hr.suppress ▸ h.first, hr.suppress ▸ hr.alarm ▸ h.again, hr.record ▸ hr.faultTime ▸ h.record,
    hr.record ▸ h.further⟩

theorem AlarmTaken.steady {d : FaultDetail} {a : Attention} {t u : State} (h : AlarmTaken d a t.attention) (g : Steady t u) :
    AlarmTaken d a u.attention :=
  ⟨g.stalled.trans h.stalled, fun hs => by rw [g.alarm, g.suppress]; exact h.first hs, fun hs => by rw [g.alarm]; exact h.again hs,
    fun hr => by rw [g.record]; exact h.record hr, fun f hf => by rw [g.record, g.further]; exact h.further f hf⟩

/-- Where all eight slots are stale the stall begins (R117). -/
theorem stallBegins_of_all_stale (block : Nat) (h : ∀ y, ∃ k, s.readSlot y = .stale k) (hs : s.attention.stalled = false) :
    stallBegins block s = alarmEvent (.storeStalled block) (setStalled true s) :=
  if_pos (by rw [allStale_iff.2 h, hs]; rfl)

/-- Where all eight slots are stale none is free, so nothing is granted (R109, R117). -/
theorem grantAll_of_all_stale (h : ∀ y, ∃ k, s.readSlot y = .stale k) : grantAll s = s :=
  grantAll_of_noGrantDue (.inl (freeTag_eq_none.2 (Finset.eq_empty_of_forall_notMem fun y hy => by
    obtain ⟨k, hk⟩ := h y
    rw [mem_freeTags, hk] at hy
    cases hy)))

/-- After an answer that leaves all eight slots stale the channel goes on, and nothing is granted. -/
theorem afterAnswer_of_all_stale (h : ∀ y, ∃ k, s.readSlot y = .stale k) : afterAnswer c s = settleChannel c s := by
  rw [afterAnswer, grantAll_of_all_stale h, settle, grantAll_of_all_stale]
  intro y
  rw [(settleChannel_steady s c).readSlot]
  exact h y

/-- The eighth slot goes stale (R113). -/
theorem failAttempt_all_stale (block : Nat) (hothers : ∀ y, y ≠ g → ∃ k, s.readSlot y = .stale k) (f : Failure) :
    ∀ y, ∃ k, (failAttempt c b f (s.setReadSlot g (.stale block))).readSlot y = .stale k := fun y => by
  rw [(failAttempt_steady _ c b f).readSlot, readSlot_setReadSlot]
  split
  · exact ⟨block, rfl⟩
  · next hy => exact hothers y hy

/-- The attempt of the eighth slot to go stale fails, the stall begins, and the channel goes on with no slot to be granted (R113, R117). -/
theorem exec_eighth_timeout {block attempt : Nat} (hslot : s.readSlot g = .active c b block attempt 0)
    (hothers : ∀ y, y ≠ g → ∃ k, s.readSlot y = .stale k) (hstalled : s.attention.stalled = false) :
    exec (.readTimeout g) s = .next (settleChannel c (alarmEvent (.storeStalled block)
      (setStalled true (failAttempt c b .timeout (s.setReadSlot g (.stale block)))))) := by
  have hall := failAttempt_all_stale (c := c) (b := b) block hothers .timeout
  have hu := failAttempt_steady (s.setReadSlot g (.stale block)) c b .timeout
  rw [exec_readTimeout_of_due hslot]
  generalize failAttempt c b .timeout (s.setReadSlot g (.stale block)) = u at *
  rw [stallBegins_of_all_stale block hall (hu.stalled.trans hstalled), afterAnswer_of_all_stale]
  intro y
  rw [State.readSlot, alarmEvent_store]
  exact hall y

end Stall

/-! ### One cancellation -/

section Cancel
variable {s : State} {c d : ChannelId} {b e : BufferId} {r : BlockRequest}

/-- Whether the request of a buffer ends concealed when its attempt fails (R112). -/
def State.concealsNext (s : State) (c : ChannelId) (b : BufferId) : Bool :=
  match s.requestOf c b, (s.channel c).buffer b with
  | some r, .inFlight _ => !r.abandoned && decide ((s.channel c).state ≠ .stopping ∧ s.timing.retry < r.failed + 1)
  | _, _ => false

@[simp] theorem buffer_withBuffer (ch : Channel) (b e : BufferId) (x : Buffer) :
    (ch.withBuffer b x).buffer e = if e = b then x else ch.buffer e := rowGet_rowSet ..

/-- A buffer whose request ends missing is free (R116). -/
theorem endMissing_buffer : ((endMissing c b s).channel c).buffer b = .free := by
  simp [endMissing]

/-- A buffer with a read in flight is concealed by a request that ends concealed; one that drains is released (R115, R116). -/
theorem endConcealed_buffer (block : Nat) (f : Failure) : ((endConcealed c b block f s).channel c).buffer b =
    match (s.channel c).buffer b with
    | .inFlight place => .concealed place
    | _ => .free := by
  unfold endConcealed
  cases (s.channel c).buffer b with
  | inFlight place =>
    simp only [forgetRequest_channel, channel_setChannel_self]
    split
    · split
      · simp
      · simp [Channel.noteConcealed, Channel.buffer, Channel.withBuffer]
    · simp
  | _ => exact endMissing_buffer

/-- After a failed attempt the buffer is concealed exactly where its request ends concealed (R112, R115). -/
theorem failAttempt_isConcealed (f : Failure) (hr : s.requestOf c b = some r)
    (hbuf : ((s.channel c).buffer b).isInFlight = true) :
    (((failAttempt c b f s).channel c).buffer b).isConcealed = s.concealsNext c b := by
  rw [State.concealsNext, hr]
  by_cases hunwanted : r.abandoned = true ∨ (s.channel c).state = .stopping
  · rw [failAttempt_of_unwanted hr hunwanted, endMissing_buffer]
    have hno : (!r.abandoned && decide ((s.channel c).state ≠ .stopping ∧ s.timing.retry < r.failed + 1)) = false := by
      rcases hunwanted with h | h <;> simp [h]
    cases (s.channel c).buffer b with
    | inFlight place => exact hno.symm
    | _ => rfl
  · obtain ⟨ha, hs⟩ : r.abandoned = false ∧ (s.channel c).state ≠ .stopping := by simpa only [not_or, Bool.not_eq_true] using hunwanted
    rcases Nat.lt_or_ge s.timing.retry (r.failed + 1) with ht | ht
    · rw [failAttempt_of_exhausted hr ha hs ht, endConcealed_buffer]
      cases (s.channel c).buffer b <;> simp [Buffer.isConcealed, ha, hs, ht]
    · rw [failAttempt_of_retry hr ha hs ht]
      have hkept : ∀ h, (changeRequest c b h s).channel c = s.channel c := fun _ => rfl
      rw [hkept]
      cases hb : (s.channel c).buffer b <;> simp [Buffer.isConcealed, Buffer.isInFlight, Nat.not_lt.2 ht, hb] at hbuf ⊢

/-- What an attempt that fails leaves alone: the states of the channels, the timing settings, and the other buffers with their requests. -/
structure FailsAlone (c : ChannelId) (b : BufferId) (s t : State) : Prop where
  state : ∀ d, (t.channel d).state = (s.channel d).state
  timing : t.timing = s.timing
  request : ∀ d e, (d, e) ≠ (c, b) → t.requestOf d e = s.requestOf d e
  buffer : ∀ d e, (d, e) ≠ (c, b) → (t.channel d).buffer e = (s.channel d).buffer e

theorem FailsAlone.trans {s t u : State} (h : FailsAlone c b s t) (g : FailsAlone c b t u) : FailsAlone c b s u :=
  ⟨fun d => (g.state d).trans (h.state d), g.timing.trans h.timing, fun d e hne => (g.request d e hne).trans (h.request d e hne),
    fun d e hne => (g.buffer d e hne).trans (h.buffer d e hne)⟩

theorem FailsAlone.concealsNext {s t : State} (h : FailsAlone c b s t) (hne : (d, e) ≠ (c, b)) :
    t.concealsNext d e = s.concealsNext d e := by
  rw [State.concealsNext, h.request d e hne, h.buffer d e hne, h.state, h.timing]
  rfl

theorem isOf_of_ne (hne : (d, e) ≠ (c, b)) {x : BlockRequest} (h : x.isOf d e = true) : x.isOf c b = false := by
  simp only [BlockRequest.isOf, decide_eq_true_eq, decide_eq_false_iff_not] at *
  exact fun ⟨hc, hb⟩ => hne (by rw [← h.1, ← h.2, hc, hb])

theorem forgetRequest_alone : FailsAlone c b s (forgetRequest c b s) := by
  refine ⟨fun _ => rfl, rfl, fun d e hne => ?_, fun _ _ _ => rfl⟩
  refine (List.find?_filter ..).trans (congrArg (List.find? · s.store.requests) (funext fun x => ?_))
  cases h : x.isOf d e with
  | true => simp [isOf_of_ne hne h]
  | false => simp

theorem changeRequest_alone (h : BlockRequest → BlockRequest) (hc : ∀ x, (h x).channel = x.channel) (hb : ∀ x, (h x).buffer = x.buffer) :
    FailsAlone c b s (changeRequest c b h s) := by
  refine ⟨fun _ => rfl, rfl, fun d e hne => ?_, fun _ _ _ => rfl⟩
  have hsame : (fun r : BlockRequest => r.isOf d e) ∘ (fun r => if r.isOf c b then h r else r) = fun r => r.isOf d e :=
    funext fun r => by
      simp only [Function.comp_apply]
      split
      · rw [BlockRequest.isOf, hc, hb, BlockRequest.isOf]
      · rfl
  refine List.find?_map.trans ?_
  rw [hsame]
  cases hf : s.store.requests.find? fun r => r.isOf d e with
  | none => exact hf.symm
  | some r =>
    have hno := isOf_of_ne hne (List.find?_some (p := fun r : BlockRequest => r.isOf d e) hf)
    rw [Option.map_some, if_neg (by rw [hno]; exact Bool.false_ne_true)]
    exact hf.symm

/-- A channel takes another buffer in the place of one, and stays in its state. -/
theorem setChannel_alone {x : Channel} (hx : x.state = (s.channel c).state)
    (hb : ∀ e, e ≠ b → x.buffer e = (s.channel c).buffer e) : FailsAlone c b s (s.setChannel c x) := by
  refine ⟨fun d => ?_, rfl, fun _ _ _ => rfl, fun d e hne => ?_⟩ <;> rw [channel_setChannel] <;> split
  · next h => rw [hx, h]
  · rfl
  · next h => rw [h]; exact hb e fun he => hne (by rw [h, he])
  · rfl

theorem notifyBound_alone (n : Notice) : FailsAlone c b s (notifyBound c n s) :=
  ⟨fun d => by rw [notifyBound_channel], by simp, fun _ _ _ => by rw [State.requestOf, notifyBound_store, State.requestOf],
    fun _ _ _ => by rw [notifyBound_channel]⟩

theorem withBuffer_alone (x : Buffer) : FailsAlone c b s (s.setChannel c ((s.channel c).withBuffer b x)) :=
  setChannel_alone rfl fun e he => by rw [buffer_withBuffer, if_neg he]

theorem endMissing_alone : FailsAlone c b s (endMissing c b s) := forgetRequest_alone.trans (withBuffer_alone _)

theorem endConcealed_alone (block : Nat) (f : Failure) : FailsAlone c b s (endConcealed c b block f s) := by
  unfold endConcealed
  split
  · next place _ =>
    have hforgot : FailsAlone c b s ((forgetRequest c b s).setChannel c
        (((forgetRequest c b s).channel c).withBuffer b (.concealed place))) := forgetRequest_alone.trans (withBuffer_alone _)
    dsimp only
    split
    · split
      · exact hforgot
      · refine (hforgot.trans ?_).trans (notifyBound_alone _)
        exact setChannel_alone rfl fun _ _ => rfl
    · exact hforgot
  · exact endMissing_alone

theorem failAttempt_alone (f : Failure) : FailsAlone c b s (failAttempt c b f s) := by
  unfold failAttempt
  split
  · exact ⟨fun _ => rfl, rfl, fun _ _ _ => rfl, fun _ _ _ => rfl⟩
  · split
    · exact endMissing_alone
    · split
      · exact changeRequest_alone _ (fun _ => rfl) fun _ => rfl
      · exact endConcealed_alone _ f

theorem cancelSlot_alone (n : Nat) (g : ReadTag) : FailsAlone c b s (cancelSlot (n, s) (g, c, b)).2 :=
  FailsAlone.trans (t := s.setReadSlot g .free) ⟨fun _ => rfl, rfl, fun _ _ _ => rfl, fun _ _ _ => rfl⟩ (failAttempt_alone _)

/-- A cancellation by what its failed attempt makes of the request and of the buffer (R112, R119). -/
theorem cancelSlot_eq {n k : Nat} {g : ReadTag} {u : State} (hu : failAttempt c b .cancelled (s.setReadSlot g .free) = u)
    (hk : (if ((u.channel c).buffer b).isConcealed then 1 else 0) = k) : cancelSlot (n, s) (g, c, b) = (n + k, u) := by
  rw [cancelSlot, hu, hk]

/-- A cancellation counts where its request ends concealed (R119). -/
theorem cancelSlot_count (n : Nat) (g : ReadTag) (hr : s.requestOf c b = some r)
    (hbuf : ((s.channel c).buffer b).isInFlight = true) :
    (cancelSlot (n, s) (g, c, b)).1 = n + if s.concealsNext c b then 1 else 0 := by
  have hc : (((failAttempt c b .cancelled (s.setReadSlot g .free)).channel c).buffer b).isConcealed = s.concealsNext c b :=
    failAttempt_isConcealed .cancelled (s := s.setReadSlot g .free) hr hbuf
  rw [cancelSlot_eq rfl rfl, hc]

end Cancel

/-! ### All cancellations -/

section Cancellations
variable {s : State}

/-- Whether an active slot's request ends concealed when its attempt is cancelled (R112, R119). -/
def State.concealsSlot (s : State) (x : ReadTag × ChannelId × BufferId) : Bool := s.concealsNext x.2.1 x.2.2

/-- The concealed count of cancellations of different requests, each of a read in flight (R119). -/
theorem foldl_cancelSlot_count (l : List (ReadTag × ChannelId × BufferId)) (n : Nat) (hl : (l.map Prod.snd).Nodup)
    (h : ∀ x ∈ l, (∃ r, s.requestOf x.2.1 x.2.2 = some r) ∧ ((s.channel x.2.1).buffer x.2.2).isInFlight = true) :
    (l.foldl cancelSlot (n, s)).1 = n + l.countP s.concealsSlot := by
  induction l generalizing n s with
  | nil => rfl
  | cons x rest ih =>
    obtain ⟨g, c, b⟩ := x
    obtain ⟨hx, hrest⟩ := List.forall_mem_cons.1 h
    rw [List.map_cons, List.nodup_cons] at hl
    obtain ⟨⟨r, hr⟩, hbuf⟩ := hx
    have halone := cancelSlot_alone (s := s) (c := c) (b := b) n g
    have hne : ∀ y ∈ rest, (y.2.1, y.2.2) ≠ (c, b) := fun y hy e => hl.1 (List.mem_map.2 ⟨y, hy, e⟩)
    have hcount := cancelSlot_count n g hr hbuf
    rw [List.foldl_cons]
    generalize cancelSlot (n, s) (g, c, b) = acc at *
    obtain ⟨m, u⟩ := acc
    have hrests : rest.countP u.concealsSlot = rest.countP s.concealsSlot := List.countP_congr fun y hy => by
      rw [State.concealsSlot, halone.concealsNext (hne y hy), State.concealsSlot]
    rw [ih m hl.2 fun y hy => by rw [halone.request _ _ (hne y hy), halone.buffer _ _ (hne y hy)]; exact hrest y hy,
      hrests, List.countP_cons]
    dsimp only at hcount
    rw [hcount, Nat.add_assoc, Nat.add_comm (ite _ _ _)]
    rfl

/-- No more requests end concealed than attempts are cancelled (R119). -/
theorem foldl_cancelSlot_le (l : List (ReadTag × ChannelId × BufferId)) (acc : Nat × State) :
    (l.foldl cancelSlot acc).1 ≤ acc.1 + l.length := by
  induction l generalizing acc with
  | nil => exact Nat.le_refl _
  | cons x rest ih =>
    have hone : (cancelSlot acc x).1 ≤ acc.1 + 1 := by
      simp only [cancelSlot]
      split <;> omega
    have := ih (cancelSlot acc x)
    rw [List.foldl_cons, List.length_cons]
    omega

end Cancellations

/-! ### The slots that STORE_RESET finds -/

section Slots
variable {s : State}

/-- Whether a read slot is active. -/
def ReadSlot.isActive : ReadSlot → Bool
  | .active .. => true
  | _ => false

theorem toList_eq_map_finRange {α : Type} {n : Nat} (v : Vector α n) : v.toList = (List.finRange n).map (rowGet v) := by
  refine List.ext_getElem (by simp) fun i h₁ h₂ => ?_
  simp [rowGet]

theorem activeSlots_length : s.activeSlots.length = s.store.slots.toList.countP ReadSlot.isActive := by
  rw [State.activeSlots, List.length_filterMap_eq_countP, toList_eq_map_finRange, List.countP_map]
  refine List.countP_congr fun g _ => ?_
  show _ ↔ (s.readSlot g).isActive = true
  cases s.readSlot g <;> simp [ReadSlot.isActive]

theorem activeSlots_eq_nil (h : ∀ g, s.readSlot g = .free) : s.activeSlots = [] :=
  List.filterMap_eq_nil_iff.2 fun g _ => by rw [h g]

/-- Where every slot is free there is no stale slot to clear. -/
theorem clearStale_of_all_free (h : ∀ g, s.readSlot g = .free) : clearStale s = s := by
  have hs : s.store.slots.map (fun x => if x.isStale then .free else x) = s.store.slots := row_ext fun g => by
    rw [rowGet_map, show rowGet s.store.slots g = .free from h g]
    rfl
  rw [clearStale, hs]
  rfl

/-- No slot is stale once the stale slots have been cleared (R119). -/
theorem clearStale_readSlot (g : ReadTag) (k : Nat) : (clearStale s).readSlot g ≠ .stale k := by
  have hg : (clearStale s).readSlot g = if (s.readSlot g).isStale then .free else s.readSlot g := rowGet_map ..
  rw [hg]
  cases s.readSlot g <;> simp [ReadSlot.isStale]

/-- No slot is stale, and the stall condition does not hold (R117, R119). -/
structure Unstalled (s : State) : Prop where
  slots : ∀ g k, s.readSlot g ≠ .stale k
  stalled : s.attention.stalled = false

theorem Unstalled.steady {t : State} (h : Unstalled s) (g : Steady s t) : Unstalled t :=
  ⟨fun y k => by rw [g.readSlot]; exact h.slots y k, g.stalled.trans h.stalled⟩

theorem grantAll_unstalled (h : Unstalled s) : Unstalled (grantAll s) := by
  refine grantAll_keeps (P := Unstalled) (fun g r t ht => ⟨fun y k => ?_, by rw [grantTo_attention]; exact ht.stalled⟩) s h
  rw [grantTo_readSlot]
  split
  · exact ReadSlot.noConfusion
  · exact ht.slots y k

/-- Clearing the stale slots ends the stall (R117, R119). -/
theorem clearStale_unstalled : Unstalled (stallEnds (clearStale s)) := by
  rw [stallEnds_of_not_stale (g := 0) (clearStale_readSlot 0)]
  exact ⟨clearStale_readSlot, rfl⟩

end Slots

/-! ### STORE_RESET -/

section Reset
variable {s t u : State} {p : PortId} {v : Service}

theorem SameElsewhere.refl (s : State) : SameElsewhere s s := ⟨rfl, rfl, rfl, rfl, rfl, rfl⟩

theorem SameElsewhere.trans (h : SameElsewhere s t) (g : SameElsewhere t u) : SameElsewhere s u := by
  obtain ⟨h1, h2, h3, h4, h5, h6⟩ := h
  obtain ⟨g1, g2, g3, g4, g5, g6⟩ := g
  exact ⟨g1.trans h1, g2.trans h2, g3.trans h3, g4.trans h4, g5.trans h5, g6.trans h6⟩

theorem foldl_cancelSlot_same (l : List (ReadTag × ChannelId × BufferId)) (acc : Nat × State) :
    SameElsewhere acc.2 (l.foldl cancelSlot acc).2 := by
  induction l generalizing acc with
  | nil => exact .refl _
  | cons x rest ih =>
    have hone : SameElsewhere acc.2 (cancelSlot acc x).2 := by
      refine ⟨?_, ?_, ?_, ?_, ?_, ?_⟩ <;> simp [cancelSlot]
    exact hone.trans (ih _)

/-- What STORE_RESET does once the attempts have been cancelled: the stale slots are freed, what waits is granted, and each channel
concerned goes on (R119; log 17). -/
def afterCancels (order : List (ReadTag × ChannelId × BufferId)) (u : State) : State :=
  grantAll (order.foldl (fun w x => settleChannel x.2.1 w) (grantAll (stallEnds (clearStale u))))

theorem afterCancels_unstalled (order : List (ReadTag × ChannelId × BufferId)) (u : State) : Unstalled (afterCancels order u) :=
  grantAll_unstalled (foldl_keeps (P := Unstalled) (fun w (x : ReadTag × ChannelId × BufferId) => settleChannel x.2.1 w)
    (fun t x ht => ht.steady (settleChannel_steady t x.2.1)) order _ (grantAll_unstalled clearStale_unstalled))

theorem afterCancels_same (order : List (ReadTag × ChannelId × BufferId)) (u : State) : SameElsewhere u (afterCancels order u) := by
  have hcleared : SameElsewhere u (grantAll (stallEnds (clearStale u))) := by
    refine ⟨?_, ?_, ?_, ?_, ?_, ?_⟩ <;> simp [clearStale]
  have hsettled := foldl_keeps (P := SameElsewhere u) (fun w (x : ReadTag × ChannelId × BufferId) => settleChannel x.2.1 w)
    (fun t x ht => ht.trans (by refine ⟨?_, ?_, ?_, ?_, ?_, ?_⟩ <;> simp)) order _ hcleared
  refine hsettled.trans ?_
  refine ⟨?_, ?_, ?_, ?_, ?_, ?_⟩ <;> simp [afterCancels]

/-- Ordering things by free ranks uses up a moment at most (log 6). -/
theorem freeOrder_state {α : Type} (rank : α → Nat) (l : List α) (s : State) :
    ∃ moments, (freeOrder rank l s).2 = { s with moments := moments } := by
  unfold freeOrder
  split
  · exact ⟨s.moments, rfl⟩
  · exact ⟨s.moments + 1, rfl⟩

/-- STORE_RESET by the order in which it cancels the attempts of the active slots (R119; log 6). -/
theorem resetStore_by_order (s : State) : ∃ order moments, order.Perm s.activeSlots ∧
    let cancelled := order.foldl cancelSlot (0, { s with moments := moments })
    resetStore s = ((s.store.slots.toList.countP ReadSlot.isActive, s.store.slots.toList.countP ReadSlot.isStale, cancelled.1),
      afterCancels order cancelled.2) := by
  have hperm := freeOrder_perm (fun x : ReadTag × ChannelId × BufferId => x.1.val) s.activeSlots s
  obtain ⟨moments, hmoments⟩ := freeOrder_state (fun x : ReadTag × ChannelId × BufferId => x.1.val) s.activeSlots s
  refine ⟨_, moments, hperm, ?_⟩
  rw [← hmoments, ← activeSlots_length, ← hperm.length_eq]
  rfl

/-- STORE_RESET finds nothing to do where every slot is free, no grant is due and there is no stall. -/
theorem resetStore_of_all_free (h : ∀ g, s.readSlot g = .free) (hg : NoGrantDue s) (hs : s.attention.stalled = false) :
    resetStore s = ((0, 0, 0), s) := by
  have hstall : stallEnds s = s := by
    rw [stallEnds_of_not_stale (g := 0) (by simp [h]), setStalled, ← hs]
  have hstale : s.store.slots.toList.countP ReadSlot.isStale = 0 := List.countP_eq_zero.2 fun x hx => by
    obtain ⟨g, rfl⟩ := (mem_toList_iff _ _).1 hx
    rw [show rowGet s.store.slots g = .free from h g]
    exact Bool.false_ne_true
  have horder : freeOrder (fun x : ReadTag × ChannelId × BufferId => x.1.val) s.activeSlots s = ([], s) := by
    rw [activeSlots_eq_nil h]
    rfl
  simp only [resetStore, horder, hstale, List.foldl_nil, List.length_nil, clearStale_of_all_free h, hstall, grantAll_of_noGrantDue hg]

/-- The reply of STORE_RESET (R119). -/
theorem exec_storeReset (h : Serves s p v .storeReset) {n m k : Nat} {t : State} (hr : resetStore s = ((n, m, k), t)) :
    exec (.storeReset p) s = .next (answered p v .ok [.u8 n, .u8 m, .u8 k] t) := by
  have hn := (resetStore_works s).plays.notified p
  rw [hr] at hn
  obtain ⟨hv, he⟩ := h
  show Host.Outcome.next (serveStoreReset p s) = _
  rw [← reply_of_service p v .ok _ t (hn.service.trans hv)]
  cases v
  cases he
  simp only [serveStoreReset, hv, hr]

theorem resetStore_replies (hr : (resetStore s).2 = t) (code : ReplyCode) (fields : List Field) :
    ((answered p v code fields t).port p).service = none ∧ ((answered p v code fields t).port p).replies =
      (s.port p).replies ++ [{ kind := v.kind, tag := v.tag, code := code, fields := fields }] := by
  have hn := (resetStore_works s).plays.notified p
  rw [hr] at hn
  rw [answered, port_setPort_self]
  exact ⟨rfl, by rw [hn.replies]⟩

end Reset

/-- Settles O53: the eighth stale slot by the alarm that its stall raises, STORE_RESET by the order of its cancellations, and each
cancellation by the ends of a failed attempt. -/
theorem stallAndStoreReset : Obligations.StallAndStoreReset := by
  refine ⟨fun s g c b block attempt hslot hothers hstalled hwalk => ?_, fun p v s hserves => ?_, fun s n g c b r hr => ?_⟩
  · have hu := failAttempt_steady (s.setReadSlot g (.stale block)) c b .timeout
    have hall := failAttempt_all_stale (c := c) (b := b) block hothers .timeout
    have hexec := exec_eighth_timeout hslot hothers hstalled
    have hin : (setStalled true (failAttempt c b .timeout (s.setReadSlot g (.stale block)))).inWalk = false := by
      simpa [State.inWalk] using hwalk
    generalize failAttempt c b .timeout (s.setReadSlot g (.stale block)) = u at *
    have ht := settleChannel_steady (alarmEvent (.storeStalled block) (setStalled true u)) c
    have hflag := (hasCause_alarmEvent (setStalled true u) (.storeStalled block) .storeStalled).2 (.inr ⟨hin, rfl⟩)
    obtain ⟨hst, hfirst, hagain, hrec, hfur⟩ := (alarmEvent_taken hin (.storeStalled block)).steady ht
    refine ⟨_, hexec, hst, (settleChannel_local _ c).alerted.flags _ hflag, fun h => hfirst (hu.suppress.trans h),
      fun h => (hagain (hu.suppress.trans h)).trans hu.alarm, fun h => ?_, fun f h => hfur f (hu.record.trans h), ?_, fun y => ?_⟩
    · rw [hrec (hu.record.trans h)]
      exact congrArg (fun time => some (FirstFault.mk time (.storeStalled block))) hu.faultTime
    · rw [ht.sent, alarmEvent_store]
      exact hu.sent
    · rw [ht.readSlot, State.readSlot, alarmEvent_store]
      exact hall y
  · obtain ⟨order, moments, hperm, hreset⟩ := resetStore_by_order s
    have hexec := exec_storeReset hserves hreset
    have hanswer := resetStore_replies (p := p) (v := v) (congrArg Prod.snd hreset)
    refine ⟨⟨order, moments, hperm, hexec⟩, fun hnodup hflight => ⟨_, hexec, ?_⟩, ⟨_, _, hexec, ?_, fun g k => ?_, ?_, (hanswer _ _).1,
      (hanswer _ _).2, ?_⟩, fun hfree hgrants hstalled => exec_storeReset hserves (resetStore_of_all_free hfree hgrants hstalled)⟩
    · rw [(hanswer _ _).2, foldl_cancelSlot_count (s := { s with moments := moments }) order 0
        ((hperm.map Prod.snd).nodup_iff.2 hnodup) fun x hx => hflight x (hperm.mem_iff.1 hx), Nat.zero_add, hperm.countP_eq]
      rfl
    · have hle := foldl_cancelSlot_le order (0, { s with moments := moments })
      rw [Nat.zero_add, hperm.length_eq, activeSlots_length] at hle
      exact hle
    · exact (afterCancels_unstalled order _).slots g k
    · exact (afterCancels_unstalled order _).stalled
    · exact (foldl_cancelSlot_same order (0, { s with moments := moments })).trans (afterCancels_same order _)
  · have hu : (s.setReadSlot g .free).requestOf c b = some r := hr
    refine ⟨fun hunwanted => ?_, fun ha hs hretry hbuf => ?_, fun ha hs hlimit place cur hbuf hcur => ⟨fun hn => ?_, fun hn p hp => ?_⟩⟩
    · refine cancelSlot_eq (k := 0) (failAttempt_of_unwanted hu hunwanted) ?_
      rw [endMissing_buffer]
      rfl
    · refine cancelSlot_eq (k := 0) (failAttempt_of_retry hu ha hs hretry) (if_neg ?_)
      show ¬ ((s.channel c).buffer b).isConcealed = true
      cases hb : (s.channel c).buffer b <;> simp [hb, Buffer.isInFlight, Buffer.isConcealed] at hbuf ⊢
    · exact cancelSlot_eq (failAttempt_of_noticed hu ha hs hlimit hbuf hcur hn) (by simp [Buffer.isConcealed])
    · refine cancelSlot_eq (failAttempt_of_first hu ha hs hlimit hbuf hcur hn hp) ?_
      simp [Channel.buffer, Channel.withBuffer, Buffer.isConcealed]

end Sys2Proof.Machine
end

-- ==== Proofs: the links, arrivals and credit ====
section
/-! What arrives on the links (R106, R154, R155, R157, R161, R170): the layouts of units in good form, the command that each unit stands for,
and what a port makes of a request and of credit. -/

namespace Sys2Proof.Machine

/-! ### Bytes and checks -/

section Bytes
variable {bytes head body unit : List Byte} {kind : Byte} {m n : Nat}

@[simp] theorem leBytes_length (width n : Nat) : (leBytes width n).length = width := by
  induction width generalizing n with
  | zero => rfl
  | succ width ih => rw [leBytes, List.length_cons, ih]

/-- A number that fits its bytes is the one that they spell (R154). -/
theorem leNat_leBytes (width : Nat) (h : n < 256 ^ width) : leNat (leBytes width n) = n := by
  induction width generalizing n with
  | zero => simp only [pow_zero] at h; simp only [leBytes, leNat]; omega
  | succ width ih =>
    have hq : n / 256 < 256 ^ width := Nat.div_lt_of_lt_mul (by rw [pow_succ, Nat.mul_comm] at h; exact h)
    rw [leBytes, leNat, ih hq, BitVec.toNat_ofNat]
    omega

/-- Bytes are those of the number that they spell (R154). -/
theorem leBytes_leNat (bytes : List Byte) : leBytes bytes.length (leNat bytes) = bytes := by
  induction bytes with
  | nil => rfl
  | cons b bs ih =>
    have hb := b.isLt
    have hlow : BitVec.ofNat 8 (b.toNat + 256 * leNat bs) = b := by
      apply BitVec.eq_of_toNat_eq
      rw [BitVec.toNat_ofNat]
      omega
    have hhigh : (b.toNat + 256 * leNat bs) / 256 = leNat bs := by omega
    rw [List.length_cons, leNat, leBytes, hlow, hhigh, ih]

theorem checkSum_lt (bytes : List Byte) : checkSum bytes < 65536 := Nat.mod_lt _ (by decide)

/-- Bytes with their check after them (R154, R170). -/
def checked (head : List Byte) : List Byte := head ++ leBytes 2 (checkSum head)

theorem checked_length (head : List Byte) : (checked head).length = head.length + 2 := by
  rw [checked, List.length_append, leBytes_length]

/-- The number that stands between other bytes. -/
theorem readAt_middle {middle tail : List Byte} (hm : head.length = m) (hn : middle.length = n) :
    readAt (head ++ (middle ++ tail)) m n = leNat middle := by
  rw [readAt, ← hm, List.drop_left, ← hn, List.take_left]

/-- The last two bytes of a unit are the check of those before them exactly where the unit is something with its check (R154). -/
theorem check_matches_iff (h : bytes.length = m + 2) :
    readAt bytes m 2 = checkSum (bytes.take m) ↔ bytes = checked (bytes.take m) := by
  have htail : (bytes.drop m).length = 2 := by rw [List.length_drop]; omega
  have hread : readAt bytes m 2 = leNat (bytes.drop m) := by rw [readAt, ← htail, List.take_length]
  have hsplit : bytes = bytes.take m ++ bytes.drop m := (List.take_append_drop m bytes).symm
  rw [hread]
  constructor
  · intro hsum
    rw [checked, ← hsum, ← htail, leBytes_leNat]
    exact hsplit
  · intro hc
    have hd : bytes.drop m = leBytes 2 (checkSum (bytes.take m)) := List.append_cancel_left (hsplit.symm.trans hc)
    rw [hd, leNat_leBytes 2 (checkSum_lt _)]

theorem checked_take (hm : head.length = m) : (checked head).take m = head := by rw [checked, ← hm, List.take_left]

theorem check_matches (hm : head.length = m) : readAt (checked head) m 2 = checkSum ((checked head).take m) :=
  (check_matches_iff ((checked_length head).trans (by rw [hm]))).2 (by rw [checked_take hm])

/-! ### Units on a station link -/

/-- A frame opens as its kind and body (R155, R170). -/
theorem openMessage_frameMessage (h : body.length ≤ 1040) : openMessage (frameMessage kind body) = some (kind, body) := by
  have hhead : (kind :: (leBytes 2 body.length ++ body)).length = 3 + body.length := by
    rw [List.length_cons, List.length_append, leBytes_length]
    omega
  have hn : readAt (frameMessage kind body) 1 2 = body.length :=
    (readAt_middle (head := [kind]) rfl (leBytes_length 2 body.length)).trans (leNat_leBytes 2 (by omega))
  have hlen : (frameMessage kind body).length = body.length + 5 := (checked_length _).trans (by rw [hhead]; omega)
  have hbody : ((frameMessage kind body).drop 3).take body.length = body := List.take_left ..
  simp only [openMessage, hn]
  rw [if_pos ⟨h, hlen, check_matches hhead⟩, hbody]
  rfl

/-- A unit that opens is the frame of what it opens as (R155, R170). -/
theorem eq_frameMessage_of_open (h : openMessage unit = some (kind, body)) : unit = frameMessage kind body ∧ body.length ≤ 1040 := by
  simp only [openMessage, Option.ite_none_right_eq_some, Option.some.injEq, Prod.mk.injEq] at h
  obtain ⟨⟨hle, hlen, hsum⟩, rfl, rfl⟩ := h
  rw [check_matches_iff (by omega)] at hsum
  generalize hn : readAt unit 1 2 = n at *
  match unit with
  | [] | [_] | [_, _] => simp only [List.length_nil, List.length_cons] at hlen; omega
  | a :: b₀ :: b₁ :: rest =>
    have hbody : (rest.take n).length = n := by
      simp only [List.length_cons] at hlen
      rw [List.length_take]
      omega
    have hwidth : leBytes 2 n = [b₀, b₁] := hn ▸ leBytes_leNat [b₀, b₁]
    rw [Nat.add_comm] at hsum
    refine ⟨hsum.trans ?_, hbody.trans_le hle⟩
    show checked (a :: b₀ :: b₁ :: rest.take n) = checked (a :: (leBytes 2 (rest.take n).length ++ rest.take n))
    rw [hbody, hwidth]
    rfl

theorem openMessage_eq_some : openMessage unit = some (kind, body) ↔ unit = frameMessage kind body ∧ body.length ≤ 1040 :=
  ⟨eq_frameMessage_of_open, fun ⟨hu, hb⟩ => hu ▸ openMessage_frameMessage hb⟩

/-- A port takes a REQUEST of 2 bytes or more and a CREDIT of 3, and discards every other unit (R155). -/
theorem discardsUnit_eq_false : discardsUnit unit = false ↔ ∃ kind body, unit = frameMessage kind body ∧ body.length ≤ 1040 ∧
    (kind = 0x01 ∧ 2 ≤ body.length ∨ kind = 0x05 ∧ body.length = 3) := by
  simp only [← and_assoc, ← openMessage_eq_some]
  unfold discardsUnit
  cases ho : openMessage unit with
  | none => simp
  | some message =>
    obtain ⟨kind, body⟩ := message
    dsimp only
    split
    · next h₁ => simp [h₁, Nat.lt_iff_add_one_le]
    · next h₁ =>
      split
      · next h₅ => simp [h₅]
      · next h₅ => simpa using ⟨fun h => absurd h h₁, fun h => absurd h h₅⟩

theorem stationCommand_discards (p : PortId) (h : discardsUnit unit = true) : stationCommand p unit = .messageDiscard p unit := if_pos h

/-- The command of a frame in good form (R155, R170). -/
theorem stationCommand_frame (p : PortId) (hlen : body.length ≤ 1040)
    (h : kind = 0x01 ∧ 2 ≤ body.length ∨ kind = 0x05 ∧ body.length = 3) : stationCommand p (frameMessage kind body) =
      if kind = 0x01 then .requestArrival p body else .credit p (byteAt body 0) (wordAt body 1) := by
  rw [stationCommand, discardsUnit_eq_false.2 ⟨kind, body, rfl, hlen, h⟩, openMessage_frameMessage hlen]
  rfl

/-- The two bytes of an amount spell it (R154, R161). -/
theorem wordAt_amount (channel : Byte) (amount : BitVec 16) : wordAt (channel :: leBytes 2 amount.toNat) 1 = amount := by
  have h : readAt ([channel] ++ (leBytes 2 amount.toNat ++ [])) 1 2 = amount.toNat :=
    (readAt_middle rfl (leBytes_length ..)).trans (leNat_leBytes 2 amount.isLt)
  rw [List.append_nil] at h
  rw [wordAt, show channel :: leBytes 2 amount.toNat = [channel] ++ leBytes 2 amount.toNat from rfl, h, BitVec.ofNat_toNat,
    BitVec.setWidth_eq]

/-! ### Units on the store link -/

theorem checked_headD (h : head ≠ []) : (checked head).headD 0 = head.headD 0 := by
  cases head with
  | nil => exact absurd rfl h
  | cons a rest => rfl

/-- The store reader takes what is of the length of its kind and has its check, and discards every other unit (R106). -/
theorem discardsStoreUnit_eq_false : discardsStoreUnit unit = false ↔
    ∃ head, unit = checked head ∧ (head.headD 0 = 0x11 ∧ head.length = 65538 ∨ head.headD 0 = 0x12 ∧ head.length = 3) := by
  simp only [discardsStoreUnit, Bool.not_eq_false', decide_eq_true_eq]
  constructor
  · rintro ⟨hform, hsum⟩
    have hlen : unit.length = unit.length - 2 + 2 := by omega
    have hunit := (check_matches_iff hlen).1 hsum
    have htake : (unit.take (unit.length - 2)).length = unit.length - 2 := by rw [List.length_take]; omega
    have hkind : unit.headD 0 = (unit.take (unit.length - 2)).headD 0 :=
      (congrArg (List.headD · 0) hunit).trans (checked_headD (List.ne_nil_of_length_pos (by omega)))
    refine ⟨_, hunit, ?_⟩
    rw [hkind] at hform
    rw [htake]
    exact hform.imp (And.imp_right (by omega)) (And.imp_right (by omega))
  · rintro ⟨head, rfl, hform⟩
    have hne : head ≠ [] := List.ne_nil_of_length_pos (by omega)
    rw [checked_headD hne, checked_length, Nat.add_sub_cancel]
    exact ⟨hform.imp (And.imp_right (by omega)) (And.imp_right (by omega)), check_matches rfl⟩

/-- The units that the store reader takes (R106, R170). -/
theorem discardsStoreUnit_eq_false_iff : discardsStoreUnit unit = false ↔
    (∃ (tag : Byte) (data : List Byte), data.length = 65536 ∧ unit = checked (0x11 :: tag :: data)) ∨
      ∃ tag reason : Byte, unit = checked [0x12, tag, reason] := by
  rw [discardsStoreUnit_eq_false]
  constructor
  · rintro ⟨head, rfl, ⟨hkind, hlen⟩ | ⟨hkind, hlen⟩⟩
    · match head with
      | [] | [_] => simp only [List.length_nil, List.length_cons] at hlen; omega
      | k :: tag :: data =>
        obtain rfl : k = 0x11 := hkind
        simp only [List.length_cons] at hlen
        exact .inl ⟨tag, data, by omega, rfl⟩
    · obtain ⟨k, tag, reason, rfl⟩ := List.length_eq_three.1 hlen
      obtain rfl : k = 0x12 := hkind
      exact .inr ⟨tag, reason, rfl⟩
  · rintro (⟨tag, data, hlen, rfl⟩ | ⟨tag, reason, rfl⟩)
    · refine ⟨_, rfl, .inl ⟨rfl, ?_⟩⟩
      rw [List.length_cons, List.length_cons, hlen]
    · exact ⟨_, rfl, .inr ⟨rfl, rfl⟩⟩

theorem storeCommand_discards (h : discardsStoreUnit unit = true) : storeCommand unit = .storeMessageDiscard unit := if_pos h

/-- A BLOCK_DATA with its tag and block (R106, R111). -/
theorem storeCommand_data (tag : Byte) {data : List Byte} (h : data.length = 65536) :
    storeCommand (checked (0x11 :: tag :: data)) = .blockData tag data := by
  have hgood : discardsStoreUnit (checked (0x11 :: tag :: data)) = false :=
    discardsStoreUnit_eq_false_iff.2 (.inl ⟨tag, data, h, rfl⟩)
  have hkind : byteAt (checked (0x11 :: tag :: data)) 0 = 0x11 := rfl
  have hdata : ((checked (0x11 :: tag :: data)).drop 2).take Config.blockBytes = data := List.take_left' h
  rw [storeCommand, hgood, if_neg Bool.false_ne_true, if_pos hkind, hdata]
  rfl

/-- A BLOCK_FAIL by its reason byte (R112, R170; log 20). -/
theorem storeCommand_fail (tag reason : Byte) : storeCommand (checked [0x12, tag, reason]) =
    if reason = 0x00 then .blockFail tag .unreadable
    else if reason = 0x01 then .blockFail tag .absent
    else .storeMessageDiscard (checked [0x12, tag, reason]) := by
  have hgood : discardsStoreUnit (checked [0x12, tag, reason]) = false := discardsStoreUnit_eq_false_iff.2 (.inr ⟨tag, reason, rfl⟩)
  have hkind : byteAt (checked [0x12, tag, reason]) 0 = 0x12 := rfl
  have htag : byteAt (checked [0x12, tag, reason]) 1 = tag := rfl
  have hreason : byteAt (checked [0x12, tag, reason]) 2 = reason := rfl
  rw [storeCommand, hgood, if_neg Bool.false_ne_true, hkind, htag, hreason, if_neg (by decide), failReasonOfCode]
  by_cases h₀ : reason = 0x00
  · rw [if_pos h₀, if_pos h₀]
  · by_cases h₁ : reason = 0x01
    · rw [if_neg h₀, if_pos h₁, if_neg h₀, if_pos h₁]
    · rw [if_neg h₀, if_neg h₁, if_neg h₀, if_neg h₁]

end Bytes

/-! ### What a port makes of what arrives -/

section Arrivals
variable {s : State} {p q : PortId} {body : List Byte}

/-- A link fault is of one port (R155). -/
theorem linkFault_port : (linkFault p s).port q = if q = p then { s.port p with linkFault := true } else s.port q := by
  rw [linkFault, port_raiseCause, port_setPort]

/-- A link fault raises LINK_FAULT once the walk has ended (R155, R166). -/
theorem linkFault_flag (hw : s.inWalk = false) : hasCause (linkFault p s).attention.flags .linkFault = true :=
  (hasCause_raiseCause _ _ _).2 (.inr ⟨hw, rfl⟩)

theorem linkFault_attention_of_walk (hw : s.inWalk = true) : (linkFault p s).attention = s.attention := by
  have hin : (s.setPort p { s.port p with linkFault := true }).inWalk = true := hw
  rw [linkFault, raiseCause, if_pos hin]
  rfl

section Length
variable (hmin : 2 ≤ body.length) (hmax : body.length ≤ 1040)
include hmin hmax

/-- A request joins an intake of fewer than 4 (R157). -/
theorem takeIn_of_room (hi : (s.port p).intake.length < 4) :
    takeIn p body s = s.setPort p { s.port p with intake := (s.port p).intake ++ [body] } := by
  have hform : ¬ (body.length < 2 ∨ 1040 < body.length) := by omega
  rw [takeIn, if_neg hform, if_pos (show (s.port p).intake.length < Config.intakeLimit from hi)]

variable (hi : 4 ≤ (s.port p).intake.length)
include hi

/-- A request that finds the intake full is answered BUSY (R157). -/
theorem takeIn_of_busy (hr : (s.port p).replies.length ≤ 2) : takeIn p body s =
    s.setPort p ((s.port p).queueReply { kind := byteAt body 0, tag := byteAt body 1, code := .busy, fields := [] }) := by
  have hform : ¬ (body.length < 2 ∨ 1040 < body.length) := by omega
  rw [takeIn, if_neg hform, if_neg (show ¬ (s.port p).intake.length < Config.intakeLimit from Nat.not_lt.2 hi), if_pos hr]

/-- A request that finds the reply queue full too is a link fault (R157). -/
theorem takeIn_of_full (hr : 3 ≤ (s.port p).replies.length) : takeIn p body s = linkFault p s := by
  have hform : ¬ (body.length < 2 ∨ 1040 < body.length) := by omega
  rw [takeIn, if_neg hform, if_neg (show ¬ (s.port p).intake.length < Config.intakeLimit from Nat.not_lt.2 hi),
    if_neg (Nat.not_le.2 hr)]

end Length

variable {channel : Byte} {c : ChannelId}

/-- Credit for a channel that is bound to the port (R161). -/
theorem takeCredit_of_bound (hc : channel.toNat = c.val) (hp : (s.channel c).port = some p) (amount : Nat) :
    takeCredit p channel amount s = s.setPort p ((s.port p).withCredit c (min 65535 ((s.port p).creditFor c + amount))) := by
  have hlt : channel.toNat < 8 := by omega
  have e : (⟨channel.toNat, hlt⟩ : ChannelId) = c := Fin.ext hc
  rw [takeCredit, dif_pos hlt, e]
  exact if_pos hp

/-- Credit for no channel of the port does nothing (R161). -/
theorem takeCredit_of_not_bound (h : 8 ≤ channel.toNat ∨ ∃ c : ChannelId, channel.toNat = c.val ∧ (s.channel c).port ≠ some p)
    (amount : Nat) : takeCredit p channel amount s = s := by
  rcases h with h | ⟨c, hc, hp⟩
  · exact dif_neg (Nat.not_lt.2 h)
  · have hlt : channel.toNat < 8 := by omega
    have e : (⟨channel.toNat, hlt⟩ : ChannelId) = c := Fin.ext hc
    rw [takeCredit, dif_pos hlt, e]
    exact if_neg hp

end Arrivals

/-- Settles O56: requests and credit by what the port has room for, then the units of each link by their layouts. -/
theorem arrivalsCreditAndDiscards : Obligations.ArrivalsCreditAndDiscards := by
  refine ⟨fun s p => ⟨fun body h₂ hlen => ⟨fun hi => ?_, fun hi hr => ?_, fun hi hr => ?_⟩, fun channel amount =>
    ⟨fun c hc hp => ?_, fun h => congrArg Host.Outcome.next (takeCredit_of_not_bound h amount.toNat)⟩⟩,
    fun s bytes p => ⟨rfl, fun hd => ?_⟩,
    fun p unit => ⟨discardsUnit_eq_false, stationCommand_discards p, fun body h₂ hlen => ?_, fun channel amount => ?_⟩,
    fun unit => ⟨discardsStoreUnit_eq_false_iff, storeCommand_discards, fun tag data => storeCommand_data tag, storeCommand_fail⟩⟩
  · exact congrArg Host.Outcome.next (takeIn_of_room h₂ hlen hi)
  · exact congrArg Host.Outcome.next (takeIn_of_busy h₂ hlen hi hr)
  · exact ⟨_, congrArg Host.Outcome.next (takeIn_of_full h₂ hlen hi hr), by rw [linkFault_port, if_pos rfl],
      fun q hq => by rw [linkFault_port, if_neg hq], linkFault_flag, by simp, by simp, by simp [SameElsewhere]⟩
  · refine ⟨_, congrArg Host.Outcome.next (takeCredit_of_bound hc hp amount.toNat), ?_, fun d hd => ?_, fun q hq => ?_, ?_⟩
    · rw [port_setPort_self, creditFor_withCredit, if_pos rfl]
    · rw [port_setPort_self, creditFor_withCredit, if_neg hd]
    · rw [port_setPort, if_neg hq]
    · rw [port_setPort_self]
      rfl
  · exact ⟨_, congrArg Host.Outcome.next (if_pos hd), by rw [linkFault_port, if_pos rfl],
      fun q hq => by rw [linkFault_port, if_neg hq], linkFault_flag, linkFault_attention_of_walk, by simp, by simp, by simp, by simp,
      by simp, by simp⟩
  · exact stationCommand_frame p hlen (.inl ⟨rfl, h₂⟩)
  · rw [stationCommand_frame p (by simp) (.inr ⟨rfl, by simp⟩), wordAt_amount]
    rfl

end Sys2Proof.Machine
end

-- ==== Proofs: the walk's header read ====
section
/-! WALK_HEADER_READ (R120, R144, R147, R149): what the read of the header leaves, and the two ways on from it. -/

namespace Sys2Proof.Machine

/-! ### The end of a walk at the attention unit -/

section WalkDone
variable (s : State)

variable {s} in
theorem Steady.offline {t : State} (h : Steady s t) : t.attention.offline = s.attention.offline := by rw [h.unit]

theorem notifyControl_steady (n : Notice) : Steady s (notifyControl n s) :=
  foldl_keeps (P := Steady s) _ (fun t p h => by
    split
    · exact h.trans (notify_steady t p n)
    · exact h) _ _ (.refl s)

/-- An alarm-class event leaves the conditions and the fault time of the attention unit (R166, R169). -/
theorem alarmEvent_clock (d : FaultDetail) : (alarmEvent d s).attention.faultTime = s.attention.faultTime ∧
    (alarmEvent d s).attention.offline = s.attention.offline := by
  have hr := raiseCause_steady s d.cause
  have hrec : ∀ a : Attention, (a.alarmed.recorded d).faultTime = a.faultTime ∧ (a.alarmed.recorded d).offline = a.offline := fun a => by
    unfold Attention.recorded Attention.alarmed
    split <;> split <;> exact ⟨rfl, rfl⟩
  unfold alarmEvent
  split
  · exact ⟨rfl, rfl⟩
  · obtain ⟨htime, hoffline⟩ := hrec (raiseCause d.cause s).attention
    exact ⟨htime.trans hr.faultTime, hoffline.trans hr.offline⟩

/-- The part as the end of a walk OFFLINE leaves it before the alarm-class event: WALK_DONE is raised, the fault time starts and the
condition holds (R149, R169). -/
def offlineBegins (s : State) : State :=
  { raiseCause .walkDone s with attention := { (raiseCause .walkDone s).attention with faultTime := 0, offline := true } }

theorem walkDone_true (cause : WalkCause) (counts : WalkCounts) : walkDone cause true counts s =
    notifyControl (.walkDone cause true s.engine.freeStack.length counts s.hold.latches) (alarmEvent .catalogueOffline (offlineBegins s)) := by
  simp [walkDone, offlineBegins]

/-- The end of a walk OFFLINE is raised, as a cause and as an alarm-class event, and told to every CONTROL port (R149, R168). -/
theorem walkDone_offline (cause : WalkCause) (counts : WalkCounts) (hw : s.inWalk = false) :
    let t := walkDone cause true counts s
    hasCause t.attention.flags .walkDone = true ∧ hasCause t.attention.flags .catalogueOffline = true ∧ t.attention.offline = true ∧
      t.attention.faultTime = 0 ∧ t.hold = s.hold ∧ t.pinTable = s.pinTable ∧
      ∀ p, (s.port p).role = .control → Reached (.walkDone cause true s.engine.freeStack.length counts s.hold.latches) p t := by
  have hbegun : (offlineBegins s).inWalk = false := by simpa [State.inWalk, offlineBegins] using hw
  have hport : ∀ p, (alarmEvent .catalogueOffline (offlineBegins s)).port p = s.port p := fun p => by simp [State.port, offlineBegins]
  have hdone : hasCause (offlineBegins s).attention.flags .walkDone = true :=
    (hasCause_raiseCause s .walkDone .walkDone).2 (.inr ⟨hw, rfl⟩)
  obtain ⟨htime, hoffline⟩ := alarmEvent_clock (offlineBegins s) .catalogueOffline
  have hsteady := notifyControl_steady (alarmEvent .catalogueOffline (offlineBegins s))
  have hflags := fun n => (notifyControl_alerted (alarmEvent .catalogueOffline (offlineBegins s)) n).flags
  rw [walkDone_true]
  exact ⟨hflags _ _ ((hasCause_alarmEvent ..).2 (.inl hdone)), hflags _ _ ((hasCause_alarmEvent ..).2 (.inr ⟨hbegun, rfl⟩)),
    (hsteady _).offline.trans hoffline, (hsteady _).faultTime.trans htime, by simp [offlineBegins], by simp [offlineBegins],
    fun p hp => notifyControl_reached _ _ p (by rw [hport]; exact hp)⟩

/-- The part as a walk that ends OFFLINE hands it to the attention unit: the groups whose lines are high are latched, and no mirror write
is presented (R120, R149). -/
def State.walkOffline (s : State) : State :=
  { s with
    hold := { s.hold with latches := s.hold.latches ||| s.hold.lines }
    arbiter := Arbiter.reset
    engine := { s.engine with condition := .offline } }

theorem walkEnds_true : walkEnds true s = grantJob (walkDone .walk true WalkCounts.zero s.walkOffline) := by
  simp [walkEnds, State.walkOffline]

/-- A walk has ended OFFLINE (R149). -/
structure EndsOffline (s t : State) : Prop where
  memory : t.memory = s.memory
  engine : t.engine = { s.engine with condition := .offline }
  hold : t.hold = { s.hold with latches := s.hold.latches ||| s.hold.lines }
  walkDone : hasCause t.attention.flags .walkDone = true
  catalogueOffline : hasCause t.attention.flags .catalogueOffline = true
  offline : t.attention.offline = true
  faultTime : t.attention.faultTime = 0
  noticed : ∀ p, (s.port p).role = .control →
    Reached (.walkDone .walk true s.engine.freeStack.length WalkCounts.zero (s.hold.latches ||| s.hold.lines)) p t
  channels : t.channels = s.channels
  pinTable : t.pinTable = s.pinTable
  store : t.store = s.store

theorem walkEnds_offline : EndsOffline s (walkEnds true s) := by
  obtain ⟨hm, he, -, hs, hc⟩ := walkDone_frames .walk true WalkCounts.zero s.walkOffline
  obtain ⟨hdone, hoffline, hcond, htime, hhold, hpins, hreach⟩ := walkDone_offline s.walkOffline .walk WalkCounts.zero rfl
  rw [walkEnds_true]
  exact {
    memory := (grantJob_memory _).trans hm
    engine := (grantJob_engine _).trans he
    hold := (grantJob_hold _).trans hhold
    walkDone := by rw [grantJob_attention]; exact hdone
    catalogueOffline := by rw [grantJob_attention]; exact hoffline
    offline := by rw [grantJob_attention]; exact hcond
    faultTime := by rw [grantJob_attention]; exact htime
    noticed := fun p hp => (grantJob_alerted _).keepsReached _ p (hreach p hp)
    channels := (grantJob_channels _).trans hc
    pinTable := (grantJob_pinTable _).trans hpins
    store := (grantJob_store _).trans hs }

end WalkDone

/-! ### The header -/

section HeaderRead
variable {s : State}

/-- The header once it has been read whole: what could be corrected has been written back (R144, R147). -/
def Header.repaired (h : Header) : Header := { h with markerWords := h.markerWords.afterRead, mirrorWords := h.mirrorWords.afterRead }

/-- The part once the walk has read the header: the words corrected are counted as repairs (R144, R147). -/
def State.withHeaderRead (s : State) : State :=
  { s with
    memory := { s.memory with header := s.memory.header.repaired }
    engine := { s.engine with
      walk := { s.engine.walk with
        repaired := s.engine.walk.repaired + (s.memory.header.markerWords.damaged + s.memory.header.mirrorWords.damaged) } } }

theorem readHeaderWords_of_walk (hw : s.engine.condition = .walkHeader) : readHeaderWords s =
    (!s.memory.header.markerWords.lost && !s.memory.header.mirrorWords.lost, s.withHeaderRead) := by
  simp [readHeaderWords, noteRepairs, State.inWalk, hw, State.withHeaderRead, Header.repaired, State.setEngine]

/-- A word that can be read is clean once it has been (R144). -/
theorem afterRead_of_readable {k : WordCondition} (h : k.lost = false) : k.afterRead = .clean := by
  rw [WordCondition.afterRead, h]
  rfl

/-- With a sound header the walk goes on to the first slot, with the mirrored groups latched (R120, R147). -/
theorem headerRead_of_sound (hw : s.engine.condition = .walkHeader) (hv : s.memory.header.valid = true)
    (hmarker : s.memory.header.markerWords.lost = false) (hmirror : s.memory.header.mirrorWords.lost = false) :
    headerRead s = { s.withHeaderRead with
      hold := { s.hold with latches := s.hold.latches ||| s.memory.header.mirror }
      engine := { s.withHeaderRead.engine with condition := .walking 0 } } := by
  have hv' : s.withHeaderRead.memory.header.valid = true := hv
  rw [headerRead, if_pos hw, readHeaderWords_of_walk hw, hmarker, hmirror]
  exact if_pos (by rw [hv']; rfl)

/-- With a header that cannot be read, or is not VALID, the walk ends (R147). -/
theorem headerRead_of_unsound (hw : s.engine.condition = .walkHeader)
    (h : s.memory.header.valid = false ∨ s.memory.header.markerWords.lost = true ∨ s.memory.header.mirrorWords.lost = true) :
    headerRead s = walkEnds true s.withHeaderRead := by
  rw [headerRead, if_pos hw, readHeaderWords_of_walk hw]
  refine if_neg fun hsound => ?_
  have hv' : s.withHeaderRead.memory.header.valid = s.memory.header.valid := rfl
  rw [hv'] at hsound
  rcases h with h | h | h <;> simp [h] at hsound

end HeaderRead

/-- Settles O23: with a sound header the walk stands at slot 0, and else it has ended OFFLINE. -/
theorem headerReadBeginsOrEndsTheWalk : Obligations.HeaderReadBeginsOrEndsTheWalk := by
  intro s hw
  refine ⟨fun hv hmarker hmirror => ⟨_, congrArg Host.Outcome.next (headerRead_of_sound hw hv hmarker hmirror), rfl, rfl, rfl,
    afterRead_of_readable hmarker, afterRead_of_readable hmirror, rfl, rfl, rfl, rfl, rfl, rfl, rfl, rfl, rfl, rfl⟩, fun h => ?_⟩
  have ht := walkEnds_offline s.withHeaderRead
  refine ⟨_, congrArg Host.Outcome.next (headerRead_of_unsound hw h), ?_⟩
  generalize walkEnds true s.withHeaderRead = t at ht
  exact ⟨by rw [ht.engine], ht.hold, ht.walkDone, ht.catalogueOffline, ht.offline, ht.faultTime, by rw [ht.memory]; rfl,
    fun p hp => by rw [ht.hold]; exact ht.noticed p hp, by rw [ht.memory]; rfl, by rw [ht.engine]; rfl, by rw [ht.engine]; rfl,
    by rw [ht.engine]; rfl, ht.channels, ht.pinTable, ht.store⟩

end Sys2Proof.Machine
end

-- ==== Proofs: the group latches and the hold lines ====
section
/-! HOLD_GROUP, LIFT_GROUP and the edges of the hold lines (R121, R123): what they make of the latches, and what a group that becomes latched
makes of the channels (R126 to R129). -/

namespace Sys2Proof.Machine

/-! ### A change of the latches -/

section Changing
variable (s : State) (latches : Groups) (n : Notice)

/-- The latches change, and every CONTROL port is told (R121, R123). -/
def changeLatches (s : State) : State := notifyControl n (s.setHold { s.hold with latches := latches })

@[simp] theorem changeLatches_memory : (changeLatches latches n s).memory = s.memory := by simp [changeLatches]
@[simp] theorem changeLatches_engine : (changeLatches latches n s).engine = s.engine := by simp [changeLatches]
@[simp] theorem changeLatches_hold : (changeLatches latches n s).hold = { s.hold with latches := latches } := by simp [changeLatches]
@[simp] theorem changeLatches_pinTable : (changeLatches latches n s).pinTable = s.pinTable := by simp [changeLatches]
@[simp] theorem changeLatches_store : (changeLatches latches n s).store = s.store := by simp [changeLatches]
@[simp] theorem changeLatches_timing : (changeLatches latches n s).timing = s.timing := by simp [changeLatches]
@[simp] theorem changeLatches_channels : (changeLatches latches n s).channels = s.channels := by simp [changeLatches]
@[simp] theorem changeLatches_channel (c : ChannelId) : (changeLatches latches n s).channel c = s.channel c := by simp [State.channel]

theorem changeLatches_alerted : Alerted s (changeLatches latches n s) := by
  have hset : Alerted s (s.setHold { s.hold with latches := latches }) := .of_eq rfl rfl
  exact hset.trans (notifyControl_alerted _ n)

theorem changeLatches_reached (q : PortId) (hq : (s.port q).role = .control) : Reached n q (changeLatches latches n s) :=
  notifyControl_reached _ n q hq

@[simp] theorem presentMirror_hold : (presentMirror s).hold = { s.hold with mirrorWaiting := true } := by simp [presentMirror]

theorem presentMirror_alerted : Alerted s (presentMirror s) := .of_eq (by simp) (by simp)

end Changing

/-! ### A group becomes latched -/

section Latching
variable (s : State) (g : GroupId) (source : HoldSource) (port : Option PortId)

/-- What a judgement against the latches given makes of a channel (R126 to R129). -/
def Judged (s : State) (latches : Groups) (c : ChannelId) (t : State) : Prop :=
  ((s.channel c).current = none ∨ (s.channel c).cutoff = .ignore ∨
      (∃ cur, (s.channel c).current = some cur ∧ (cur.muted = true ∨ cur.held latches = false)) → t.channel c = s.channel c) ∧
    ∀ cur, (s.channel c).current = some cur → cur.muted = false → cur.held latches = true →
      CutEffect s.store.requests (s.channel c) cur latches c t

variable {s} in
/-- A judgement stands after what leaves its channel alone. -/
theorem Judged.after {latches : Groups} {c : ChannelId} {t u : State} (h : Judged s latches c t) (hc : u.channel c = t.channel c)
    (ha : KeepsReached t u) : Judged s latches c u :=
  ⟨fun hn => hc.trans (h.1 hn), fun cur hcur hm hh => (h.2 cur hcur hm hh).after hc ha⟩

/-- Under IGNORE a channel that stays as it was has met all that a cutoff asks of it (R126). -/
theorem cutEffect_of_ignore {requests : List BlockRequest} {ch : Channel} {cur : CurrentCue} {latches : Groups} {c : ChannelId}
    {t : State} (hcut : ch.cutoff = .ignore) (hc : t.channel c = ch) : CutEffect requests ch cur latches c t := by
  refine cutEffect_iff.2 ⟨by rw [hc], by rw [hc], fun e => ?_, fun e => ?_, fun e => ?_⟩ <;> rw [hcut] at e <;> cases e

/-- All channels are judged against the latches as they stand (R126). -/
theorem judgeChannels_judged (c : ChannelId) : Judged s s.hold.latches c (judgeChannels (List.finRange 8) s) := by
  have hkept : s.cutoffDue c = false → (judgeChannels (List.finRange 8) s).channel c = s.channel c := fun h =>
    judgeChannels_channel fun _ => h
  refine ⟨fun hn => hkept ?_, fun cur hcur hm hh => ?_⟩
  · cases hcur : (s.channel c).current with
    | none => rw [State.cutoffDue, hcur]
    | some cur =>
      refine cutoffDue_eq_false hcur ?_
      rcases hn with hn | hn | ⟨cur', hcur', hm | hh⟩
      · rw [hcur] at hn; cases hn
      · exact .inr (.inr hn)
      · rw [hcur] at hcur'; cases hcur'; exact .inl hm
      · rw [hcur] at hcur'; cases hcur'; exact .inr (.inl hh)
  · by_cases hcut : (s.channel c).cutoff = .ignore
    · exact cutEffect_of_ignore hcut (hkept (cutoffDue_eq_false hcur (.inr (.inr hcut))))
    · exact judgeChannels_effect (List.nodup_finRange 8) (List.mem_finRange c) (cutoffDue_iff.2 ⟨cur, hcur, hh, hcut, hm⟩) hcur

/-- A group has become latched (R121, R122, R123). -/
structure Latched (s t : State) (g : GroupId) (source : HoldSource) (port : Option PortId) : Prop where
  hold : t.hold = { s.hold with latches := s.hold.latches ||| groupBit g, mirrorWaiting := true }
  memory : t.memory = s.memory
  engine : t.engine = s.engine
  pinTable : t.pinTable = s.pinTable
  timing : t.timing = s.timing
  alerted : Alerted s t
  noticed : ∀ q, (s.port q).role = .control → Reached (.holdChanged g true source port) q t
  judged : ∀ c, Judged s (s.hold.latches ||| groupBit g) c t

theorem setLatch_eq : setLatch g source port s = presentMirror (judgeChannels (List.finRange 8)
    (changeLatches (s.hold.latches ||| groupBit g) (.holdChanged g true source port) s)) := rfl

theorem setLatch_latched : Latched s (setLatch g source port s) g source port := by
  have hafter : ∀ u, Alerted u (presentMirror (judgeChannels (List.finRange 8) u)) := fun u =>
    (judgeChannels_alerted _ u).trans (presentMirror_alerted _)
  rw [setLatch_eq]
  refine ⟨by simp, by simp, by simp, by simp, by simp, (changeLatches_alerted s _ _).trans (hafter _),
    fun q hq => (hafter _).keepsReached _ q (changeLatches_reached s _ _ q hq), fun c => ?_⟩
  have hjudged := judgeChannels_judged (changeLatches (s.hold.latches ||| groupBit g) (.holdChanged g true source port) s) c
  simp only [Judged, changeLatches_channel, changeLatches_store, changeLatches_hold] at hjudged
  exact Judged.after hjudged (by simp [State.channel]) (presentMirror_alerted _).keepsReached

end Latching

/-! ### The requests -/

section Requests
variable {s : State} {p : PortId} {v : Service} {b : Byte} {g : GroupId}

theorem exec_holdGroup (h : Serves s p v (.holdGroup b)) : exec (.holdGroup p) s = .next (groupRequest p b (holdGroupOn p s) s) := by
  obtain ⟨hs, hr⟩ := h
  show Host.Outcome.next (serveHoldGroup p s) = _
  cases v
  cases hr
  rw [serveHoldGroup, hs]

theorem exec_liftGroup (h : Serves s p v (.liftGroup b)) : exec (.liftGroup p) s = .next (groupRequest p b (liftGroupOn p s) s) := by
  obtain ⟨hs, hr⟩ := h
  show Host.Outcome.next (serveLiftGroup p s) = _
  cases v
  cases hr
  rw [serveLiftGroup, hs]

theorem groupRequest_of_group (hb : b.toNat = g.val) (work : GroupId → State) : groupRequest p b work s = work g := by
  have hlt : b.toNat < 4 := by omega
  rw [groupRequest, dif_pos hlt, show (⟨b.toNat, hlt⟩ : GroupId) = g from Fin.ext hb]

theorem groupRequest_of_no_group (hb : 4 ≤ b.toNat) (work : GroupId → State) : groupRequest p b work s = reply p .badField [] s :=
  dif_neg (Nat.not_lt.2 hb)

/-- The part once LIFT_GROUP has cleared a latch, before the reply (R122, R123). -/
def groupLifted (p : PortId) (g : GroupId) (s : State) : State :=
  presentMirror (changeLatches (s.hold.latches &&& ~~~groupBit g) (.holdChanged g false .liftGroup (some p)) s)

theorem groupLifted_alerted (p : PortId) (g : GroupId) (s : State) : Alerted s (groupLifted p g s) :=
  (changeLatches_alerted s _ _).trans (presentMirror_alerted _)

theorem groupLifted_reached (p : PortId) (g : GroupId) (s : State) (q : PortId) (hq : (s.port q).role = .control) :
    Reached (.holdChanged g false .liftGroup (some p)) q (groupLifted p g s) :=
  (presentMirror_alerted _).keepsReached _ q (changeLatches_reached s _ _ q hq)

theorem exec_liftGroup_lifts (h : Serves s p v (.liftGroup b)) (hb : b.toNat = g.val) (hl : hasGroup s.hold.latches g = true)
    (hline : hasGroup s.hold.lines g = false) : exec (.liftGroup p) s = .next (reply p .ok [] (groupLifted p g s)) := by
  rw [exec_liftGroup h, groupRequest_of_group hb, liftGroupOn, if_neg (by simp [hl]), if_neg (by simp [hline])]
  rfl

end Requests

/-! ### The lines -/

section Lines
variable {s : State} {g : GroupId}

/-- The part once a line has risen, before its group is latched (R121). -/
def lineRisen (g : GroupId) (s : State) : State :=
  raiseCause .holdLine { s with hold := { s.hold with lines := s.hold.lines ||| groupBit g } }

@[simp] theorem lineRisen_hold (g : GroupId) (s : State) :
    (lineRisen g s).hold = { s.hold with lines := s.hold.lines ||| groupBit g } := by simp [lineRisen]
@[simp] theorem lineRisen_memory (g : GroupId) (s : State) : (lineRisen g s).memory = s.memory := by simp [lineRisen]
@[simp] theorem lineRisen_engine (g : GroupId) (s : State) : (lineRisen g s).engine = s.engine := by simp [lineRisen]
@[simp] theorem lineRisen_pinTable (g : GroupId) (s : State) : (lineRisen g s).pinTable = s.pinTable := by simp [lineRisen]
@[simp] theorem lineRisen_timing (g : GroupId) (s : State) : (lineRisen g s).timing = s.timing := by simp [lineRisen]
@[simp] theorem lineRisen_ports (g : GroupId) (s : State) : (lineRisen g s).ports = s.ports := by simp [lineRisen]
@[simp] theorem lineRisen_channels (g : GroupId) (s : State) : (lineRisen g s).channels = s.channels := by simp [lineRisen]
@[simp] theorem lineRisen_store (g : GroupId) (s : State) : (lineRisen g s).store = s.store := by simp [lineRisen]

theorem lineRise_of_high (h : hasGroup s.hold.lines g = true) : lineRise g s = s := if_pos h

theorem lineRise_of_low (h : hasGroup s.hold.lines g = false) :
    lineRise g s = if hasGroup s.hold.latches g then lineRisen g s else setLatch g .line none (lineRisen g s) := by
  have hl : (lineRisen g s).hold.latches = s.hold.latches := by rw [lineRisen_hold]
  rw [lineRise, if_neg (by simp [h]), ← hl]
  rfl

end Lines

/-- Settles O36: a latch that is set is judged by all channels, and the reply or the cause of the edge leaves what that made of them. -/
theorem latchingCutsHeldChannels : Obligations.LatchingCutsHeldChannels := by
  intro s i g hclear hi
  rcases hi with ⟨p, v, b, rfl, h, hb⟩ | ⟨rfl, hline⟩
  · have ht := setLatch_latched s g .holdGroup (some p)
    have he : exec (.holdGroup p) s = .next (reply p .ok [Field.flag true] (setLatch g .holdGroup (some p) s)) := by
      rw [exec_holdGroup h, groupRequest_of_group hb, holdGroupOn, if_neg (by simp [hclear])]
    obtain ⟨hsvc, hrep⟩ := replied_after h ht.alerted .ok [Field.flag true]
    generalize setLatch g .holdGroup (some p) s = t at *
    refine ⟨_, he, by simp [ht.hold], by simp [ht.hold], fun p' v' b' e h' => ?_, nofun, by simp [ht.memory], by simp [ht.engine],
      by simp [ht.pinTable], by simp [ht.timing], fun c => ?_⟩
    · cases e
      cases h'.1.symm.trans h.1
      exact ⟨by simp [ht.hold], hsvc, hrep, fun q hq => reached_reply _ _ (ht.noticed q hq)⟩
    · rw [reply_hold, ht.hold]
      exact (ht.judged c).after (reply_channel ..) fun _ _ => reached_reply _ _
  · have ht := setLatch_latched (lineRisen g s) g .line none
    have he : exec (.holdLineRise g) s = .next (setLatch g .line none (lineRisen g s)) :=
      congrArg Host.Outcome.next ((lineRise_of_low hline).trans (if_neg (by simp [hclear])))
    have hport : ∀ q, (lineRisen g s).port q = s.port q := fun q => by simp [State.port]
    have hchannel : ∀ c, (lineRisen g s).channel c = s.channel c := fun c => by simp [State.channel]
    refine ⟨_, he, by simp [ht.hold], by simp [ht.hold], nofun, fun _ => ⟨by simp [ht.hold], fun hw => ?_,
      fun q hq => ht.noticed q (by rw [hport]; exact hq)⟩, by simp [ht.memory], by simp [ht.engine], by simp [ht.pinTable],
      by simp [ht.timing], fun c => ?_⟩
    · exact ht.alerted.flags _ ((hasCause_raiseCause ..).2 (.inr ⟨hw, rfl⟩))
    · have hj := ht.judged c
      simp only [Judged, hchannel, lineRisen_store, lineRisen_hold] at hj
      rw [ht.hold, lineRisen_hold]
      exact hj

/-- Settles O37: the requests by the branches of their tables, the edges by the level at which the line stands. -/
theorem liftsAndFallingEdges : Obligations.LiftsAndFallingEdges := by
  intro s g
  refine ⟨fun p v b hb => ⟨fun h hl => ?_, fun h => ⟨fun hl => ?_, fun hl hline => ?_, fun hl hline => ?_⟩⟩,
    fun p v b hb => ⟨fun h => ?_, fun h => ?_⟩, fun hline hl => ?_, fun hline => ⟨?_, ?_⟩, fun hline => ?_⟩
  · rw [exec_holdGroup h, groupRequest_of_group hb, holdGroupOn, if_pos hl, reply_served h rfl]
  · rw [exec_liftGroup h, groupRequest_of_group hb, liftGroupOn, if_pos (by simp [hl]), reply_served h rfl]
  · rw [exec_liftGroup h, groupRequest_of_group hb, liftGroupOn, if_neg (by simp [hl]), if_pos hline, reply_served h rfl]
  · obtain ⟨hsvc, hrep⟩ := replied_after h (groupLifted_alerted p g s) .ok []
    exact ⟨_, exec_liftGroup_lifts h hb hl hline, by simp [groupLifted], hsvc, hrep,
      fun q hq => reached_reply _ _ (groupLifted_reached p g s q hq), by simp [groupLifted], by simp [groupLifted],
      by simp [groupLifted], by simp [groupLifted], by simp [groupLifted]⟩
  · rw [exec_holdGroup h, groupRequest_of_no_group hb, reply_served h rfl]
  · rw [exec_liftGroup h, groupRequest_of_no_group hb, reply_served h rfl]
  · exact congrArg Host.Outcome.next ((lineRise_of_low hline).trans (if_pos hl))
  · exact congrArg Host.Outcome.next (if_pos hline)
  · exact congrArg Host.Outcome.next (lineRise_of_high hline)
  · exact congrArg Host.Outcome.next (if_neg (by simp [hline]))

end Sys2Proof.Machine
end

-- ==== Proofs: operations and the laws of the units ====
section
/-! The laws of the attention unit, of the ports' queues and credit, and of the pin table (R131, R156, R161, R165, R166, R168, R169), under
each operation of the part: what keeps them is an operation on other blocks, a cause raised, a notice, a reply, and little else. A lemma
for each operation, in the order of the model's files. -/

namespace Sys2Proof.Machine

/-! ### What an operation keeps -/

/-- The laws of the attention unit, of the ports' queues and of the pin table hold on, and no port has gained credit. -/
structure UnitsKept (s t : State) : Prop where
  attention : AttentionLaw s → AttentionLaw t
  alarm : AlarmLaw s → AlarmLaw t
  faults : FaultRecordLaw s → FaultRecordLaw t
  queues : QueueLaw s → QueueLaw t
  credit : ∀ p c, (t.port p).creditFor c ≤ (s.port p).creditFor c
  pins : PinLaw s → PinLaw t

section Rules
variable {s t u : State}

theorem UnitsKept.refl (s : State) : UnitsKept s s := ⟨id, id, id, id, fun _ _ => Nat.le_refl _, id⟩

theorem UnitsKept.trans (h : UnitsKept s t) (g : UnitsKept t u) : UnitsKept s u :=
  ⟨g.attention ∘ h.attention, g.alarm ∘ h.alarm, g.faults ∘ h.faults, g.queues ∘ h.queues,
    fun p c => (g.credit p c).trans (h.credit p c), g.pins ∘ h.pins⟩

/-- The last operation first, where it is what tells the part that it starts from. -/
theorem UnitsKept.after (g : UnitsKept t u) (h : UnitsKept s t) : UnitsKept s u := h.trans g

/-- An operation on the attention unit. -/
theorem UnitsKept.of_attention (h₁ : AttentionLaw s → AttentionLaw t) (h₂ : AlarmLaw s → AlarmLaw t)
    (h₃ : FaultRecordLaw s → FaultRecordLaw t) (hp : t.ports = s.ports := by simp)
    (hpin : t.pinTable = s.pinTable := by simp) : UnitsKept s t := by
  refine ⟨h₁, h₂, h₃, ?_, fun p c => ?_, ?_⟩ <;> simp only [QueueLaw, PinLaw, State.port, hp, hpin, imp_self, le_refl]

/-- An operation on other blocks. -/
theorem UnitsKept.of_eq (hp : t.ports = s.ports := by simp) (ha : t.attention = s.attention := by simp)
    (hpin : t.pinTable = s.pinTable := by simp) : UnitsKept s t := by
  refine .of_attention ?_ ?_ ?_ hp hpin <;> simp only [AttentionLaw, AlarmLaw, FaultRecordLaw, ha, imp_self]

/-- An operation on the pin table. -/
theorem UnitsKept.of_pins (h : PinLaw s → PinLaw t) (hp : t.ports = s.ports := by simp)
    (ha : t.attention = s.attention := by simp) : UnitsKept s t := by
  refine ⟨?_, ?_, ?_, ?_, fun p c => ?_, h⟩ <;>
    simp only [AttentionLaw, AlarmLaw, FaultRecordLaw, QueueLaw, State.port, hp, ha, imp_self, le_refl]

/-- An operation on one port, which keeps the limits of its queues and gains it no credit. -/
theorem UnitsKept.setPort (s : State) (p : PortId) {q : Port} (h : PortLaw (s.port p) → PortLaw q)
    (hc : ∀ c, q.creditFor c ≤ (s.port p).creditFor c := by exact fun _ => Nat.le_refl _) : UnitsKept s (s.setPort p q) := by
  refine ⟨id, id, id, fun hs x => ?_, fun x c => ?_, id⟩ <;> rw [port_setPort] <;> split
  · exact h (hs p)
  · exact hs x
  · next e => rw [e]; exact hc c
  · exact Nat.le_refl _

theorem UnitsKept.foldl {α : Type} (f : State → α → State) (hf : ∀ t a, UnitsKept t (f t a)) (l : List α) (h : UnitsKept s t) :
    UnitsKept s (l.foldl f t) :=
  foldl_keeps (P := UnitsKept s) f (fun t a h => h.trans (hf t a)) l t h

end Rules

/-! ### The attention unit -/

section Attention
variable (s : State)

/-- ATTENTION follows the flags wherever they have changed (R166). -/
theorem attentionLaw_of_follow {t : State} {a : Attention} (h : t.attention = a.follow) : AttentionLaw t := by
  rw [AttentionLaw, h]
  rfl

theorem raiseCause_unitsKept (k : Cause) : UnitsKept s (raiseCause k s) := by
  unfold raiseCause
  split
  · exact .refl s
  · exact .of_attention (fun _ => attentionLaw_of_follow rfl) id id rfl rfl

/-- An alarm-class event sets the ALARM line only together with the suppress latch (R168). -/
theorem alarmed_suppress {a : Attention} (h : a.alarm = true → a.suppress = true) : a.alarmed.alarm = true → a.alarmed.suppress = true := by
  unfold Attention.alarmed
  split
  · exact h
  · exact fun _ => rfl

/-- After an alarm-class event there is a first-fault record, so that the further-kinds set may hold a kind (R169). -/
theorem recorded_record_ne_none (d : FaultDetail) (a : Attention) : (a.recorded d).record ≠ none := by
  unfold Attention.recorded
  split
  · simp
  · next f hf => simp [hf]

theorem recorded_rest (d : FaultDetail) (a : Attention) :
    (a.recorded d).flags = a.flags ∧ (a.recorded d).enables = a.enables ∧ (a.recorded d).attention = a.attention ∧
      (a.recorded d).faultTime = a.faultTime := by
  unfold Attention.recorded
  split <;> exact ⟨rfl, rfl, rfl, rfl⟩

theorem alarmed_unalarmed (a : Attention) :
    a.alarmed.flags = a.flags ∧ a.alarmed.enables = a.enables ∧ a.alarmed.attention = a.attention ∧
      a.alarmed.faultTime = a.faultTime := by
  unfold Attention.alarmed
  split <;> exact ⟨rfl, rfl, rfl, rfl⟩

theorem alarmEvent_unitsKept (d : FaultDetail) : UnitsKept s (alarmEvent d s) := by
  unfold alarmEvent
  split
  · exact .refl s
  · refine (raiseCause_unitsKept s d.cause).trans ?_
    generalize raiseCause d.cause s = t
    obtain ⟨hflags, henables, hattention, htime⟩ := recorded_rest d t.attention.alarmed
    obtain ⟨hflags', henables', hattention', htime'⟩ := alarmed_unalarmed t.attention
    obtain ⟨-, halarm, hsuppress⟩ := recorded_line d t.attention.alarmed
    refine .of_attention (fun h => ?_) (fun h => ?_) (fun h => ?_) rfl rfl
    · simpa only [AttentionLaw, hflags, henables, hattention, hflags', henables', hattention'] using h
    · simpa only [AlarmLaw, halarm, hsuppress] using alarmed_suppress h
    · obtain ⟨-, hend⟩ := h
      refine ⟨fun hn => absurd hn (recorded_record_ne_none d _), ?_⟩
      simpa only [htime, htime'] using hend

theorem advanceFaultTime_unitsKept : UnitsKept s (advanceFaultTime s) := by
  unfold advanceFaultTime
  split
  · exact .refl s
  · exact .of_attention id id (fun h => ⟨h.1, Nat.min_le_right ..⟩) rfl rfl

theorem setStalled_unitsKept (b : Bool) : UnitsKept s (setStalled b s) := .of_attention id id id rfl rfl

theorem stallBegins_unitsKept (block : Nat) : UnitsKept s (stallBegins block s) := by
  unfold stallBegins
  split
  · exact (setStalled_unitsKept s true).trans (alarmEvent_unitsKept _ _)
  · exact .refl s

theorem stallEnds_unitsKept : UnitsKept s (stallEnds s) := by
  unfold stallEnds
  split
  · exact .refl s
  · exact setStalled_unitsKept s false

end Attention

/-! ### Notices, replies and faults -/

section Shared
variable (s : State) (p : PortId)

theorem notify_unitsKept (n : Notice) : UnitsKept s (notify p n s) := by
  unfold notify
  dsimp only
  split
  · next hroom =>
    refine .setPort s p fun ⟨hintake, _, hreplies⟩ => ⟨hintake, ?_, hreplies⟩
    rw [List.length_append]
    exact hroom
  · exact (raiseCause_unitsKept _ _).after (.setPort s p id)

theorem notifyBound_unitsKept (c : ChannelId) (n : Notice) : UnitsKept s (notifyBound c n s) := by
  unfold notifyBound
  split
  · exact notify_unitsKept s _ n
  · exact .refl s

theorem notifyControl_unitsKept (n : Notice) : UnitsKept s (notifyControl n s) :=
  .foldl _ (fun t p => by
    split
    · exact notify_unitsKept t p n
    · exact .refl t) _ (.refl s)

theorem grantJob_unitsKept : UnitsKept s (grantJob s) := .of_eq

theorem finishJob_unitsKept : UnitsKept s (finishJob s) := .of_eq

theorem freeOrder_unitsKept {α : Type} (rank : α → Nat) (l : List α) : UnitsKept s (freeOrder rank l s).2 := .of_eq

/-- A reply takes the room in the queue that its request in service was counted for (R158). -/
theorem reply_unitsKept (code : ReplyCode) (fields : List Field) : UnitsKept s (reply p code fields s) := by
  cases hv : (s.port p).service with
  | none => rw [reply_of_none p code fields s hv]; exact .refl s
  | some v =>
    rw [reply_of_service p v code fields s hv]
    refine .setPort s p fun ⟨hintake, hnotices, hreplies⟩ => ⟨hintake, hnotices, ?_⟩
    simpa [hv] using hreplies

/-- A reply ends an operation that keeps the laws. -/
theorem UnitsKept.replied {s t : State} {p : PortId} {code : ReplyCode} {fields : List Field} (h : UnitsKept s t) :
    UnitsKept s (reply p code fields t) := h.trans (reply_unitsKept t p code fields)

/-- A reply after an operation on other blocks. -/
theorem reply_quiet_unitsKept {s t : State} {p : PortId} {code : ReplyCode} {fields : List Field} (hp : t.ports = s.ports)
    (ha : t.attention = s.attention) (hpin : t.pinTable = s.pinTable) : UnitsKept s (reply p code fields t) :=
  (UnitsKept.of_eq hp ha hpin).replied

theorem linkFault_unitsKept : UnitsKept s (linkFault p s) := by
  unfold linkFault
  exact (raiseCause_unitsKept _ _).after (.setPort s p id)

theorem recordFault_unitsKept (who : Requester) (part : RecordPart) (x : Slot) : UnitsKept s (recordFault who part x s) := by
  unfold recordFault
  exact (UnitsKept.of_eq (t := flagFaulted x s)).trans ((alarmEvent_unitsKept _ _).trans (notifyControl_unitsKept _ _))

theorem noteRepairs_unitsKept (n : Nat) : UnitsKept s (noteRepairs n s) := by
  unfold noteRepairs
  split
  · exact .of_eq
  · exact raiseCause_unitsKept s _

theorem Sifts.unitsKept {F : Slot → Prop} {s t : State} (h : Sifts F s t) : UnitsKept s t := by
  induction h with
  | refl => exact .refl s
  | repaired _ x w n ih => exact (ih.trans .of_eq).trans (noteRepairs_unitsKept (State.writeRecord _ x _) n)
  | faulted _ who part x _ ih => exact ih.trans (recordFault_unitsKept _ who part x)
  | walkFaulted _ x _ ih => exact ih.trans .of_eq

end Shared

/-! ### Channels -/

section Playback
variable (s : State) (c : ChannelId)

theorem endConcealed_unitsKept (b : BufferId) (block : Nat) (failure : Failure) : UnitsKept s (endConcealed c b block failure s) := by
  unfold endConcealed
  split
  · dsimp only
    split
    · split
      · exact .of_eq
      · refine UnitsKept.trans ?_ (notifyBound_unitsKept _ c _)
        exact .of_eq
    · exact .of_eq
  · exact .of_eq

theorem failAttempt_unitsKept (b : BufferId) (failure : Failure) : UnitsKept s (failAttempt c b failure s) := by
  unfold failAttempt
  split
  · exact .refl s
  · split
    · exact .of_eq
    · split
      · exact .of_eq
      · exact endConcealed_unitsKept s c b _ _

theorem endCue_unitsKept (status : CueStatus) : UnitsKept s (endCue c status s) := by
  unfold endCue
  split
  · exact .refl s
  · next cur _ =>
    exact (notifyBound_unitsKept s c (.cueEnded cur.tag status cur.delivered cur.gap cur.concealed)).trans .of_eq

theorem goOn_unitsKept : UnitsKept s (goOn c s) := by
  unfold goOn
  split
  · split
    · exact .of_eq
    · exact .refl s
  · exact (UnitsKept.of_eq (t := enterState c .halted s)).trans (notifyBound_unitsKept _ c _)
  · exact (UnitsKept.of_eq (t := enterState c .stopped s)).trans (notifyBound_unitsKept _ c _)
  · exact .refl s

theorem finishCue_unitsKept : UnitsKept s (finishCue c s) := by
  unfold finishCue
  dsimp only
  split
  · split
    · exact .refl s
    · split
      · exact (endCue_unitsKept s c _).trans (goOn_unitsKept _ c)
      · split
        · exact endCue_unitsKept s c _
        · exact .refl s
  · exact .refl s

theorem stoppingEnd_unitsKept : UnitsKept s (stoppingEnd c s) := by
  unfold stoppingEnd
  dsimp only
  split
  · split
    · exact goOn_unitsKept s c
    · split
      · exact (endCue_unitsKept s c _).trans (goOn_unitsKept _ c)
      · exact (UnitsKept.of_eq (t := keepRemainder c s)).trans (notifyBound_unitsKept _ c _)
  · exact .refl s

theorem settleChannel_unitsKept : UnitsKept s (settleChannel c s) := by
  have hissue : ∀ u, UnitsKept u (assemble c (issueAll c u)) := fun u => .of_eq
  unfold settleChannel
  exact (UnitsKept.of_eq (t := releaseBuffers c s)).trans <| (finishCue_unitsKept _ c).trans <| (hissue _).trans <|
    (stoppingEnd_unitsKept _ c).trans .of_eq

theorem grantAll_unitsKept : UnitsKept s (grantAll s) := .of_eq

theorem settle_unitsKept : UnitsKept s (settle c s) := (settleChannel_unitsKept s c).trans (grantAll_unitsKept _)

theorem stopCue_unitsKept : UnitsKept s (stopCue c s) := by
  unfold stopCue
  split
  · exact .refl s
  · refine (endCue_unitsKept s c .cut).trans (UnitsKept.trans ?_ (notifyBound_unitsKept _ c _))
    exact .of_eq

theorem cutoffEvent_unitsKept : UnitsKept s (cutoffEvent c s) := by
  unfold cutoffEvent
  dsimp only
  split
  · exact .refl s
  · exact stopCue_unitsKept s c
  · split
    · exact endCue_unitsKept s c _
    · exact (endCue_unitsKept s c _).trans (goOn_unitsKept _ c)
  · split
    · exact endCue_unitsKept s c _
    · exact .of_eq

theorem judge_unitsKept : UnitsKept s (judge c s) := by
  unfold judge
  split
  · exact cutoffEvent_unitsKept s c
  · exact .refl s

theorem judgeChannels_unitsKept (l : List ChannelId) : UnitsKept s (judgeChannels l s) := by
  have h := UnitsKept.foldl (fun u c => settleChannel c (judge c u))
    (fun t c => (judge_unitsKept t c).trans (settleChannel_unitsKept _ c)) (freeOrder Fin.val (l.filter fun c => s.cutoffDue c) s).1
    (freeOrder_unitsKept s Fin.val (l.filter fun c => s.cutoffDue c))
  exact h.trans (grantAll_unitsKept _)

end Playback

end Sys2Proof.Machine
end

-- ==== Proofs: the pin table and the jobs at the engine keep the laws of the units ====
section
/-! The pin table under what changes it (R131 to R136), and the jobs of ports and channels at the engine, the walk and the format. -/

namespace Sys2Proof.Machine

/-! ### The pin table -/

/-- What the law of pins says of the pins themselves (R131). -/
structure PinsLawful (pins : List Pin) : Prop where
  few : pins.length ≤ Config.pinLimit
  sorted : pins.Pairwise fun x y => x.rank < y.rank
  running : ∀ x ∈ pins, 1 ≤ x.remaining ∧ x.remaining ≤ 86400

theorem pinLaw_iff {s : State} : PinLaw s ↔ PinsLawful s.pinTable.pins ∧ s.pinTable.prescaler ≤ 999 :=
  ⟨fun ⟨h₁, h₂, h₃, h₄⟩ => ⟨⟨h₁, h₂, h₃⟩, h₄⟩, fun ⟨⟨h₁, h₂, h₃⟩, h₄⟩ => ⟨h₁, h₂, h₃, h₄⟩⟩

section Pins
variable {pins : List Pin} {p : PortId} {x : Slot} {seconds : Nat}

theorem PinsLawful.filter (h : PinsLawful pins) (f : Pin → Bool) : PinsLawful (pins.filter f) :=
  ⟨(List.length_filter_le ..).trans h.few, h.sorted.filter f, fun x hx => h.running x (List.mem_filter.1 hx).1⟩

/-- Pins whose seconds alone change, and stay in range. -/
theorem PinsLawful.map (h : PinsLawful pins) {f : Pin → Pin} (hrank : ∀ y, (f y).rank = y.rank)
    (hr : ∀ y ∈ pins, 1 ≤ (f y).remaining ∧ (f y).remaining ≤ 86400) : PinsLawful (pins.map f) := by
  refine ⟨by simpa using h.few, List.pairwise_map.2 ?_, by simpa using hr⟩
  simpa only [hrank] using h.sorted

/-- The pins that remain of a countdown have a second left at least (R135). -/
theorem PinsLawful.countdown (h : PinsLawful pins) :
    PinsLawful ((pins.filter fun y => 1 < y.remaining).map fun y => { y with remaining := y.remaining - 1 }) := by
  refine (h.filter _).map (fun y => rfl) fun y hy => ?_
  obtain ⟨hmem, hlong⟩ := List.mem_filter.1 hy
  have hrange := h.running y hmem
  have hlong := of_decide_eq_true hlong
  dsimp only
  omega

/-- A pin's place tells its port and slot. -/
theorem rank_eq_iff {y z : Pin} : y.rank = z.rank ↔ y.port = z.port ∧ y.slot = z.slot := by
  have hy := y.slot.isLt
  have hz := z.slot.isLt
  simp only [Pin.rank, Config.slotCount, Fin.ext_iff]
  omega

theorem mem_pinInsert {y z : Pin} : z ∈ pinInsert y pins ↔ z = y ∨ z ∈ pins := by
  induction pins with
  | nil => simp [pinInsert]
  | cons w rest ih =>
    unfold pinInsert
    split
    · simp
    · simp only [List.mem_cons, ih]
      exact or_left_comm

theorem length_pinInsert (y : Pin) (pins : List Pin) : (pinInsert y pins).length = pins.length + 1 := by
  induction pins with
  | nil => rfl
  | cons w rest ih =>
    unfold pinInsert
    split
    · rfl
    · rw [List.length_cons, ih, List.length_cons]

/-- A pin that is put among pins of other places keeps them in order. -/
theorem pairwise_pinInsert {y : Pin} (h : pins.Pairwise fun a b => a.rank < b.rank) (hy : ∀ z ∈ pins, z.rank ≠ y.rank) :
    (pinInsert y pins).Pairwise fun a b => a.rank < b.rank := by
  induction pins with
  | nil => simp [pinInsert]
  | cons w rest ih =>
    obtain ⟨hw, hrest⟩ := List.pairwise_cons.1 h
    have hne : w.rank ≠ y.rank := hy w List.mem_cons_self
    unfold pinInsert
    split
    · next hlt =>
      refine List.pairwise_cons.2 ⟨fun z hz => ?_, h⟩
      rcases List.mem_cons.1 hz with rfl | hz
      · exact hlt
      · exact hlt.trans (hw z hz)
    · next hge =>
      refine List.pairwise_cons.2 ⟨fun z hz => ?_, ih hrest fun z hz => hy z (List.mem_cons_of_mem _ hz)⟩
      rcases mem_pinInsert.1 hz with rfl | hz
      · omega
      · exact hw z hz

theorem isFor_iff {y : Pin} : y.isFor p x = true ↔ y.port = p ∧ y.slot = x := decide_eq_true_iff

theorem findPin_eq_none : findPin p x pins = none ↔ ∀ y ∈ pins, ¬ (y.port = p ∧ y.slot = x) := by
  simp [findPin, isFor_iff]

/-- What the pin table makes of a pin for a port and slot (R133): the pin there is refreshed; or a pin is created, where the table has
room and none is there. -/
theorem pinOrRefresh_cases {created : Bool} {after : List Pin} (h : pinOrRefresh p x seconds pins = some (created, after)) :
    created = false ∧ (findPin p x pins).isSome = true ∧
        after = pins.map (fun y => if y.isFor p x then { y with remaining := seconds } else y) ∨
      created = true ∧ findPin p x pins = none ∧ pins.length < Config.pinLimit ∧
        after = pinInsert { port := p, slot := x, remaining := seconds } pins := by
  unfold pinOrRefresh at h
  split at h
  · next hf => cases h; exact .inl ⟨rfl, hf, rfl⟩
  · next hf =>
    split at h
    · next hl => cases h; exact .inr ⟨rfl, by simpa using hf, hl, rfl⟩
    · cases h

theorem PinsLawful.pinOrRefresh (h : PinsLawful pins) (hs : 1 ≤ seconds ∧ seconds ≤ 86400) {created : Bool} {after : List Pin}
    (e : pinOrRefresh p x seconds pins = some (created, after)) : PinsLawful after := by
  rcases pinOrRefresh_cases e with ⟨-, -, rfl⟩ | ⟨-, hnone, hroom, rfl⟩
  · refine h.map (fun y => by split <;> rfl) fun y hy => ?_
    split
    · exact hs
    · exact h.running y hy
  · refine ⟨by rw [length_pinInsert]; exact hroom, pairwise_pinInsert h.sorted fun z hz e => ?_, fun z hz => ?_⟩
    · exact findPin_eq_none.1 hnone z hz (rank_eq_iff.1 e)
    · rcases mem_pinInsert.1 hz with rfl | hz
      · exact hs
      · exact h.running z hz

end Pins

section PinTable
variable (s : State) (p : PortId)

theorem setPins_unitsKept {pins : List Pin} (h : PinsLawful s.pinTable.pins → PinsLawful pins) : UnitsKept s (s.setPins pins) :=
  .of_pins (fun hs => pinLaw_iff.2 ⟨h (pinLaw_iff.1 hs).1, (pinLaw_iff.1 hs).2⟩) rfl rfl

theorem filterPins_unitsKept (f : Pin → Bool) : UnitsKept s (s.setPins (s.pinTable.pins.filter f)) :=
  setPins_unitsKept s fun h => h.filter f

theorem setPrescaler_unitsKept {n : Nat} (h : n ≤ 999) : UnitsKept s { s with pinTable := { s.pinTable with prescaler := n } } :=
  .of_pins (fun hs => pinLaw_iff.2 ⟨(pinLaw_iff.1 hs).1, h⟩) rfl rfl

theorem sendLapses_unitsKept (cause : LapseCause) (l : List Pin) : UnitsKept s (sendLapses cause l s) :=
  .foldl (fun t (x : Pin) => notify x.port (.pinLapsed x.slot cause) t) (fun t x => notify_unitsKept t x.port _) l (.refl s)

theorem unpin_unitsKept (role : Role) (slot : Slot) (port : Byte) : UnitsKept s (unpin p role slot port s) := by
  unfold unpin
  split
  · dsimp only
    split
    · split
      · exact reply_unitsKept s p _ _
      · exact (filterPins_unitsKept s _).replied
    · exact reply_unitsKept s p _ _
  · exact reply_unitsKept s p _ _

theorem countPins_unitsKept : UnitsKept s (countPins s) := by
  unfold countPins
  exact (setPins_unitsKept s fun h => h.countdown).trans ((freeOrder_unitsKept _ _ _).trans (sendLapses_unitsKept _ _ _))

theorem tickPins_unitsKept : UnitsKept s (tickPins s) := by
  unfold tickPins
  split
  · exact (setPrescaler_unitsKept s (Nat.zero_le _)).trans (countPins_unitsKept _)
  · exact setPrescaler_unitsKept s (by omega)

theorem tick_unitsKept : UnitsKept s (tick s) := by
  have htimers : ∀ t, UnitsKept t (tickTimers t) := fun t => .of_eq rfl rfl rfl
  exact (advanceFaultTime_unitsKept s).trans ((htimers _).trans (tickPins_unitsKept _))

end PinTable

/-! ### Holds -/

section Holds
variable (s : State) (p : PortId)

theorem writeHolds_unitsKept (x : Slot) (groups itemHold : Byte) : UnitsKept s (writeHolds x groups itemHold s) := by
  unfold writeHolds
  refine (judgeChannels_unitsKept _ _).after (.foldl (copyHolds groups itemHold) (fun t c => .of_eq rfl rfl rfl) _ ?_)
  exact .of_eq rfl rfl rfl

theorem presentMirror_unitsKept : UnitsKept s (presentMirror s) := .of_eq

theorem setLatch_unitsKept (g : GroupId) (source : HoldSource) (port : Option PortId) : UnitsKept s (setLatch g source port s) := by
  unfold setLatch
  exact (presentMirror_unitsKept _).after <| (judgeChannels_unitsKept _ _).after <|
    (notifyControl_unitsKept _ _).after (.of_eq rfl rfl rfl)

theorem holdGroupOn_unitsKept (g : GroupId) : UnitsKept s (holdGroupOn p s g) := by
  unfold holdGroupOn
  split
  · exact reply_unitsKept s p _ _
  · exact (setLatch_unitsKept s _ _ _).replied

theorem liftGroupOn_unitsKept (g : GroupId) : UnitsKept s (liftGroupOn p s g) := by
  unfold liftGroupOn
  split
  · exact reply_unitsKept s p _ _
  · split
    · exact reply_unitsKept s p _ _
    · exact (reply_unitsKept _ _ _ _).after <| (presentMirror_unitsKept _).after <|
        (notifyControl_unitsKept _ _).after (.of_eq rfl rfl rfl)

theorem groupRequest_unitsKept (group : Byte) (work : GroupId → State) (h : ∀ g, UnitsKept s (work g)) :
    UnitsKept s (groupRequest p group work s) := by
  unfold groupRequest
  split
  · exact h _
  · exact reply_unitsKept s p _ _

theorem lineRise_unitsKept (g : GroupId) : UnitsKept s (lineRise g s) := by
  unfold lineRise
  split
  · exact .refl s
  · have h : UnitsKept s (raiseCause .holdLine (s.setHold { s.hold with lines := s.hold.lines ||| groupBit g })) :=
      (raiseCause_unitsKept _ _).after (.of_eq rfl rfl rfl)
    dsimp only
    split
    · exact h
    · exact h.trans (setLatch_unitsKept _ _ _ _)

theorem lineFall_unitsKept (g : GroupId) : UnitsKept s (lineFall g s) := by
  unfold lineFall
  split
  · exact (raiseCause_unitsKept _ _).after (.of_eq rfl rfl rfl)
  · exact .refl s

theorem serveMirrorWrite_unitsKept : UnitsKept s (serveMirrorWrite s) := by
  unfold serveMirrorWrite
  split
  · refine (finishJob_unitsKept _).after ?_
    split <;> exact .of_eq rfl rfl rfl
  · exact .refl s

end Holds

/-! ### The jobs of ports -/

section Jobs
variable (s : State) (p : PortId)

theorem lookup_unitsKept (key : Key) : UnitsKept s (lookup (recordFault (.port p) .key) key s).2 :=
  lookup_keeps (P := UnitsKept s) (fun n x r t ht => (ht.trans .of_eq).trans (noteRepairs_unitsKept (t.writeRecord x r) n)) _
    (fun x t ht => ht.trans (recordFault_unitsKept t _ _ x)) key s (.refl s)

theorem withItem_unitsKept (key : Key) (words : List RecordWord) (faulted : State → List Field) (work : Slot → State → State)
    (h : ∀ x t, UnitsKept t (work x t)) : UnitsKept s (withItem p key words faulted work s) :=
  withItem_keeps (P := UnitsKept s) (fun n x r t ht => (ht.trans .of_eq).trans (noteRepairs_unitsKept (t.writeRecord x r) n))
    (fun who part x t ht => ht.trans (recordFault_unitsKept t who part x)) (fun _ _ _ _ ht => ht.replied) p key words faulted work
    (fun x t ht => ht.trans (h x t)) s (.refl s)

theorem enterItemJob_unitsKept (key : Key) (rate channels sampleBytes length : Nat) :
    UnitsKept s (enterItemJob p key rate channels sampleBytes length s) := by
  have hl := lookup_unitsKept s p key
  unfold enterItemJob
  split
  · exact reply_unitsKept s p _ _
  · split
    · next e => rw [e] at hl; exact hl.replied
    · next e => rw [e] at hl; exact hl.replied
    · next e =>
      rw [e] at hl
      split
      · exact hl.replied
      · exact hl.trans (reply_quiet_unitsKept rfl rfl rfl)

/-! The next ones reply in each branch, after one write to the item's record at most. -/

theorem openPassOn_unitsKept (x : Slot) : UnitsKept s (openPassOn p x s) := by
  unfold openPassOn
  dsimp only
  split
  · exact reply_unitsKept s p _ _
  · split <;> exact reply_quiet_unitsKept rfl rfl rfl

theorem addExtentOn_unitsKept (j : Fin 4) (e : Extent) (x : Slot) : UnitsKept s (addExtentOn p j e x s) := by
  unfold addExtentOn
  dsimp only
  split_ifs <;> exact reply_quiet_unitsKept rfl rfl rfl

theorem closePassOn_unitsKept (j : Fin 4) (n : Nat) (x : Slot) : UnitsKept s (closePassOn p j n x s) := by
  unfold closePassOn
  dsimp only
  split_ifs <;> exact reply_quiet_unitsKept rfl rfl rfl

theorem withdrawPassOn_unitsKept (role : Role) (j : Fin 4) (x : Slot) : UnitsKept s (withdrawPassOn p role j x s) := by
  unfold withdrawPassOn
  dsimp only
  split_ifs <;> exact reply_quiet_unitsKept rfl rfl rfl

theorem spliceOn_unitsKept (a b : Nat) (source : Source) (x : Slot) : UnitsKept s (spliceOn p a b source x s) := by
  unfold spliceOn
  dsimp only
  split
  · exact reply_unitsKept s p _ _
  · split_ifs <;> exact reply_quiet_unitsKept rfl rfl rfl

theorem releaseItemOn_unitsKept (x : Slot) : UnitsKept s (releaseItemOn p x s) := by
  unfold releaseItemOn
  dsimp only
  split_ifs <;> exact reply_quiet_unitsKept rfl rfl rfl

theorem reopenItemOn_unitsKept (x : Slot) : UnitsKept s (reopenItemOn p x s) := by
  unfold reopenItemOn
  dsimp only
  split_ifs <;> exact reply_quiet_unitsKept rfl rfl rfl

theorem retireItemOn_unitsKept (x : Slot) : UnitsKept s (retireItemOn p x s) := by
  unfold retireItemOn
  dsimp only
  split
  · exact reply_unitsKept s p _ _
  · split
    · exact reply_unitsKept s p _ _
    · split
      · exact reply_unitsKept s p _ _
      · split <;> exact reply_quiet_unitsKept rfl rfl rfl

theorem holdItemOn_unitsKept (x : Slot) : UnitsKept s (holdItemOn p x s) := by
  unfold holdItemOn
  dsimp only
  split
  · exact reply_unitsKept s p _ _
  · exact (writeHolds_unitsKept s x _ _).replied

theorem liftItemOn_unitsKept (x : Slot) : UnitsKept s (liftItemOn p x s) := by
  unfold liftItemOn
  dsimp only
  split
  · exact (writeHolds_unitsKept s x _ _).replied
  · exact reply_unitsKept s p _ _

theorem pinItemOn_unitsKept (role : Role) {seconds : Nat} (hs : 1 ≤ seconds ∧ seconds ≤ 86400) (x : Slot) :
    UnitsKept s (pinItemOn p role seconds x s) := by
  unfold pinItemOn
  split
  · exact reply_unitsKept s p _ _
  · split
    · exact reply_unitsKept s p _ _
    · next e => exact (setPins_unitsKept s fun h => h.pinOrRefresh hs e).replied

theorem restoreItemJob_unitsKept (x : Slot) (image : List Byte) : UnitsKept s (restoreItemJob p x image s) := by
  have hl := lookup_unitsKept s p (parseImage image).key
  unfold restoreItemJob
  dsimp only
  split
  · exact reply_unitsKept s p _ _
  · split_ifs
    · exact reply_unitsKept s p _ _
    · exact reply_unitsKept s p _ _
    · split
      · next e => rw [e] at hl; exact hl.replied
      · next e => rw [e] at hl; exact hl.trans (reply_quiet_unitsKept rfl rfl rfl)

theorem discardItemJob_unitsKept (x : Slot) : UnitsKept s (discardItemJob p x s) := by
  unfold discardItemJob
  split_ifs
  · exact reply_unitsKept s p _ _
  · exact reply_unitsKept s p _ _
  · exact ((filterPins_unitsKept s _).trans (sendLapses_unitsKept _ .discarded _)).trans (reply_quiet_unitsKept rfl rfl rfl)

/-- Every catalogue job but a format. -/
theorem job_unitsKept (r : Request) (role : Role) (hj : r.presentsJob = true) : UnitsKept s (r.job p role s) := by
  cases r with
  | enterItem key rate ch sb len => exact enterItemJob_unitsKept s p key _ _ _ _
  | findItem key => exact withItem_unitsKept s p key _ _ _ fun x t => reply_unitsKept t p _ _
  | describeItem key => exact withItem_unitsKept s p key _ _ _ fun x t => reply_unitsKept t p _ _
  | releaseItem key => exact withItem_unitsKept s p key _ _ _ fun x t => releaseItemOn_unitsKept t p x
  | reopenItem key => exact withItem_unitsKept s p key _ _ _ fun x t => reopenItemOn_unitsKept t p x
  | splice key a b kind pass offset =>
    simp only [Request.job, spliceJob]
    split
    · exact reply_unitsKept s p _ _
    · exact withItem_unitsKept s p key _ _ _ fun x t => spliceOn_unitsKept t p _ _ _ x
  | openPass key => exact withItem_unitsKept s p key _ _ _ fun x t => openPassOn_unitsKept t p x
  | addExtent key pass start count =>
    simp only [Request.job, addExtentJob]
    split_ifs
    · exact withItem_unitsKept s p key _ _ _ fun x t => addExtentOn_unitsKept t p _ _ x
    · exact reply_unitsKept s p _ _
    · exact reply_unitsKept s p _ _
  | closePass key pass length =>
    simp only [Request.job, closePassJob]
    split_ifs
    · exact withItem_unitsKept s p key _ _ _ fun x t => closePassOn_unitsKept t p _ _ x
    · exact reply_unitsKept s p _ _
    · exact reply_unitsKept s p _ _
  | withdrawPass key pass =>
    simp only [Request.job, withdrawPassJob]
    split_ifs
    · exact withItem_unitsKept s p key _ _ _ fun x t => withdrawPassOn_unitsKept t p role _ x
    · exact reply_unitsKept s p _ _
  | holdItem key => exact withItem_unitsKept s p key _ _ _ fun x t => holdItemOn_unitsKept t p x
  | liftItem key => exact withItem_unitsKept s p key _ _ _ fun x t => liftItemOn_unitsKept t p x
  | setGroups key set =>
    simp only [Request.job, setGroupsJob]
    split_ifs
    · exact withItem_unitsKept s p key _ _ _ fun x t => (writeHolds_unitsKept t x _ _).replied
    · exact reply_unitsKept s p _ _
  | retireItem key => exact withItem_unitsKept s p key _ _ _ fun x t => retireItemOn_unitsKept t p x
  | restoreItem slot image => exact restoreItemJob_unitsKept s p _ image
  | discardItem slot => exact discardItemJob_unitsKept s p _
  | pinItem key seconds =>
    exact withItem_unitsKept s p key _ _ _ fun x t => pinItemOn_unitsKept t p role (of_decide_eq_true hj) x
  | formatCatalogue => exact .refl s
  | unpinItem | bindChannel | queueCue | stopChannel | haltChannel | resumeChannel | clearCut | flushChannel | setLanes | setCutoff
  | channelStatus | holdGroup | liftGroup | storeReset | ackAttention | setAttentionMask | attentionSummary | rearmAlarm
  | readFaultRecord | clearFaultRecord | assignRole | setTiming => cases hj

end Jobs

/-! ### The jobs of channels -/

section ChannelJobs
variable (s : State) (c : ChannelId)

theorem settled_unitsKept {s t : State} (h : UnitsKept s t) : UnitsKept s (finishJob (settle c t)) :=
  (h.trans (settle_unitsKept t c)).trans (finishJob_unitsKept _)

theorem skipCue_unitsKept (cue : Cue) (reason : SkipReason) : UnitsKept s (skipCue c cue reason s) := by
  unfold skipCue
  exact (goOn_unitsKept _ c).after ((notifyBound_unitsKept _ c _).after (.of_eq rfl rfl rfl))

theorem takeStart_unitsKept (cue : Cue) (discard : Bool) (answer : StartAnswer) : UnitsKept s (takeStart c cue discard answer s) := by
  unfold takeStart
  split
  · split
    · exact .of_eq
    · exact (UnitsKept.of_eq (t := endJob c s)).trans (skipCue_unitsKept _ c _ _)
  · dsimp only
    split
    · exact .of_eq rfl rfl rfl
    · exact (judge_unitsKept _ c).after (.of_eq rfl rfl rfl)

theorem serveStart_unitsKept : UnitsKept s (serveStart c s) := by
  unfold serveStart
  split
  · next cue role ignore discard _ =>
    split
    · obtain ⟨answer, t, e, ht, -⟩ := judgeStart_cases s c cue role ignore
      rw [e]
      exact settled_unitsKept c (ht.unitsKept.trans (takeStart_unitsKept t c cue discard answer))
    · exact .refl s
  · exact .refl s

theorem takeSegment_unitsKept (frame : Nat) (discard : Bool) (answer : Option Run) :
    UnitsKept s (takeSegment c frame discard answer s) := by
  unfold takeSegment
  dsimp only
  split
  · exact .of_eq
  · split <;> exact .of_eq rfl rfl rfl

theorem serveSegment_unitsKept : UnitsKept s (serveSegment c s) := by
  unfold serveSegment
  split
  · next frame stop discard _ =>
    split
    · have hsift := judgeSegment_sifts s c frame stop
      cases e : judgeSegment c frame stop s with
      | mk answer t =>
        rw [e] at hsift
        exact settled_unitsKept c (hsift.unitsKept.trans (takeSegment_unitsKept t c frame discard answer))
    · exact .refl s
  · exact .refl s

theorem drain_unitsKept (x : Slot) : UnitsKept s (drain c x s) := by
  have hstate := (readWords_sifts (fun _ => True) s x [.state]).unitsKept
  unfold drain
  split
  · exact .refl s
  · split
    · next e => rw [e] at hstate; exact hstate.trans (recordFault_unitsKept _ _ _ x)
    · next t e =>
      rw [e] at hstate
      have hrest := (readWords_sifts (fun _ => True) t x (.key :: .retiring :: passWords)).unitsKept
      split
      · split
        · next e' => rw [e'] at hrest; exact (hstate.trans hrest).trans (recordFault_unitsKept _ _ _ x)
        · next u e' =>
          rw [e'] at hrest
          have hfree : UnitsKept s (freeSlot x (u.record x).freeRetired u) := (hstate.trans hrest).trans (.of_eq rfl rfl rfl)
          dsimp only
          split
          · exact hfree.trans (notify_unitsKept _ _ _)
          · exact hfree
      · exact hstate

theorem emptyEntry_unitsKept : UnitsKept s (emptyEntry c s) := by
  unfold emptyEntry
  split
  · exact .refl s
  · dsimp only
    split
    · exact (drain_unitsKept _ c _).after (.of_eq rfl rfl rfl)
    · exact .of_eq rfl rfl rfl

theorem serveDisengage_unitsKept : UnitsKept s (serveDisengage c s) := by
  unfold serveDisengage
  split
  · split
    · exact settled_unitsKept c ((emptyEntry_unitsKept s c).trans .of_eq)
    · exact .refl s
  · exact .refl s

end ChannelJobs

/-! ### The walk and the format -/

section Walk
variable (s : State) (p : PortId)

theorem walkDone_unitsKept (cause : WalkCause) (offline : Bool) (counts : WalkCounts) :
    UnitsKept s (walkDone cause offline counts s) := by
  have h : UnitsKept s { raiseCause .walkDone s with
      attention := { (raiseCause .walkDone s).attention with faultTime := 0, offline := offline } } :=
    (raiseCause_unitsKept s .walkDone).trans (.of_attention id id (fun h => ⟨h.1, Nat.zero_le _⟩) rfl rfl)
  unfold walkDone
  dsimp only
  split
  · exact (h.trans (alarmEvent_unitsKept _ _)).trans (notifyControl_unitsKept _ _)
  · exact h.trans (notifyControl_unitsKept _ _)

theorem walkEnds_unitsKept (offline : Bool) : UnitsKept s (walkEnds offline s) := by
  unfold walkEnds
  exact (grantJob_unitsKept _).after ((walkDone_unitsKept _ _ _ _).after (.of_eq rfl rfl rfl))

theorem walkLast_unitsKept : UnitsKept s (walkLast s) := by
  unfold walkLast
  split
  · split
    · exact walkEnds_unitsKept s _
    · exact .refl s
  · exact .refl s

theorem headerRead_unitsKept : UnitsKept s (headerRead s) := by
  have hread : UnitsKept s (readHeaderWords s).2 := (noteRepairs_unitsKept _ _).after (.of_eq rfl rfl rfl)
  unfold headerRead
  split
  · dsimp only
    split
    · exact hread.trans (.of_eq rfl rfl rfl)
    · exact hread.trans (walkEnds_unitsKept _ _)
  · exact .refl s

theorem placeSound_unitsKept (x : Slot) : UnitsKept s (placeSound x s) := by
  have hl : UnitsKept s (lookup walkLinkedFault (s.record x).key s).2 :=
    lookup_keeps (P := UnitsKept s) (fun n x r t ht => (ht.trans .of_eq).trans (noteRepairs_unitsKept (t.writeRecord x r) n))
      walkLinkedFault (fun x t ht => ht.trans .of_eq) _ s (.refl s)
  unfold placeSound
  dsimp only
  split
  · next e => rw [e] at hl; exact hl.trans (.of_eq rfl rfl rfl)
  · next e => rw [e] at hl; exact hl.trans (.of_eq rfl rfl rfl)

theorem placeSlot_unitsKept (x : Slot) : UnitsKept s (placeSlot x s) := by
  have hstate := (readWord_sifts (fun _ => True) s x .state).unitsKept
  unfold placeSlot
  split
  · next e => rw [e] at hstate; exact hstate.trans (.of_eq rfl rfl rfl)
  · next t e =>
    rw [e] at hstate
    refine hstate.trans ?_
    split
    · exact .of_eq rfl rfl rfl
    · exact .of_eq rfl rfl rfl
    · exact .of_eq rfl rfl rfl
    all_goals
      have hrest := (readWords_sifts (fun _ => True) t x wordsBesideState).unitsKept
      split
      · next e' => rw [e'] at hrest; exact hrest.trans (.of_eq rfl rfl rfl)
      · next u e' =>
        rw [e'] at hrest
        split
        · exact hrest.trans (.of_eq rfl rfl rfl)
        · exact hrest.trans (placeSound_unitsKept u x)

theorem walkOne_unitsKept : UnitsKept s (walkOne s) := by
  unfold walkOne
  split
  · split
    · exact (placeSlot_unitsKept s _).trans (.of_eq rfl rfl rfl)
    · exact .refl s
  · exact .refl s

theorem formatBegins_unitsKept : UnitsKept s (formatBegins p s) := by
  unfold formatBegins answerStarting
  refine .foldl _ (fun t q => ?_) _ (.of_pins (fun hs => ⟨Nat.zero_le _, List.Pairwise.nil, nofun, hs.2.2.2⟩) rfl rfl)
  split
  · exact reply_unitsKept t q _ _
  · exact .refl t

theorem formatEnds_unitsKept : UnitsKept s (formatEnds p s) := by
  unfold formatEnds
  exact (grantJob_unitsKept _).after ((reply_unitsKept _ _ _ _).after ((walkDone_unitsKept _ _ _ _).after (.of_eq rfl rfl rfl)))

theorem completeFormat_unitsKept : UnitsKept s (completeFormat s) := by
  unfold completeFormat
  split
  · exact formatEnds_unitsKept s _
  · exact .refl s

end Walk

end Sys2Proof.Machine
end

-- ==== Proofs: every step keeps the laws of the units ====
section
/-! The requests that present no job, the store reader and the links; and so every command but the arrival of credit and a reset keeps the
laws of the units and gains no port credit. The law of credit (R156, R161) then rests on the bindings, and the ranges of the timing
settings (R163) on SET_TIMING. -/

namespace Sys2Proof.Machine

/-! ### Requests on channels -/

section Requests
variable (s : State) (c : ChannelId) (p : PortId)

theorem releaseChannel_unitsKept : UnitsKept s (releaseChannel c s) := by
  have hletGo : ∀ t, UnitsKept t (letGo c t) := fun t => .of_eq
  unfold releaseChannel
  exact (hletGo _).after ((endCue_unitsKept _ c _).after (.of_eq rfl rfl rfl))

theorem clearCredit_unitsKept (q : PortId) : UnitsKept s (clearCredit q c s) := by
  refine .setPort s q id fun d => ?_
  rw [creditFor_withCredit]
  split
  · exact Nat.zero_le _
  · exact Nat.le_refl _

theorem dropOldCredit_unitsKept : UnitsKept s (dropOldCredit c s) := by
  unfold dropOldCredit
  split
  · exact clearCredit_unitsKept s c _
  · exact .refl s

theorem bindTo_unitsKept (q : PortId) : UnitsKept s (bindTo c q s) := by
  unfold bindTo
  exact (dropOldCredit_unitsKept s c).trans ((clearCredit_unitsKept _ c q).trans (.of_eq rfl rfl rfl))

theorem unbind_unitsKept (q : PortId) : UnitsKept s (unbind q c s) := by
  unfold unbind
  exact (releaseChannel_unitsKept s c).trans <| (clearCredit_unitsKept _ c q).trans <|
    (settle_unitsKept _ c).after (.of_eq rfl rfl rfl)

/-- A channel settles after an operation, and the request is answered. -/
theorem settledReply_unitsKept {s t : State} {c : ChannelId} {p : PortId} {code : ReplyCode} {fields : List Field}
    (h : UnitsKept s t) : UnitsKept s (reply p code fields (settle c t)) := (h.trans (settle_unitsKept t c)).replied

theorem bindChannel_unitsKept (port : Byte) : UnitsKept s (bindChannel p port s c) := by
  unfold bindChannel
  dsimp only
  split
  · split
    · exact reply_unitsKept s p _ _
    · exact settledReply_unitsKept ((releaseChannel_unitsKept s c).trans (bindTo_unitsKept _ c _))
  · exact reply_unitsKept s p _ _

theorem queueCue_unitsKept (cue : Cue) : UnitsKept s (queueCue p cue s c) := by
  unfold queueCue
  dsimp only
  split
  · exact reply_unitsKept s p _ _
  · exact settledReply_unitsKept (.of_eq rfl rfl rfl)

theorem stopChannel_unitsKept : UnitsKept s (stopChannel p s c) := by
  unfold stopChannel wrongState
  split
  · exact settledReply_unitsKept .of_eq
  · exact reply_unitsKept s p _ _

theorem haltChannel_unitsKept : UnitsKept s (haltChannel p s c) := by
  unfold haltChannel wrongState
  dsimp only
  split
  · split
    · exact settledReply_unitsKept .of_eq
    · exact settledReply_unitsKept ((notifyBound_unitsKept _ c _).after .of_eq)
  · exact reply_unitsKept s p _ _

theorem resumeChannel_unitsKept : UnitsKept s (resumeChannel p s c) := by
  unfold resumeChannel wrongState
  dsimp only
  split
  · exact settledReply_unitsKept .of_eq
  · exact reply_unitsKept s p _ _

theorem clearCut_unitsKept : UnitsKept s (clearCut p s c) := by
  unfold clearCut
  split <;> exact reply_quiet_unitsKept rfl rfl rfl

theorem flushChannel_unitsKept : UnitsKept s (flushChannel p s c) := by
  unfold flushChannel wrongState
  dsimp only
  split
  · exact reply_unitsKept s p _ _
  · exact settledReply_unitsKept ((endCue_unitsKept _ c _).after (.of_eq rfl rfl rfl))

theorem setLanes_unitsKept (count word : Nat) (entries : List Byte) : UnitsKept s (setLanes p count word entries s c) := by
  unfold setLanes
  dsimp only
  split_ifs
  · exact reply_unitsKept s p _ _
  · exact reply_unitsKept s p _ _
  · exact reply_unitsKept s p _ _
  · split <;> exact reply_quiet_unitsKept rfl rfl rfl

theorem setCutoff_unitsKept (behaviour : Byte) : UnitsKept s (setCutoff p behaviour s c) := by
  unfold setCutoff
  dsimp only
  split
  · exact reply_unitsKept s p _ _
  · split_ifs
    · exact reply_unitsKept s p _ _
    · exact settledReply_unitsKept ((judge_unitsKept _ c).after (.of_eq rfl rfl rfl))
    · exact reply_quiet_unitsKept rfl rfl rfl

theorem channelStatus_unitsKept (role : Role) : UnitsKept s (channelStatus p role s c) := by
  unfold channelStatus
  split <;> exact reply_unitsKept s p _ _

/-! ### Attention, roles and timing -/

theorem acknowledge_unitsKept (causes : CauseSet) : UnitsKept s (acknowledge p causes s) := by
  have hack : UnitsKept s (s.setAttention (s.attention.acknowledge causes)) :=
    .of_attention (fun _ => attentionLaw_of_follow rfl) id id rfl rfl
  have hport : ∀ t q, (clearLinkFaults t).port q = { t.port q with linkFault := false } := fun t q => rowGet_map ..
  have hclear : ∀ t, UnitsKept t (clearLinkFaults t) := fun t =>
    ⟨id, id, id, fun h q => by rw [hport]; exact h q, fun q d => by rw [hport]; exact Nat.le_refl _, id⟩
  unfold acknowledge
  dsimp only
  split
  · exact (hack.trans (hclear _)).replied
  · exact hack.replied

theorem setMask_unitsKept (enables : CauseSet) : UnitsKept s (setMask p enables s) :=
  UnitsKept.replied (.of_attention (fun _ => attentionLaw_of_follow rfl) id id rfl rfl)

theorem setRole_unitsKept (f : Pin → Bool) (role : Role) :
    UnitsKept s ((s.setPins (s.pinTable.pins.filter f)).setPort p { s.port p with role := role }) :=
  (filterPins_unitsKept s f).trans (.setPort (s.setPins _) p id)

theorem assignRole_unitsKept (target : PortId) (role : Role) : UnitsKept s (assignRole p target role s) := by
  unfold assignRole
  dsimp only
  split
  · exact reply_unitsKept s p _ _
  · have h := UnitsKept.foldl (fun w c => unbind target c w) (fun t c => unbind_unitsKept t c target)
      (freeOrder Fin.val (s.boundTo target) s).1 (freeOrder_unitsKept s Fin.val (s.boundTo target))
    exact (h.trans (setRole_unitsKept _ target _ role)).replied

theorem setTiming_unitsKept (collection read retry : Nat) : UnitsKept s (setTiming p collection read retry s) := by
  unfold setTiming
  split_ifs <;> exact reply_quiet_unitsKept rfl rfl rfl

end Requests

/-! ### The store reader -/

section Store
variable (s : State) (c : ChannelId)

theorem afterAnswer_unitsKept : UnitsKept s (afterAnswer c s) := (grantAll_unitsKept s).trans (settle_unitsKept _ c)

theorem answerTag_unitsKept (tag : Byte) (attempt : ChannelId → BufferId → State → State)
    (h : ∀ c b t, UnitsKept t (attempt c b t)) : UnitsKept s (answerTag tag attempt s) := by
  unfold answerTag
  split
  · unfold answerSlot
    split
    · exact .refl s
    · exact (grantAll_unitsKept _).after ((stallEnds_unitsKept _).after (.of_eq rfl rfl rfl))
    · exact (afterAnswer_unitsKept _ _).after ((h _ _ _).after (.of_eq rfl rfl rfl))
  · exact .refl s

theorem slotTimeout_unitsKept (g : ReadTag) : UnitsKept s (slotTimeout g s) := by
  unfold slotTimeout
  split
  · exact (afterAnswer_unitsKept _ _).after <| (stallBegins_unitsKept _ _).after <|
      (failAttempt_unitsKept _ _ _ _).after (.of_eq rfl rfl rfl)
  · exact .refl s

theorem cancelSlots_unitsKept (l : List (ReadTag × ChannelId × BufferId)) (acc : Nat × State) :
    UnitsKept acc.2 (l.foldl cancelSlot acc).2 := by
  induction l generalizing acc with
  | nil => exact .refl _
  | cons x rest ih =>
    have h : UnitsKept acc.2 (cancelSlot acc x).2 := (failAttempt_unitsKept _ _ _ _).after (.of_eq rfl rfl rfl)
    exact h.trans (ih _)

theorem resetStore_unitsKept : UnitsKept s (resetStore s).2 := by
  have horder := freeOrder_unitsKept s (fun x : ReadTag × ChannelId × BufferId => x.1.val) s.activeSlots
  unfold resetStore
  cases hf : freeOrder (fun x : ReadTag × ChannelId × BufferId => x.1.val) s.activeSlots s with
  | mk order t =>
    rw [hf] at horder
    have hcancel := cancelSlots_unitsKept order (0, t)
    cases hs : order.foldl cancelSlot (0, t) with
    | mk n u =>
      rw [hs] at hcancel
      have hgrant : UnitsKept u (grantAll (stallEnds (clearStale u))) :=
        (grantAll_unitsKept _).after ((stallEnds_unitsKept _).after (.of_eq rfl rfl rfl))
      simp only [hs]
      exact (UnitsKept.foldl (fun w (x : ReadTag × ChannelId × BufferId) => settleChannel x.2.1 w)
        (fun t x => settleChannel_unitsKept t x.2.1) order ((horder.trans hcancel).trans hgrant)).trans (grantAll_unitsKept _)

theorem waitTimeout_unitsKept : UnitsKept s (waitTimeout c s) := by
  have hexpire : ∀ cur, UnitsKept s (expireWait c cur s) := fun cur => by
    have h : UnitsKept s (notifyBound c (.collectionTimeout cur.tag cur.next) (keepRemainder c s)) :=
      (notifyBound_unitsKept _ c _).after .of_eq
    unfold expireWait
    dsimp only
    refine (settle_unitsKept _ c).after ?_
    split_ifs
    · exact (h.trans (endCue_unitsKept _ c _)).trans (judge_unitsKept _ c)
    · exact h.trans (judge_unitsKept _ c)
    · exact h.trans (endCue_unitsKept _ c _)
    · exact h
  unfold waitTimeout
  dsimp only
  split
  · split
    · exact hexpire _
    · exact .refl s
  · exact .refl s

end Store

/-! ### The links -/

section Links
variable (s : State) (p : PortId)

/-- A request in service counts for one reply (R158). -/
theorem service_count_le (q : Port) : (if q.service.isSome then 1 else 0) ≤ 1 := by split <;> omega

/-- What arrives joins the intake where it has room, or is answered BUSY where the replies leave room (R157). -/
theorem takeIn_unitsKept (body : List Byte) : UnitsKept s (takeIn p body s) := by
  unfold takeIn
  dsimp only
  split_ifs with _ hintake hreplies
  · exact linkFault_unitsKept s p
  · refine .setPort s p fun ⟨_, hnotices, hreplies⟩ => ⟨?_, hnotices, hreplies⟩
    rw [List.length_append]
    exact hintake
  · refine .setPort s p fun ⟨hintake, hnotices, _⟩ => ⟨hintake, hnotices, ?_⟩
    rw [Port.queueReply, List.length_append]
    exact Nat.add_le_add (Nat.succ_le_succ hreplies) (service_count_le (s.port p))
  · exact linkFault_unitsKept s p

/-- A port that has no request in service and at most 3 replies has room for one more, given at once or by the request it takes up
(R158). -/
theorem judgeRequest_unitsKept (body : List Byte) (hs : (s.port p).service = none) (hr : (s.port p).replies.length ≤ 3) :
    UnitsKept s (judgeRequest p body s) := by
  have hrefuse : ∀ r, UnitsKept s (s.setPort p ((s.port p).queueReply r)) := fun r => by
    refine .setPort s p fun ⟨hintake, hnotices, _⟩ => ⟨hintake, hnotices, ?_⟩
    simp only [Port.queueReply, List.length_append, List.length_singleton, hs, Option.isSome_none, Bool.false_eq_true, if_false]
    omega
  have hserve : ∀ v, UnitsKept s (s.setPort p { s.port p with service := some v }) := fun v => by
    refine .setPort s p fun ⟨hintake, hnotices, _⟩ => ⟨hintake, hnotices, ?_⟩
    simp only [Option.isSome_some, if_true]
    omega
  unfold judgeRequest
  dsimp only
  split
  · exact hrefuse _
  · split
    · split
      · exact (hserve _).replied
      · split
        · exact (hserve _).trans (grantJob_unitsKept _)
        · exact hserve _
    · exact hrefuse _

theorem dispatch_unitsKept : UnitsKept s (dispatch p s) := by
  unfold dispatch
  dsimp only
  split
  · next body rest hs hi =>
    split
    · next hr =>
      refine (judgeRequest_unitsKept _ p _ (by rw [port_setPort_self]; exact hs) (by rw [port_setPort_self]; exact hr)).after ?_
      refine .setPort s p fun ⟨hintake, hnotices, hreplies⟩ => ⟨?_, hnotices, hreplies⟩
      rw [hi, List.length_cons] at hintake
      exact Nat.le_of_succ_le hintake
    · exact .refl s
  · exact .refl s

/-- An audio message takes a unit of credit (R162). -/
theorem takeAudio_unitsKept (c : ChannelId) (m : Message) : UnitsKept s (takeAudio p c m s) := by
  refine .setPort s p id fun d => ?_
  change ((s.port p).withCredit c _).creditFor d ≤ _
  rw [creditFor_withCredit]
  split
  · next e => rw [e]; exact Nat.sub_le _ _
  · exact Nat.le_refl _

theorem channelSends_unitsKept (c : ChannelId) (m : Message) : UnitsKept s (channelSends p c m s) := by
  have h : UnitsKept (takeAudio p c m s)
      (finishCue c ((takeAudio p c m s).setChannel c (((takeAudio p c m s).channel c).messageSent m))) :=
    (finishCue_unitsKept _ c).after (.of_eq rfl rfl rfl)
  unfold channelSends
  refine (takeAudio_unitsKept s p c m).trans ((settle_unitsKept _ c).after ?_)
  split
  · exact h.trans (judge_unitsKept _ c)
  · exact h

theorem arbitrate_unitsKept : UnitsKept s (arbitrate p s) := by
  unfold arbitrate
  dsimp only
  split
  · exact .refl s
  · split
    · next hr =>
      refine .setPort s p fun ⟨hintake, hnotices, hreplies⟩ => ⟨hintake, hnotices, hreplies.trans' ?_⟩
      rw [hr]
      exact Nat.add_le_add_right (Nat.le_succ _) _
    · next hn =>
      refine .setPort s p fun ⟨hintake, hnotices, hreplies⟩ => ⟨hintake, ?_, hreplies⟩
      rw [hn, List.length_cons] at hnotices
      exact Nat.le_of_succ_le hnotices
    · split
      · exact channelSends_unitsKept s p _ _
      · exact .refl s

theorem sendPiece_unitsKept : UnitsKept s (sendPiece p s) := by
  unfold sendPiece
  dsimp only
  split
  · exact .refl s
  · exact .setPort s p id

end Links

/-! ### Every command but two -/

section Commands
variable {s : State} {p : PortId} {v : Service} {r : Request}

/-- A request that presents no job. -/
theorem exec_request_unitsKept (h : Serves s p v r) (hj : r.presentsJob = false) :
    ∃ t, exec (r.command p) s = .next t ∧ UnitsKept s t := by
  obtain ⟨hv, he⟩ := h
  obtain ⟨kind, tag, role, request⟩ := v
  dsimp only at he
  subst he
  have refused : ∀ code fields, UnitsKept s (reply p code fields s) := reply_unitsKept s p
  cases request with
  | pinItem key seconds =>
    have hs : ¬ (1 ≤ seconds.toNat ∧ seconds.toNat ≤ 86400) := of_decide_eq_false hj
    simp only [Request.command, exec, execPinItem, servePinItem, hv, if_neg hs]
    exact ⟨_, rfl, refused _ _⟩
  | unpinItem =>
    simp only [Request.command, exec, execUnpinItem, serveUnpinItem, hv]
    exact ⟨_, rfl, unpin_unitsKept s p _ _ _⟩
  | bindChannel =>
    simp only [Request.command, exec, execBindChannel, serveBindChannel, hv]
    exact ⟨_, rfl, onChannel_keeps s p _ _ refused fun c => bindChannel_unitsKept s c p _⟩
  | queueCue =>
    simp only [Request.command, exec, execQueueCue, serveQueueCue, hv]
    exact ⟨_, rfl, onBound_keeps s p _ _ refused fun c _ => queueCue_unitsKept s c p _⟩
  | stopChannel =>
    simp only [Request.command, exec, execStopChannel, serveStopChannel, hv]
    exact ⟨_, rfl, onBound_keeps s p _ _ refused fun c _ => stopChannel_unitsKept s c p⟩
  | haltChannel =>
    simp only [Request.command, exec, execHaltChannel, serveHaltChannel, hv]
    exact ⟨_, rfl, onBound_keeps s p _ _ refused fun c _ => haltChannel_unitsKept s c p⟩
  | resumeChannel =>
    simp only [Request.command, exec, execResumeChannel, serveResumeChannel, hv]
    exact ⟨_, rfl, onBound_keeps s p _ _ refused fun c _ => resumeChannel_unitsKept s c p⟩
  | clearCut =>
    simp only [Request.command, exec, execClearCut, serveClearCut, hv]
    exact ⟨_, rfl, onBound_keeps s p _ _ refused fun c _ => clearCut_unitsKept s c p⟩
  | flushChannel =>
    simp only [Request.command, exec, execFlushChannel, serveFlushChannel, hv]
    exact ⟨_, rfl, onBound_keeps s p _ _ refused fun c _ => flushChannel_unitsKept s c p⟩
  | setLanes =>
    simp only [Request.command, exec, execSetLanes, serveSetLanes, hv]
    exact ⟨_, rfl, onBound_keeps s p _ _ refused fun c _ => setLanes_unitsKept s c p _ _ _⟩
  | setCutoff =>
    simp only [Request.command, exec, execSetCutoff, serveSetCutoff, hv]
    exact ⟨_, rfl, onBound_keeps s p _ _ refused fun c _ => setCutoff_unitsKept s c p _⟩
  | channelStatus =>
    simp only [Request.command, exec, execChannelStatus, serveChannelStatus, hv]
    exact ⟨_, rfl, onChannel_keeps s p _ _ refused fun c => channelStatus_unitsKept s c p _⟩
  | holdGroup =>
    simp only [Request.command, exec, execHoldGroup, serveHoldGroup, hv]
    exact ⟨_, rfl, groupRequest_unitsKept s p _ _ fun g => holdGroupOn_unitsKept s p g⟩
  | liftGroup =>
    simp only [Request.command, exec, execLiftGroup, serveLiftGroup, hv]
    exact ⟨_, rfl, groupRequest_unitsKept s p _ _ fun g => liftGroupOn_unitsKept s p g⟩
  | storeReset =>
    simp only [Request.command, exec, execStoreReset, serveStoreReset, hv]
    exact ⟨_, rfl, (resetStore_unitsKept s).replied⟩
  | ackAttention =>
    simp only [Request.command, exec, execAckAttention, serveAckAttention, hv]
    exact ⟨_, rfl, acknowledge_unitsKept s p _⟩
  | setAttentionMask =>
    simp only [Request.command, exec, execSetAttentionMask, serveSetAttentionMask, hv]
    exact ⟨_, rfl, setMask_unitsKept s p _⟩
  | attentionSummary =>
    simp only [Request.command, exec, execAttentionSummary, serveAttentionSummary, hv]
    exact ⟨_, rfl, refused _ _⟩
  | rearmAlarm =>
    simp only [Request.command, exec, execRearmAlarm, serveRearmAlarm, hv]
    exact ⟨_, rfl, UnitsKept.replied (.of_attention id (fun _ => nofun) id rfl rfl)⟩
  | readFaultRecord =>
    simp only [Request.command, exec, execReadFaultRecord, serveReadFaultRecord, hv]
    exact ⟨_, rfl, refused _ _⟩
  | clearFaultRecord =>
    simp only [Request.command, exec, execClearFaultRecord, serveClearFaultRecord, hv]
    exact ⟨_, rfl, UnitsKept.replied (.of_attention id id (fun ⟨_, hend⟩ => ⟨fun _ => rfl, hend⟩) rfl rfl)⟩
  | assignRole port role =>
    simp only [Request.command, exec, execAssignRole, serveAssignRole, hv]
    refine ⟨_, rfl, ?_⟩
    split
    · split
      · exact assignRole_unitsKept s p _ _
      · exact refused _ _
    · exact refused _ _
  | setTiming =>
    simp only [Request.command, exec, execSetTiming, serveSetTiming, hv]
    exact ⟨_, rfl, setTiming_unitsKept s p _ _ _⟩
  | enterItem | findItem | describeItem | releaseItem | reopenItem | splice | openPass | addExtent | closePass | withdrawPass | holdItem
  | liftItem | setGroups | retireItem | restoreItem | discardItem | formatCatalogue => cases hj

theorem exec_format_unitsKept (h : Serves s p v .formatCatalogue) :
    ∃ t, exec (.formatCatalogue p) s = .next t ∧ UnitsKept s t := by
  refine ⟨_, exec_format h, ?_⟩
  split_ifs
  · exact .refl s
  · exact reply_unitsKept s p _ _
  · exact (reply_unitsKept s p _ _).trans (finishJob_unitsKept _)
  · exact formatBegins_unitsKept s p
  · exact reply_unitsKept s p _ _
  · exact .refl s

theorem requestCommand_unitsKept (r : Request) (p : PortId) (s : State) :
    ∃ t, exec (r.command p) s = .next t ∧ UnitsKept s t := by
  rcases service_cases r p s with ⟨v, q, h, eq⟩ | e
  · rw [eq]
    cases hj : q.presentsJob with
    | false => exact exec_request_unitsKept h hj
    | true =>
      by_cases hq : q = .formatCatalogue
      · subst hq
        exact exec_format_unitsKept h
      · exact ⟨_, exec_job h hj hq, catalogueJob_keeps (P := UnitsKept s) (fun _ _ _ _ ht => ht.replied)
          (fun t ht => ht.trans (finishJob_unitsKept t)) p _ (fun t ht => ht.trans (job_unitsKept t p q v.role hj)) s (.refl s)⟩
  · exact ⟨s, e, .refl s⟩

/-- Every command but a reset and the arrival of credit. -/
theorem exec_unitsKept (i : Instr) (s : State) (hreset : ∀ lines, i ≠ .reset lines) (hcredit : ∀ p c n, i ≠ .credit p c n) :
    ∃ t, exec i s = .next t ∧ UnitsKept s t := by
  cases i with
  | reset lines => exact absurd rfl (hreset lines)
  | credit p c n => exact absurd rfl (hcredit p c n)
  | walkHeaderRead => exact ⟨_, rfl, headerRead_unitsKept s⟩
  | walkSlot => exact ⟨_, rfl, walkOne_unitsKept s⟩
  | walkEnd => exact ⟨_, rfl, walkLast_unitsKept s⟩
  | formatComplete => exact ⟨_, rfl, completeFormat_unitsKept s⟩
  | messageDiscard p bytes =>
    refine ⟨_, rfl, ?_⟩
    split
    · exact linkFault_unitsKept s p
    · exact .refl s
  | requestArrival p body => exact ⟨_, rfl, takeIn_unitsKept s p body⟩
  | requestDispatch p => exact ⟨_, rfl, dispatch_unitsKept s p⟩
  | outgoingArbitration p => exact ⟨_, rfl, arbitrate_unitsKept s p⟩
  | audioPiece p => exact ⟨_, rfl, sendPiece_unitsKept s p⟩
  | blockData tag data =>
    refine ⟨_, rfl, ?_⟩
    split
    · exact answerTag_unitsKept s tag _ fun c b t => .of_eq
    · exact .refl s
  | blockFail tag reason => exact ⟨_, rfl, answerTag_unitsKept s tag _ fun c b t => failAttempt_unitsKept t c b _⟩
  | readTimeout g => exact ⟨_, rfl, slotTimeout_unitsKept s g⟩
  | storeMessageDiscard bytes => exact ⟨_, rfl, .refl s⟩
  | collectionTimeout c => exact ⟨_, rfl, waitTimeout_unitsKept s c⟩
  | holdLineRise g => exact ⟨_, rfl, lineRise_unitsKept s g⟩
  | holdLineFall g => exact ⟨_, rfl, lineFall_unitsKept s g⟩
  | millisecondTick => exact ⟨_, rfl, tick_unitsKept s⟩
  | pinCountdown =>
    refine ⟨_, rfl, ?_⟩
    split
    · exact tick_unitsKept s
    · exact .refl s
  | startResolution c => exact ⟨_, rfl, serveStart_unitsKept s c⟩
  | segmentResolution c => exact ⟨_, rfl, serveSegment_unitsKept s c⟩
  | disengage c => exact ⟨_, rfl, serveDisengage_unitsKept s c⟩
  | mirrorWrite => exact ⟨_, rfl, serveMirrorWrite_unitsKept s⟩
  | enterItem p => exact requestCommand_unitsKept (.enterItem ⟨0, 0⟩ 0 0 0 0) p s
  | findItem p => exact requestCommand_unitsKept (.findItem ⟨0, 0⟩) p s
  | describeItem p => exact requestCommand_unitsKept (.describeItem ⟨0, 0⟩) p s
  | releaseItem p => exact requestCommand_unitsKept (.releaseItem ⟨0, 0⟩) p s
  | reopenItem p => exact requestCommand_unitsKept (.reopenItem ⟨0, 0⟩) p s
  | splice p => exact requestCommand_unitsKept (.splice ⟨0, 0⟩ 0 0 0 0 0) p s
  | openPass p => exact requestCommand_unitsKept (.openPass ⟨0, 0⟩) p s
  | addExtent p => exact requestCommand_unitsKept (.addExtent ⟨0, 0⟩ 0 0 0) p s
  | closePass p => exact requestCommand_unitsKept (.closePass ⟨0, 0⟩ 0 0) p s
  | withdrawPass p => exact requestCommand_unitsKept (.withdrawPass ⟨0, 0⟩ 0) p s
  | holdItem p => exact requestCommand_unitsKept (.holdItem ⟨0, 0⟩) p s
  | liftItem p => exact requestCommand_unitsKept (.liftItem ⟨0, 0⟩) p s
  | setGroups p => exact requestCommand_unitsKept (.setGroups ⟨0, 0⟩ 0) p s
  | retireItem p => exact requestCommand_unitsKept (.retireItem ⟨0, 0⟩) p s
  | restoreItem p => exact requestCommand_unitsKept (.restoreItem 0 []) p s
  | discardItem p => exact requestCommand_unitsKept (.discardItem 0) p s
  | formatCatalogue p => exact requestCommand_unitsKept .formatCatalogue p s
  | pinItem p => exact requestCommand_unitsKept (.pinItem ⟨0, 0⟩ 0) p s
  | unpinItem p => exact requestCommand_unitsKept (.unpinItem 0 0) p s
  | bindChannel p => exact requestCommand_unitsKept (.bindChannel 0 0) p s
  | queueCue p => exact requestCommand_unitsKept (.queueCue 0 ⟨0, ⟨0, 0⟩, 0, 0⟩) p s
  | stopChannel p => exact requestCommand_unitsKept (.stopChannel 0) p s
  | haltChannel p => exact requestCommand_unitsKept (.haltChannel 0) p s
  | resumeChannel p => exact requestCommand_unitsKept (.resumeChannel 0) p s
  | clearCut p => exact requestCommand_unitsKept (.clearCut 0) p s
  | flushChannel p => exact requestCommand_unitsKept (.flushChannel 0) p s
  | setLanes p => exact requestCommand_unitsKept (.setLanes 0 0 0 []) p s
  | setCutoff p => exact requestCommand_unitsKept (.setCutoff 0 0) p s
  | channelStatus p => exact requestCommand_unitsKept (.channelStatus 0) p s
  | holdGroup p => exact requestCommand_unitsKept (.holdGroup 0) p s
  | liftGroup p => exact requestCommand_unitsKept (.liftGroup 0) p s
  | storeReset p => exact requestCommand_unitsKept .storeReset p s
  | ackAttention p => exact requestCommand_unitsKept (.ackAttention 0) p s
  | setAttentionMask p => exact requestCommand_unitsKept (.setAttentionMask 0) p s
  | attentionSummary p => exact requestCommand_unitsKept .attentionSummary p s
  | rearmAlarm p => exact requestCommand_unitsKept .rearmAlarm p s
  | readFaultRecord p => exact requestCommand_unitsKept .readFaultRecord p s
  | clearFaultRecord p => exact requestCommand_unitsKept .clearFaultRecord p s
  | assignRole p => exact requestCommand_unitsKept (.assignRole 0 0) p s
  | setTiming p => exact requestCommand_unitsKept (.setTiming 0 0 0) p s

end Commands

end Sys2Proof.Machine
end

-- ==== Proofs: credit, timing, and the laws of the units ====
section
/-! The law of credit under the commands that bind, unbind and give credit (R156, R160, R161), the timing settings (R163), and so the laws
of the units under every step. -/

namespace Sys2Proof.Machine

/-! ### Credit -/

/-- No port holds credit for a channel. -/
def Uncredited (s : State) (c : ChannelId) : Prop := ∀ p, (s.port p).creditFor c = 0

section Credit
variable {s t : State}

/-- The law of credit holds on where no port gains any, and each channel keeps its binding or has no credit left. -/
theorem UnitsKept.creditLaw (h : UnitsKept s t) (hc : ∀ c, (t.channel c).port = (s.channel c).port ∨ Uncredited t c) :
    CreditLaw s → CreditLaw t := by
  intro hs p c
  obtain ⟨hlimit, hbound⟩ := hs p c
  have hle := h.credit p c
  refine ⟨hle.trans hlimit, fun hne => ?_⟩
  rcases hc c with hport | hnone
  · rw [hport]
    exact hbound (by omega)
  · exact absurd (hnone p) hne

/-- Credit that is gone does not come back. -/
theorem UnitsKept.uncredited (h : UnitsKept s t) {c : ChannelId} (hc : Uncredited s c) : Uncredited t c := fun p =>
  Nat.le_zero.1 ((h.credit p c).trans (hc p).le)

variable (c : ChannelId)

theorem clearCredit_creditFor (q : PortId) : ((clearCredit q c s).port q).creditFor c = 0 := by
  rw [clearCredit, port_setPort_self, creditFor_withCredit, if_pos rfl]

/-- The credit of the one port that a channel may be bound to is cleared, and no other has any (R156). -/
theorem clearCredit_uncredited {q : PortId} (h : CreditLaw s) (hc : (s.channel c).port = some q ∨ (s.channel c).port = none) :
    Uncredited (clearCredit q c s) c := by
  intro p
  by_cases hp : p = q
  · rw [hp, clearCredit_creditFor]
  · refine Nat.le_zero.1 (((clearCredit_unitsKept s c q).credit p c).trans (Nat.le_of_eq ?_))
    by_contra hne
    have hbound := (h p c).2 hne
    rcases hc with hc | hc <;> rw [hc] at hbound
    · exact hp (Option.some_inj.1 hbound).symm
    · cases hbound

theorem dropOldCredit_uncredited (h : CreditLaw s) : Uncredited (dropOldCredit c s) c := by
  unfold dropOldCredit
  split
  · next q hq => exact clearCredit_uncredited c h (.inl hq)
  · next hn => exact fun p => by_contra fun hne => by simp [(h p c).2 hne] at hn

variable (s)

theorem releaseChannel_port (d : ChannelId) : ((releaseChannel c s).channel d).port = (s.channel d).port := by
  by_contra hne
  have hno := (releaseChannel_changes (i := .millisecondTick) (sound := True) s c).within.bindings d hne
  simp [ChangesBindings] at hno

theorem settle_port (d : ChannelId) : ((settle c s).channel d).port = (s.channel d).port := by
  by_contra hne
  have hno := (settle_changes (i := .millisecondTick) (sound := True) s c).within.bindings d hne
  simp [ChangesBindings] at hno

theorem releaseChannel_creditLaw (h : CreditLaw s) : CreditLaw (releaseChannel c s) :=
  (releaseChannel_unitsKept s c).creditLaw (fun d => .inl (releaseChannel_port s c d)) h

/-- A channel that is bound anew has no credit (R73, R161). -/
theorem bindTo_uncredited (q : PortId) (h : CreditLaw s) : Uncredited (bindTo c q s) c :=
  (clearCredit_unitsKept _ c q).uncredited (dropOldCredit_uncredited c h)

theorem bindTo_creditLaw (q : PortId) (h : CreditLaw s) : CreditLaw (bindTo c q s) := by
  refine (bindTo_unitsKept s c q).creditLaw (fun d => ?_) h
  by_cases hd : d = c
  · exact .inr (hd ▸ bindTo_uncredited s c q h)
  · exact .inl (by rw [(bindTo_local s c q).channel d hd])

theorem settle_creditLaw (h : CreditLaw s) : CreditLaw (settle c s) :=
  (settle_unitsKept s c).creditLaw (fun d => .inl (settle_port s c d)) h

theorem reply_creditLaw (p : PortId) (code : ReplyCode) (fields : List Field) (h : CreditLaw s) : CreditLaw (reply p code fields s) :=
  (reply_unitsKept s p code fields).creditLaw (fun d => .inl (by rw [State.channel, reply_channels, State.channel])) h

theorem bindChannel_creditLaw (p : PortId) (port : Byte) (h : CreditLaw s) : CreditLaw (bindChannel p port s c) := by
  unfold bindChannel
  dsimp only
  split
  · split
    · exact reply_creditLaw s p _ _ h
    · exact reply_creditLaw _ p _ _ (settle_creditLaw _ c (bindTo_creditLaw _ c _ (releaseChannel_creditLaw s c h)))
  · exact reply_creditLaw s p _ _ h

/-- A channel once it has been unbound (R73). -/
theorem unbind_port (q : PortId) (d : ChannelId) :
    ((unbind q c s).channel d).port = if d = c then none else (s.channel d).port := by
  rw [unbind, settle_port, channel_setChannel]
  split
  · rfl
  · rw [clearCredit_channel, releaseChannel_port]

theorem unbind_uncredited {q : PortId} (h : CreditLaw s) (hc : (s.channel c).port = some q ∨ (s.channel c).port = none) :
    Uncredited (unbind q c s) c := by
  have hclear := clearCredit_uncredited c (releaseChannel_creditLaw s c h) (q := q) (by rwa [releaseChannel_port])
  rw [unbind]
  refine (settle_unitsKept _ c).uncredited fun p => ?_
  rw [setChannel_port]
  exact hclear p

theorem unbind_creditLaw {q : PortId} (h : CreditLaw s) (hc : (s.channel c).port = some q ∨ (s.channel c).port = none) :
    CreditLaw (unbind q c s) := by
  refine (unbind_unitsKept s c q).creditLaw (fun d => ?_) h
  rw [unbind_port]
  split
  · next hd =>
    subst hd
    exact .inr (unbind_uncredited s d h hc)
  · exact .inl rfl

/-- Channels of one port are unbound one after another, and each is bound to it or to none when its turn comes (R160). -/
theorem foldl_unbind_creditLaw (q : PortId) (l : List ChannelId) (h : CreditLaw s)
    (hl : ∀ c ∈ l, (s.channel c).port = some q ∨ (s.channel c).port = none) :
    CreditLaw (l.foldl (fun w c => unbind q c w) s) := by
  induction l generalizing s with
  | nil => exact h
  | cons c rest ih =>
    rw [List.foldl_cons]
    refine ih _ (unbind_creditLaw s c h (hl c List.mem_cons_self)) fun d hd => ?_
    rw [unbind_port]
    split
    · exact .inr rfl
    · exact hl d (List.mem_cons_of_mem _ hd)

theorem assignRole_creditLaw (p target : PortId) (role : Role) (h : CreditLaw s) : CreditLaw (assignRole p target role s) := by
  unfold assignRole
  dsimp only
  split
  · exact reply_creditLaw s p _ _ h
  · have horder : CreditLaw (freeOrder Fin.val (s.boundTo target) s).2 :=
      (freeOrder_unitsKept s Fin.val (s.boundTo target)).creditLaw
        (fun d => .inl (by rw [State.channel, freeOrder_channels, State.channel])) h
    refine reply_creditLaw _ p _ _ ((setRole_unitsKept _ target _ role).creditLaw (fun d => .inl rfl) ?_)
    refine foldl_unbind_creditLaw _ target _ horder fun c hc => .inl ?_
    rw [State.channel, freeOrder_channels, ← State.channel]
    exact of_decide_eq_true (List.mem_filter.1 ((freeOrder_perm ..).mem_iff.1 hc)).2

end Credit

/-! ### All the laws -/

/-- The laws of the attention unit, the ports, the pin table and the timing settings hold on. -/
structure LawsKept (s t : State) : Prop where
  attention : AttentionLaw s → AttentionLaw t
  alarm : AlarmLaw s → AlarmLaw t
  faults : FaultRecordLaw s → FaultRecordLaw t
  queues : QueueLaw s → QueueLaw t
  credit : CreditLaw s → CreditLaw t
  pins : PinLaw s → PinLaw t
  timing : TimingLaw s → TimingLaw t

section Laws
variable {s t : State}

theorem UnitsKept.lawsKept (h : UnitsKept s t) (hc : CreditLaw s → CreditLaw t) (ht : TimingLaw s → TimingLaw t) : LawsKept s t :=
  ⟨h.attention, h.alarm, h.faults, h.queues, hc, h.pins, ht⟩

variable (s)

theorem afterReset_lawsKept (lines : Groups) : LawsKept s (State.afterReset s.memory lines s.moments s.pending) := by
  have hport : ∀ p, PortLaw ((State.afterReset s.memory lines s.moments s.pending).port p) := by simpa using portReset_law
  refine ⟨fun _ => by simp [AttentionLaw, State.afterReset, Attention.reset], fun _ => nofun,
    fun _ => by simp [FaultRecordLaw, State.afterReset, Attention.reset], fun _ => hport, fun _ => ?_, fun _ => ?_, fun _ => ?_⟩
  · simp [CreditLaw]
  · simp [PinLaw, State.afterReset]
  · simp [TimingLaw, State.afterReset, Timing.reset]

/-- Credit that arrives stays within its end, and goes to the port that its channel is bound to (R161). -/
theorem takeCredit_lawsKept (p : PortId) (channel : Byte) (n : Nat) : LawsKept s (takeCredit p channel n s) := by
  have same : LawsKept s s := ⟨id, id, id, id, id, id, id⟩
  unfold takeCredit
  split
  · dsimp only
    split
    · next hbound =>
      refine ⟨id, id, id, fun h q => ?_, fun h q d => ?_, id, id⟩ <;> rw [port_setPort] <;> split
      · exact h p
      · exact h q
      · next hq =>
        rw [creditFor_withCredit]
        split
        · next hd => exact ⟨Nat.min_le_left .., fun _ => by rw [hd, hq]; exact hbound⟩
        · exact h p d |>.imp_right fun h' hne => by rw [hq]; exact h' hne
      · exact h q d
    · exact same
  · exact same

/-- SET_TIMING takes settings in their ranges alone (R163). -/
theorem setTiming_timingLaw (p : PortId) (collection read retry : Nat) (h : TimingLaw s) :
    TimingLaw (setTiming p collection read retry s) := by
  unfold setTiming
  split_ifs with hcollection hread hretry
  · simpa only [TimingLaw, reply_timing] using h
  · simpa only [TimingLaw, reply_timing] using h
  · simpa only [TimingLaw, reply_timing] using h
  · simp only [Bool.not_eq_true', decide_eq_false_iff_not, not_not] at hread
    simp only [TimingLaw, reply_timing]
    omega

theorem serveSetTiming_timingLaw (p : PortId) (h : TimingLaw s) : TimingLaw (serveSetTiming p s) := by
  unfold serveSetTiming
  split
  · exact setTiming_timingLaw s p _ _ _ h
  · exact h

theorem serveBindChannel_creditLaw (p : PortId) (h : CreditLaw s) : CreditLaw (serveBindChannel p s) := by
  unfold serveBindChannel
  split
  · exact onChannel_keeps s p _ _ (fun _ _ => reply_creditLaw s p _ _ h) fun c => bindChannel_creditLaw s c p _ h
  · exact h

theorem serveAssignRole_creditLaw (p : PortId) (h : CreditLaw s) : CreditLaw (serveAssignRole p s) := by
  unfold serveAssignRole
  split
  · split
    · split
      · exact assignRole_creditLaw s p _ _ h
      · exact reply_creditLaw s p _ _ h
    · exact reply_creditLaw s p _ _ h
  · exact h

variable {s}

/-- Where a command changes no binding and no timing setting, the laws of credit and of the settings follow from the rest. -/
theorem UnitsKept.lawsKept_of_within {i : Instr} (h : UnitsKept s t) (hw : Within i s t)
    (hc : ChangesBindings i → CreditLaw s → CreditLaw t) (ht : ChangesTiming i → TimingLaw s → TimingLaw t) : LawsKept s t := by
  refine h.lawsKept ?_ ?_
  · by_cases hi : ChangesBindings i
    · exact hc hi
    · exact h.creditLaw fun c => .inl (by_contra fun hne => hi (hw.bindings c hne))
  · by_cases hi : ChangesTiming i
    · exact ht hi
    · have htiming : t.timing = s.timing := by_contra fun hne => hi (hw.timing hne)
      simp only [TimingLaw, htiming, imp_self]

/-- Every command keeps the laws: of a reset and of arriving credit this is said by themselves; and of the other commands the credit
rests on those that bind and unbind, and the settings on SET_TIMING. -/
theorem exec_lawsKept {i : Instr} (e : exec i s = .next t) : LawsKept s t := by
  by_cases hreset : ∃ lines, i = .reset lines
  · obtain ⟨lines, rfl⟩ := hreset
    cases e
    exact afterReset_lawsKept s lines
  by_cases hcredit : ∃ p c n, i = .credit p c n
  · obtain ⟨p, c, n, rfl⟩ := hcredit
    cases e
    exact takeCredit_lawsKept s p c n.toNat
  obtain ⟨u, hu, hkept⟩ := exec_unitsKept i s (fun lines h => hreset ⟨lines, h⟩) fun p c n h => hcredit ⟨p, c, n, h⟩
  obtain ⟨u', hu', hchanges⟩ := exec_changes i s
  obtain rfl : t = u := by rw [hu] at e; cases e; rfl
  obtain rfl : t = u' := by rw [hu'] at e; cases e; rfl
  refine hkept.lawsKept_of_within hchanges.within ?_ ?_
  · rintro (h | ⟨q, rfl⟩ | ⟨q, rfl⟩)
    · exact absurd h hreset
    · cases e; exact serveAssignRole_creditLaw s q
    · cases e; exact serveBindChannel_creditLaw s q
  · rintro (h | ⟨q, rfl⟩)
    · exact absurd h hreset
    · cases e; exact serveSetTiming_timingLaw s q

/-- Settles O4: on an empty queue nothing changes, and else the front command keeps each law. -/
theorem unitLawsKept : Obligations.UnitLawsKept := by
  intro s t e
  have h : LawsKept s t := by
    unfold step at e
    split at e
    · cases e
      exact ⟨id, id, id, id, id, id, id⟩
    · next i rest _ =>
      obtain ⟨hattention, halarm, hfaults, hqueues, hcredit, hpins, htiming⟩ := exec_lawsKept e
      exact ⟨hattention, halarm, hfaults, hqueues, hcredit, hpins, htiming⟩
  exact ⟨h.attention, h.alarm, h.faults, h.queues, h.credit, h.pins, h.timing⟩

end Laws

end Sys2Proof.Machine
end

-- ==== Proofs: pinning and unpinning ====
section
/-! What a pin that is created or refreshed changes of the pin table, and PIN_ITEM and UNPIN_ITEM (R132 to R134). -/

namespace Sys2Proof.Machine

/-! ### The pins after one is created or refreshed -/

section PinTable
variable {pins : List Pin} {p q : PortId} {x y : Slot} {seconds : Nat}

theorem pinInsert_perm (new : Pin) (pins : List Pin) : (pinInsert new pins).Perm (new :: pins) := by
  induction pins with
  | nil => exact .refl _
  | cons z rest ih =>
    unfold pinInsert
    split
    · exact .refl _
    · exact (ih.cons z).trans (.swap new z rest)

theorem findPin_cons_of_isFor {z : Pin} (h : z.isFor p x = true) : findPin p x (z :: pins) = some z :=
  List.find?_cons_of_pos (p := fun w : Pin => w.isFor p x) h

theorem findPin_cons_of_not_isFor {z : Pin} (h : ¬ z.isFor p x = true) : findPin p x (z :: pins) = findPin p x pins :=
  List.find?_cons_of_neg (p := fun w : Pin => w.isFor p x) h

/-- The pin created is the one found for its port and slot, where none was there. -/
theorem findPin_pinInsert_self {new : Pin} (hnew : new.isFor p x = true) (hnone : findPin p x pins = none) :
    findPin p x (pinInsert new pins) = some new := by
  induction pins with
  | nil => exact findPin_cons_of_isFor hnew
  | cons z rest ih =>
    have hz : ¬ z.isFor p x = true := List.find?_eq_none.1 hnone z List.mem_cons_self
    unfold pinInsert
    split
    · exact findPin_cons_of_isFor hnew
    · rw [findPin_cons_of_not_isFor hz] at hnone ⊢
      exact ih hnone

/-- For another port or slot, the pin created is passed over. -/
theorem findPin_pinInsert_other {new : Pin} (hnew : ¬ new.isFor p x = true) : findPin p x (pinInsert new pins) = findPin p x pins := by
  induction pins with
  | nil => exact findPin_cons_of_not_isFor hnew
  | cons z rest ih =>
    unfold pinInsert
    split
    · exact findPin_cons_of_not_isFor hnew
    · by_cases hz : z.isFor p x = true
      · rw [findPin_cons_of_isFor hz, findPin_cons_of_isFor hz]
      · rw [findPin_cons_of_not_isFor hz, findPin_cons_of_not_isFor hz, ih]

/-- A pin as the pin table leaves it where it refreshes the pin of a port and slot (R133). -/
def Pin.refresh (p : PortId) (x : Slot) (seconds : Nat) (z : Pin) : Pin := if z.isFor p x then { z with remaining := seconds } else z

@[simp] theorem Pin.refresh_port (z : Pin) : (z.refresh p x seconds).port = z.port := by unfold Pin.refresh; split <;> rfl
@[simp] theorem Pin.refresh_slot (z : Pin) : (z.refresh p x seconds).slot = z.slot := by unfold Pin.refresh; split <;> rfl

theorem findPin_refresh : findPin q y (pins.map (Pin.refresh p x seconds)) = (findPin q y pins).map (Pin.refresh p x seconds) := by
  rw [findPin, List.find?_map]
  refine congrArg (Option.map _) (List.find?_congr fun z _ => ?_)
  simp [Pin.isFor]

theorem isFor_of_findPin {z : Pin} (h : findPin q y pins = some z) : z.port = q ∧ z.slot = y := 
  isFor_iff.1 (List.find?_some (p := fun w : Pin => w.isFor q y) h)

/-- What PIN_ITEM leaves in the pin table for a port and slot, where there is a pin to refresh or room for one (R133). -/
structure Pinned (p : PortId) (x : Slot) (seconds : Nat) (created : Bool) (pins after : List Pin) : Prop where
  self : findPin p x after = some { port := p, slot := x, remaining := seconds }
  others : ∀ q y, ¬ (q = p ∧ y = x) → findPin q y after = findPin q y pins
  length : after.length = pins.length + if created then 1 else 0
  onSlot : after.countP (fun z => z.slot = x) = pins.countP (fun z => z.slot = x) + if created then 1 else 0

theorem pinned_of_refresh {z : Pin} (hz : findPin p x pins = some z) :
    Pinned p x seconds false pins (pins.map (Pin.refresh p x seconds)) where
  self := by
    obtain ⟨hport, hslot⟩ := isFor_of_findPin hz
    rw [findPin_refresh, hz, Option.map_some, Pin.refresh, if_pos (isFor_iff.2 ⟨hport, hslot⟩), hport, hslot]
  others q y hne := by
    rw [findPin_refresh]
    cases hw : findPin q y pins with
    | none => rfl
    | some w =>
      obtain ⟨rfl, rfl⟩ := isFor_of_findPin hw
      rw [Option.map_some, Pin.refresh, if_neg fun h => hne (isFor_iff.1 h)]
  length := by simp
  onSlot := by simp [List.countP_map, Function.comp_def]

theorem pinned_of_create (hnone : findPin p x pins = none) :
    Pinned p x seconds true pins (pinInsert { port := p, slot := x, remaining := seconds } pins) where
  self := findPin_pinInsert_self (isFor_iff.2 ⟨rfl, rfl⟩) hnone
  others q y hne := findPin_pinInsert_other fun h => hne ((isFor_iff.1 h).imp Eq.symm Eq.symm)
  length := by simp [length_pinInsert]
  onSlot := by simp [(pinInsert_perm _ pins).countP_eq]

theorem pinOrRefresh_of_room (h : findPin p x pins ≠ none ∨ pins.length < 128) :
    ∃ after, pinOrRefresh p x seconds pins = some ((findPin p x pins).isNone, after) ∧
      Pinned p x seconds (findPin p x pins).isNone pins after := by
  unfold pinOrRefresh
  cases hf : findPin p x pins with
  | some z => exact ⟨_, rfl, pinned_of_refresh hf⟩
  | none => exact ⟨_, if_pos (h.resolve_left (not_not.2 hf)), pinned_of_create hf⟩

theorem pinOrRefresh_of_full (hnone : findPin p x pins = none) (hfull : 128 ≤ pins.length) : pinOrRefresh p x seconds pins = none := by
  rw [pinOrRefresh, hnone]
  exact if_neg (Nat.not_lt.2 hfull)

end PinTable

/-! ### The two requests -/

section Requests
variable {p : PortId} {v : Service} {s : State}

theorem pinStateLegal_iff {role : Role} {st : ItemState} :
    pinStateLegal role st = true ↔ st = .released ∨ st = .review ∧ role ≠ .production := by
  simp [pinStateLegal]

/-- A granted job ends with its answer, where it has left the ports as they were. -/
theorem finishJob_reply_of_ports {r : Request} {u : State} (h : Serves s p v r) (hu : u.ports = s.ports) (code : ReplyCode)
    (fields : List Field) : finishJob (reply p code fields u) = jobAnswered p v code fields u := by
  rw [reply_served h hu, jobAnswered]

/-- The pin table checks the seconds itself, before the job (R132). -/
theorem exec_pinItem_of_seconds {key : Key} {seconds : BitVec 32} (h : Serves s p v (.pinItem key seconds))
    (hs : ¬ (1 ≤ seconds.toNat ∧ seconds.toNat ≤ 86400)) : exec (.pinItem p) s = .next (answered p v .badField [] s) := by
  rw [← reply_served h rfl]
  obtain ⟨hv, he⟩ := h
  obtain ⟨kind, tag, role, request⟩ := v
  cases he
  simp only [exec, execPinItem, servePinItem, hv, if_neg hs]

theorem exec_unpinItem {slot : BitVec 16} {port : Byte} (h : Serves s p v (.unpinItem slot port)) :
    exec (.unpinItem p) s = .next (unpin p v.role slot.toFin port s) := by
  obtain ⟨hv, he⟩ := h
  obtain ⟨kind, tag, role, request⟩ := v
  cases he
  simp only [exec, execUnpinItem, serveUnpinItem, hv]

theorem removePin_eq (q : PortId) (x : Slot) (pins : List Pin) : removePin q x pins = pins.filter fun y => ¬ (y.port = q ∧ y.slot = x) :=
  List.filter_congr fun y _ => by simp [Pin.isFor]

end Requests

/-- Settles O40: the checks in their turn; the pin table after PIN_ITEM is one of `Pinned`, and after UNPIN_ITEM is filtered. -/
theorem pinAndUnpinItem : Obligations.PinAndUnpinItem := by
  refine ⟨fun p v s key seconds h => ⟨exec_pinItem_of_seconds h, fun hlow hhigh hg x hx => ?_⟩, fun p v s slot port h => ⟨fun hbad => ?_,
    fun q hq => ⟨fun hp hrole => ?_, fun hmay => ⟨fun hnone => ?_, fun pin hpin => ?_⟩⟩⟩⟩
  · have e : exec (.pinItem p) s = .next (finishJob (pinItemOn p v.role seconds.toNat x s)) :=
      exec_found h hg hx (decide_eq_true ⟨hlow, hhigh⟩) (by simp) rfl
    simp only [e, pinItemOn, Bool.not_eq_true', ← Bool.not_eq_true, pinStateLegal_iff, ite_not]
    refine ⟨fun hst => ?_, fun hst hnone hfull => ?_, fun hst hroom => ?_⟩
    · rw [if_neg hst, finishJob_reply h]
    · rw [if_pos hst, pinOrRefresh_of_full hnone hfull]
      exact congrArg _ (finishJob_reply h _ _)
    · obtain ⟨after, hafter, hpinned⟩ := pinOrRefresh_of_room (seconds := seconds.toNat) hroom
      refine ⟨after, ?_, hpinned.self, hpinned.others, hpinned.length⟩
      have hcount : (s.setPins after).pinsOn x = s.pinsOn x + _ := hpinned.onSlot
      rw [if_pos hst, hafter, ← hcount]
      exact congrArg _ (finishJob_reply_of_ports h (u := s.setPins after) rfl _ _)
  · rw [exec_unpinItem h, unpin, dif_neg (Nat.not_lt.2 hbad), reply_served h rfl]
  all_goals
    have hport : port.toNat < 16 := hq ▸ q.isLt
    obtain rfl : (⟨port.toNat, hport⟩ : PortId) = q := Fin.ext hq
    simp only [exec_unpinItem h, unpin, dif_pos hport]
  · rw [if_neg (not_or.2 ⟨hp, hrole⟩), reply_served h rfl]
  · simp only [if_pos hmay, hnone, reply_served h rfl]
  · simp only [if_pos hmay, hpin, removePin_eq]
    refine congrArg _ (reply_served h ?_ _ _)
    rfl

end Sys2Proof.Machine
end

-- ==== Proofs: retiring an item ====
section
/-! What the freeing of a slot changes of the catalogue, and RETIRE_ITEM (R137 to R139). -/

namespace Sys2Proof.Machine

section Freeing
variable {p : PortId} {s : State} {x : Slot}

/-- The other slots of the chains keep their order where a slot is freed (R7, R138). -/
theorem freeSlot_chain (hw : SparseWf [] s.engine.directory) (x : Slot) (freed : Record) (b : BitVec 14) :
    (freeSlot x freed s).engine.chain b = (s.engine.chain b).filter fun y => y ≠ x := Engine.chain_unlink hw

theorem retire_of_intact (h : (s.record x).intact) :
    (s.record x).retire p = { s.record x with state := .retiring, retiringPort := p.val } := by
  rw [Record.retire, writeState_of_intact _ _ h]
  exact fresh_of_clean _ _ (words_of_intact _ h)

end Freeing

/-- Settles O34: the branches of the job in turn, on the slot that the lookup finds. -/
theorem retireItem : Obligations.RetireItem := by
  intro p v s key x h hg hx
  have e : exec (.retireItem p) s = .next (finishJob (retireItemOn p x s)) := exec_found h hg hx rfl (by simp) rfl
  have hintact : (s.record x).intact := hx.2.2.1
  simp only [e, retireItemOn, Bool.not_eq_true', ← Bool.not_eq_true, Bool.or_eq_true, decide_eq_true_eq, ite_not]
  refine ⟨fun hst => ?_, fun hst hpins => ?_, fun hst hpins i hi hbelow => ?_, fun hst hpins hopen heng => ?_,
    fun hst hpins hopen heng => ⟨_, rfl, ?_⟩⟩
  · rw [if_neg hst, finishJob_reply h]
  · rw [if_pos hst, if_neg hpins, finishJob_reply h]
  · rw [if_pos hst, if_pos hpins, firstPass_eq_some hi hbelow]
    exact congrArg _ (finishJob_reply h _ _)
  · rw [if_pos hst, if_pos hpins, firstPass_eq_none.2 hopen, retire_of_intact hintact]
    dsimp only
    rw [if_neg heng]
    exact congrArg _ (finishJob_reply_of_ports h (u := s.writeRecord x _) rfl _ _)
  · rw [if_pos hst, if_pos hpins, firstPass_eq_none.2 hopen, freeRetired_of_intact _ hintact]
    dsimp only
    rw [if_pos heng]
    have hrec := fun y => freeSlot_record s x y { s.record x with state := .free, rendition := [] }
    simp only [State.record, finishJob_memory, reply_memory, finishJob_engine, reply_engine, finishJob_ports, finishJob_channels,
      reply_channels, finishJob_hold, reply_hold, finishJob_pinTable, reply_pinTable, finishJob_store, reply_store,
      finishJob_attention, reply_attention]
    exact ⟨(hrec x).trans (if_pos rfl), fun y hy => (hrec y).trans (if_neg hy), rfl, rfl, fun hw b => freeSlot_chain hw x _ b, rfl,
      answer_ports h (t := freeSlot x _ s) rfl _ _, rfl, rfl, rfl, rfl, rfl⟩

end Sys2Proof.Machine
end

-- ==== Proofs: restoring and discarding a faulted slot ====
section
/-! RESTORE_ITEM and DISCARD_ITEM of a faulted slot (R136, R150 to R152). -/

namespace Sys2Proof.Machine

section Settled
variable {p : PortId} {v : Service} {s t : State} {x : Slot}

theorem parseImage_clean (image : List Byte) (w : RecordWord) : (parseImage image).condition w = .clean :=
  rowGet_replicate ..

/-- The part once the image's record stands in the slot and the slot at the head of its chain (R151). -/
def restored (x : Slot) (r : Record) (s : State) : State :=
  let t := s.writeRecord x r
  clearFaulted x (t.setEngine ((t.engine.unlink x).link r.key.bucket x))

theorem restoreInto_eq (p : PortId) (x : Slot) (r : Record) (s : State) :
    restoreInto p x r s = reply p .ok [.u16 x.val, .u16 r.key.bucket.toNat, Field.flag (s.engine.isLinked x)] (restored x r s) := rfl

theorem restored_record (x y : Slot) (r : Record) (s : State) : (restored x r s).record y = if y = x then r else s.record y :=
  record_writeRecord s x y r

/-- The slot leaves its chain and goes to the head of the one of its key (R7, R151). -/
theorem restored_chain (hw : SparseWf [] s.engine.directory) (x : Slot) (r : Record) (b : BitVec 14) :
    (restored x r s).engine.chain b =
      if b = r.key.bucket then x :: ((s.engine.chain r.key.bucket).filter fun y => y ≠ x) else (s.engine.chain b).filter fun y => y ≠ x := by
  rw [← Engine.chain_unlink hw, ← Engine.chain_unlink hw]
  exact Engine.chain_link

/-- A faulted slot that nothing engages is restored where the key is not linked, whether or not the lookup met a faulted slot (R151). -/
theorem restoreItemJob_of_absent {image : List Byte} (hr : (parseImage image).faultyPart = none) (hf : s.isFaulted x = true)
    (he : s.engagements x = 0) (hn : NotThere s (parseImage image).key ∨ NotThereFaulted s (parseImage image).key) :
    restoreItemJob p x image s = restoreInto p x (parseImage image) s := by
  simp only [restoreItemJob, hr, hf, he]
  rcases hn with hn | hn
  · rw [lookup_of_not_there _ _ s hn]; rfl
  · rw [lookup_of_not_there_faulted _ hn]; rfl

/-- The pins of a slot lapse, each with its notice (R136). -/
def lapsePins (x : Slot) (s : State) : State :=
  sendLapses .discarded (s.pinTable.pins.filter fun y => y.slot = x) (s.setPins (s.pinTable.pins.filter fun y => y.slot ≠ x))

theorem lapsePins_alerted (x : Slot) (s : State) : Alerted s (lapsePins x s) :=
  (Alerted.of_eq (s := s) (t := s.setPins (s.pinTable.pins.filter fun y => y.slot ≠ x)) rfl rfl).trans (sendLapses_alerted ..)

theorem lapsePins_reached {pin : Pin} (h : pin ∈ s.pinTable.pins) (hx : pin.slot = x) :
    Reached (.pinLapsed x .discarded) pin.port (lapsePins x s) := by
  subst hx
  exact sendLapses_reached _ .discarded (List.mem_filter.2 ⟨h, decide_eq_true rfl⟩)

/-- The part once a faulted slot has been discarded (R152). -/
def discarded (x : Slot) (s : State) : State := clearFaulted x (freeSlot x Record.freed (lapsePins x s))

theorem discardItemJob_of_faulted (hf : s.isFaulted x = true) (he : s.engagements x = 0) :
    discardItemJob p x s = reply p .ok [.u16 x.val, Field.flag (s.engine.isLinked x), .u8 (s.pinsOn x)] (discarded x s) := by
  simp only [discardItemJob, hf, he, State.pinsOn, List.countP_eq_length_filter]
  rfl

theorem discarded_record (x y : Slot) (s : State) : (discarded x s).record y = if y = x then Record.freed else s.record y := by
  refine (freeSlot_record ..).trans ?_
  simp only [State.record, lapsePins, sendLapses_memory, State.setPins]

theorem lapsePins_engine (x : Slot) (s : State) : (lapsePins x s).engine = s.engine := by
  rw [lapsePins, sendLapses_engine]
  rfl

/-- The slot is in no chain and on top of the stack, and its flag is clear (R152). -/
theorem discarded_engine (x : Slot) (s : State) :
    (discarded x s).engine = { (s.engine.unlink x).push x with faulted := s.engine.faulted.filter fun y => y ≠ x } := by
  rw [← lapsePins_engine x s]
  rfl

theorem discarded_chain (hw : SparseWf [] s.engine.directory) (x : Slot) (b : BitVec 14) :
    (discarded x s).engine.chain b = (s.engine.chain b).filter fun y => y ≠ x := by
  rw [discarded_engine]
  exact Engine.chain_unlink hw

/-- The frame of a discard: catalogue memory changes in the record alone, and the pin table in the pins of the slot alone. -/
theorem discarded_apart (x : Slot) (s : State) :
    (discarded x s).memory.header = s.memory.header ∧
      (discarded x s).pinTable = { s.pinTable with pins := s.pinTable.pins.filter fun y => y.slot ≠ x } ∧
      (discarded x s).channels = s.channels ∧ (discarded x s).hold = s.hold ∧ (discarded x s).store = s.store := by
  simp [discarded, freeSlot, State.setEngine, lapsePins, State.setPins]

theorem discarded_alerted (x : Slot) (s : State) : Alerted s (discarded x s) :=
  (lapsePins_alerted x s).trans (.of_eq rfl rfl)

/-- The flags once one of them has been cleared, whatever else has been done to the part (R147). -/
theorem isFaulted_of_cleared {u : State} (he : u.engine.faulted = s.engine.faulted.filter fun y => y ≠ x) (y : Slot) :
    u.isFaulted y = (s.isFaulted y && decide (y ≠ x)) := by
  rw [Bool.eq_iff_iff, Bool.and_eq_true, isFaulted_iff, isFaulted_iff, he]
  exact List.mem_filter

end Settled

/-- Settles O39: the checks of each job in turn, and the state that it ends in, `restored` or `discarded`. -/
theorem restoreAndDiscardItem : Obligations.RestoreAndDiscardItem := by
  refine ⟨fun p v s slot image h hg => ?_, fun p v s slot h hg => ?_⟩
  · have e : exec (.restoreItem p) s = .next (finishJob (restoreItemJob p slot.toFin image s)) := exec_granted h hg rfl (by simp)
    dsimp only
    refine ⟨fun part hpart => ?_, fun hsound => ⟨fun hf => ?_, fun hf heng => ?_, fun hf heng => ⟨fun y hy => ?_, fun hn => ⟨_, e, ?_⟩⟩⟩⟩
    · rw [e, ← finishJob_reply h]
      simp only [restoreItemJob, hpart]
    · rw [e, ← finishJob_reply h]
      simp [restoreItemJob, hsound, hf]
    · rw [e, ← finishJob_reply h]
      simp [restoreItemJob, hsound, hf, heng]
    · rw [e, ← finishJob_reply h]
      simp [restoreItemJob, hsound, hf, heng, lookup_of_found _ _ y s hy]
    · rw [restoreItemJob_of_absent hsound hf heng hn, restoreInto_eq]
      have hrec := fun y => restored_record slot.toFin y (parseImage image) s
      simp only [State.record, finishJob_memory, reply_memory, finishJob_engine, reply_engine, finishJob_ports, finishJob_channels,
        reply_channels, finishJob_hold, reply_hold, finishJob_pinTable, reply_pinTable, finishJob_store, reply_store]
      exact ⟨(hrec _).trans (if_pos rfl), parseImage_clean image, fun y hy => (hrec y).trans (if_neg hy), rfl,
        fun hw => ⟨(restored_chain hw _ _ _).trans (if_pos rfl), fun b hb => (restored_chain hw _ _ b).trans (if_neg hb)⟩,
        isFaulted_of_cleared (by rw [finishJob_engine, reply_engine]; rfl), rfl,
        answer_ports h (t := restored _ _ s) rfl _ _, rfl, rfl, rfl, rfl⟩
  · have e : exec (.discardItem p) s = .next (finishJob (discardItemJob p slot.toFin s)) := exec_granted h hg rfl (by simp)
    dsimp only
    refine ⟨fun hf => ?_, fun hf heng => ?_, fun hf heng => ⟨_, e, ?_⟩⟩
    · rw [e, ← finishJob_reply h]
      simp [discardItemJob, hf]
    · rw [e, ← finishJob_reply h]
      simp [discardItemJob, hf, heng]
    · rw [discardItemJob_of_faulted hf heng]
      have hrec := fun y => discarded_record slot.toFin y s
      have hfaulted : (discarded slot.toFin s).engine.faulted = _ := congrArg Engine.faulted (discarded_engine slot.toFin s)
      have hstack : (discarded slot.toFin s).engine.freeStack = _ := congrArg Engine.freeStack (discarded_engine slot.toFin s)
      obtain ⟨hheader, hpins, hchannels, hhold, hstore⟩ := discarded_apart slot.toFin s
      have hdone := replied_after h (discarded_alerted slot.toFin s) .ok
        [.u16 slot.toFin.val, Field.flag (s.engine.isLinked slot.toFin), .u8 (s.pinsOn slot.toFin)]
      simp only [State.record, finishJob_memory, reply_memory, finishJob_engine, reply_engine, finishJob_channels, reply_channels,
        finishJob_hold, reply_hold, finishJob_pinTable, reply_pinTable, finishJob_store, reply_store, finishJob_port]
      exact ⟨(hrec _).trans (if_pos rfl), fun y hy => (hrec y).trans (if_neg hy), hheader, hstack, fun hw b => discarded_chain hw _ b,
        isFaulted_of_cleared (by rw [finishJob_engine, reply_engine, hfaulted]), hpins,
        fun pin hpin hslot => (finishJob_alerted _).notified.reached <| reached_reply _ _ (lapsePins_reached hpin hslot), hdone.1, hdone.2,
        hchannels, hhold, hstore⟩

end Sys2Proof.Machine
end
